-- ==== Sys2Proof/Word.lean ====
section
/-! DEFINITION. The word types of the part: a received serial character, a line of text, an infrared frame. -/

namespace Sys2Proof

/-- A serial character: 8 data bits (R1). -/
abbrev Byte := BitVec 8

/-- A line of text as the receiver assembles it. -/
abbrev Text := List Char

/-- The sixteen bits of an infrared data frame (R17). -/
abbrev IrWord := BitVec 16

end Sys2Proof
end

