-- ==== Sys2Proof/Syntax.lean ====
section
/-! DEFINITION. The commands of the part: `Request` holds every message of the line, `Instr` every row of
spec/opcode_table.json (each request, each event), with the names and values they carry. -/

namespace Sys2Proof

/-! ## Names -/

/-- R1: the four levels of the baud strap pin. -/
inductive StrapLevel | low | resistor | floating | high
  deriving DecidableEq, Repr

/-- R8: the eight report classes, in the order of R13. -/
inductive ReportClass | slide | lamp | heat | tape | cue | key | show | fault
  deriving DecidableEq, Repr

/-- The direction of the tray motor, and of the tape motor's last drive. -/
inductive Direction | forward | reverse
  deriving DecidableEq, Repr

/-- The origin of a changer request (chapter 02, table of a target's fields). -/
inductive Origin | line | remote | wired | cue | show
  deriving DecidableEq, Repr

/-- The two positions of the lamp carrier. -/
inductive LampPos | primary | spare
  deriving DecidableEq, Repr

/-- R64: where the lamp current stands against the open and the short threshold. -/
inductive LampCurrent | belowOpen | normal | aboveShort
  deriving DecidableEq, Repr

/-- The three tone detectors TD0, TD1 and TD2. -/
abbrev Detector := Fin 3

/-- R127: the length class of a classified burst. -/
inductive LengthClass | short | long
  deriving DecidableEq, Repr

/-- A cue symbol: a detector with a length class. -/
structure Symbol where
  detector : Detector
  length : LengthClass
  deriving DecidableEq, Repr

/-- R131: the actions of the cue map (`nothing` is NONE). -/
inductive CueAction | next | back | tapeStop | mark | nothing
  deriving DecidableEq, Repr

/-- R186: the sources of a trigger. -/
inductive Source | line | remote | wired | cue | dwell
  deriving DecidableEq, Repr

/-- R187: the operating modes. -/
inductive Mode | manual | show | held | program
  deriving DecidableEq, Repr

/-- R188: the entries of the permission table. -/
inductive Perm | act | note | drop
  deriving DecidableEq, Repr

/-- R200: the thirteen fault kinds, in the order of its table. -/
inductive FaultKind
  | jam | slideStuck | noZero | trayOut | lampOpen | lampShort | shiftFail | fanStall | heatWarn | heatTrip
  | sensorBad | supplyLow | cueStuck
  deriving DecidableEq, Repr

/-- R200: the fault modes. -/
inductive FaultMode | off | report | retry | retrySlow | retryFast | latch
  deriving DecidableEq, Repr

/-- The direction of the focus motor: IN or OUT. -/
inductive FocusDir | inward | outward
  deriving DecidableEq, Repr

/-- R154: the two wired key inputs. -/
inductive WiredKey | fwd | rev
  deriving DecidableEq, Repr

/-- The two motors of the changer (R23). -/
inductive ChangerMotor | tray | gate
  deriving DecidableEq, Repr

/-- R144: the keys of the remote. -/
inductive Key
  | forward | reverse | focusIn | focusOut | lamp | show | stop | go | mute
  | digit (d : Fin 10)
  deriving DecidableEq, Repr

/-- The settings of all ten blocks (R21, R70, R78, R157, R181, R196). `coolAt k` is COOLk, `fanUp k` is FANUP(k+1)
and `fanDrive k` is FANDRIVE(k+1). -/
inductive Setting
  | tray | settle | retries | skipZero
  | keepWarm | dwellLimit | guard
  | ambient | watts | gain | coolAt (k : Fin 5) | fanUp (k : Fin 4) | fanDrive (k : Fin 4)
  | warnAt | tripAt | afterRun | warmUp
  | progNext | progBack
  | loop
  | catchUp | tapeHold | holdAt | releaseAt
  deriving DecidableEq, Repr

/-! ## Values that requests carry -/

/-- R12: the value of a SET, a number or a keyword. -/
inductive SetValue
  | num (n : Int)
  | word (w : String)
  deriving DecidableEq, Repr

/-- R14: the operands of REPORT. -/
inductive ReportSel
  | keep
  | all
  | none
  | classes (cs : List ReportClass)
  deriving DecidableEq, Repr

/-- R138: one name=value of TONE. The keyword values are as received, so that a keyword outside its list can be
refused. -/
inductive ToneItem
  | input (w : String)
  | freq (n : Int)
  | win (n : Int)
  | tol (n : Int)
  | hop (w : String)
  deriving DecidableEq, Repr

/-- R158: the operand of KEYADDR. -/
inductive KeyAddrArg
  | num (n : Int)
  | any
  deriving DecidableEq, Repr

/-- R182: one field=value of STEPDEF. A `word` is a keyword as received. -/
inductive StepField
  | slot (n : Int)
  | offset (k : Int)
  | slideWord (w : String)
  | style (w : String)
  | fades (out into : Int)
  | level (n : Int)
  | levelWord (w : String)
  | sound (volume fade : Int)
  | soundWord (w : String)
  | tape (w : String)
  | advance (w : String) (tenths : Option Nat)
  | unknown (name : String)
  deriving DecidableEq, Repr

/-! ## Requests -/

/-- The requests of the line, one constructor for each request row of the opcode table, with operands that have passed
the checks of form of R5. -/
inductive Request
  | set (name : Setting) (value : SetValue)
  | askSetting (name : Setting)
  | askLine
  | report (sel : ReportSel)
  | reset
  | goto (slot : Int)
  | move (k : Int)
  | park
  | home
  | askSlide
  | lamp (level : Int) (fade : Option Int)
  | curveLoad (i duty : Int)
  | curveRead (i : Int)
  | lampmodShift
  | lampmodAuto (on : Bool)
  | lampmodReplace (pos : LampPos)
  | lampmodRemove (pos : LampPos)
  | askLamp
  | powerOn
  | powerOff
  | askHeat
  | tapePlay
  | tapePause
  | tapeStop
  | tapeFwd
  | tapeRew
  | tapeCuerec
  | locate (count : Int) (play : Bool)
  | zero
  | vol (level : Int) (fade : Option Int)
  | muteOn
  | muteOff
  | askTape
  | tone (d : Int) (items : List ToneItem)
  | cuemapSet (d : Int) (length : LengthClass) (action : CueAction)
  | cuemapRead (d : Int) (length : LengthClass)
  | cuewrite (d : Int) (length : LengthClass)
  | cuelog (n : Option Int) (before : Option Int)
  | cuelogCounts
  | keyaddr (addr : Option KeyAddrArg)
  | focusIn (ms : Int)
  | focusOut (ms : Int)
  | focusStop
  | askKeys
  | stepdef (n : Int) (keep : Bool) (fields : List StepField)
  | stepdel (n : Int)
  | stepask (n : Int)
  | showRun
  | showStop
  | showHold
  | showResume
  | showStatus
  | next
  | back
  | jump (n : Int)
  | permitSet (source : Source) (mode : Mode) (value : Perm)
  | permitRead (source : Source) (mode : Mode)
  | permitStatus
  | clear (kind : Option FaultKind)
  | faultmodeSet (kind : FaultKind) (mode : FaultMode)
  | faultmodeRead (kind : FaultKind)
  | askFaults
  deriving DecidableEq, Repr

/-- R5, checks 1 to 4: why a line is refused before its verb is known to be one of the part. -/
inductive LineFault
  | overlong
  | garbled
  | noVerb
  | unknownVerb (word : String)
  deriving DecidableEq, Repr

/-- A completed line (R3): text, the marker of an overlong or garbled line, or, for a request row of the opcode table, a
line given by the request its text spells (DESIGN CHOICE, log entry 5). -/
inductive RxLine
  | text (chars : Text)
  | bad (fault : LineFault)
  | request (r : Request)
  deriving DecidableEq, Repr

/-! ## Events -/

/-- R2: what the receiver gets in one character time. -/
inductive RxChar
  | byte (b : Byte)
  | framingError
  deriving DecidableEq, Repr

/-- R142: one measured duration of the infrared envelope, in microseconds; `spaceRuns` is a space still running
(DESIGN CHOICE, log entry 10). -/
inductive IrSegment
  | mark (us : Nat)
  | space (us : Nat)
  | spaceRuns (us : Nat)
  deriving DecidableEq, Repr

/-- R17: the measured durations of a data frame: leader mark, gap, a mark and a space for each bit, trailing mark. -/
structure IrDataTiming where
  leader : Nat
  gap : Nat
  bits : List (Nat × Nat)
  trailer : Nat
  deriving DecidableEq, Repr

/-- R17: the measured durations of a repeat frame. -/
structure IrRepeatTiming where
  leader : Nat
  gap : Nat
  trailer : Nat
  deriving DecidableEq, Repr

/-- The levels of the input pins (chapter 00, physical summary). -/
structure Pins where
  /-- R1: the baud strap. -/
  strap : StrapLevel
  /-- The tray switch: a tray is seated. -/
  trayIn : Bool
  /-- R20: the top switch of the gate arm is closed. -/
  topSwitch : Bool
  /-- R20: the seat switch of the gate arm is closed. -/
  seatSwitch : Bool
  /-- R20: the gate light barrier is interrupted. -/
  barrier : Bool
  /-- R19: the zero sensor is active. -/
  zeroSensor : Bool
  /-- R34: the tray and gate motor current is above its limit. -/
  motorOver : Bool
  /-- R64: the lamp current. -/
  lampCurrent : LampCurrent
  /-- R62: the position the shift switch shows. -/
  shiftSwitch : Option LampPos
  /-- R80: the housing sensor, converted to tenths of a degree. -/
  housing : Int
  /-- R102: the cassette switch: a tape is loaded. -/
  tapeIn : Bool
  /-- R154: the wired FWD input is closed. -/
  wiredFwd : Bool
  /-- R154: the wired REV input is closed. -/
  wiredRev : Bool
  /-- R156: the focus motor current is above its limit. -/
  focusOver : Bool
  /-- R207: the power-stage supply is above the comparator's threshold. -/
  supplyGood : Bool
  deriving DecidableEq, Repr

/-- The commands: one constructor for each row of spec/opcode_table.json, in the table's order. -/
inductive Instr
  | hardReset (pins : Pins)
  | softReset
  | characterReceived (c : RxChar)
  | transmitLineEnd
  | lineRefusedForm (fault : LineFault)
  | set (name : Setting) (value : SetValue)
  | askSetting (name : Setting)
  | askLine
  | report (sel : ReportSel)
  | reset
  | goto (slot : Int)
  | move (k : Int)
  | park
  | home
  | askSlide
  | indexPulse (zero : Bool)
  | topSwitchChange (closed : Bool)
  | seatSwitchChange (closed : Bool)
  | gateBarrierChange (interrupted : Bool)
  | motorDeadTimeEnd (motor : ChangerMotor)
  | motorBlankingEnd
  | motorCurrentChange (high : Bool)
  | overcurrentDeglitchEnd
  | phaseTimeout
  | backoffDriveEnd
  | settleEnd
  | trayOut
  | trayIn (zero : Bool)
  | lamp (level : Int) (fade : Option Int)
  | curveLoad (i duty : Int)
  | curveRead (i : Int)
  | lampmodShift
  | lampmodAuto (on : Bool)
  | lampmodReplace (pos : LampPos)
  | lampmodRemove (pos : LampPos)
  | askLamp
  | lampUpdate
  | lampCurrentChange (current : LampCurrent)
  | openTimerExpiry
  | shiftSwitchChange (position : Option LampPos)
  | shiftTimeout
  | powerOn
  | powerOff
  | askHeat
  | thermalPeriod (reading : Int)
  | fanTachPulse
  | riseStep
  | tapePlay
  | tapePause
  | tapeStop
  | tapeFwd
  | tapeRew
  | tapeCuerec
  | locate (count : Int) (play : Bool)
  | zero
  | vol (level : Int) (fade : Option Int)
  | muteOn
  | muteOff
  | askTape
  | tapeOut
  | tapeIn
  | tapePulse
  | reverseGuardEnd
  | endOfTape
  | volumeUpdate
  | tone (d : Int) (items : List ToneItem)
  | cuemapSet (d : Int) (length : LengthClass) (action : CueAction)
  | cuemapRead (d : Int) (length : LengthClass)
  | cuewrite (d : Int) (length : LengthClass)
  | cuelog (n : Option Int) (before : Option Int)
  | cuelogCounts
  | detectorWindowEnd (d : Detector)
  | cueWritten
  | keyaddr (addr : Option KeyAddrArg)
  | focusIn (ms : Int)
  | focusOut (ms : Int)
  | focusStop
  | askKeys
  | irDataFrame (frame : IrDataTiming)
  | irRepeatFrame (frame : IrRepeatTiming)
  | irFrameInvalid (segments : List IrSegment)
  | keyReleaseTimeout
  | digitsExpired
  | wiredInputChange (key : WiredKey) (closed : Bool)
  | wiredDebounceEnd (key : WiredKey)
  | focusRestEnd
  | focusBlankingEnd
  | focusCurrentChange (high : Bool)
  | focusRunEnd
  | stepdef (n : Int) (keep : Bool) (fields : List StepField)
  | stepdel (n : Int)
  | stepask (n : Int)
  | showRun
  | showStop
  | showHold
  | showResume
  | showStatus
  | dwellExpiry
  | next
  | back
  | jump (n : Int)
  | permitSet (source : Source) (mode : Mode) (value : Perm)
  | permitRead (source : Source) (mode : Mode)
  | permitStatus
  | clear (kind : Option FaultKind)
  | faultmodeSet (kind : FaultKind) (mode : FaultMode)
  | faultmodeRead (kind : FaultKind)
  | askFaults
  | supplyComparatorChange (good : Bool)
  | supplyDeglitchEnd
  | supplyRetryEnd
  | risingCrossing (d : Detector)
  deriving DecidableEq, Repr

end Sys2Proof
end

