-- ==== Sys2Proof/Decode.lean ====
section
/-! DEFINITION. The commands that words spell. The opcode table gives no row any bits: a command of this part is a line of
text, a received character or an event, never a word. -/

namespace Sys2Proof

/-- The command that a word of `nbits` bits spells: none (DEDUCED, log entry 30). -/
def decodeTableWord (_nbits _w : Nat) : Option Instr := none

end Sys2Proof
end

