-- ==== Sys2Proof/Config.lean ====
section
/-! DEFINITION. What the manual fixes for every EL-380: the sizes, times and thresholds that no request can change.
The manual leaves no value free, so there is no opaque constant here. -/

namespace Sys2Proof.Config

/-- R2: characters a line can hold. -/
def lineLength : Nat := 72
/-- R3: places in the receive buffer. -/
def bufferPlaces : Nat := 2
/-- R9: places in the report queue. -/
def reportPlaces : Nat := 16
/-- R3, R9, R157: ceiling of the 16-bit saturating counts. -/
def max16 : Nat := 65535
/-- R133, R186: modulus of the wrapping 32-bit counters. -/
def wrap32 : Nat := 4294967296
/-- R63: ceiling of a lamp record's burn seconds. -/
def maxBurn : Nat := 4294967295

/-- R23: dead time of the tray and gate motors, ms. -/
def deadTime : Nat := 30
/-- R23: blanking of the tray and gate motor current comparator, ms. -/
def motorBlanking : Nat := 60
/-- R34: deglitch time of a motor over-current, ms. -/
def overcurrentDeglitch : Nat := 20
/-- R26, R30: timeout of LIFT and of DROP, ms of drive. -/
def armTimeout : Nat := 600
/-- R28, R32: index timeout, ms of drive. -/
def indexTimeout : Nat := 400
/-- R35: reverse drive of a backoff, ms. -/
def backoffDrive : Nat := 150
/-- R31: ceiling of a shortened settle, ms. -/
def shortSettle : Nat := 100

/-- R53: period of the lamp update, ms. -/
def lampUpdate : Nat := 10
/-- R56: length of the guard recovery, ms. -/
def guardRecovery : Nat := 150
/-- R64: open time that makes a lamp FAILED, ms. -/
def openTime : Nat := 100
/-- R64: least duty at which the open check is made. -/
def openCheckDuty : Nat := 400
/-- R68: shift timeout, ms of drive. -/
def shiftTimeout : Nat := 1500
/-- R60: delivered level above which the dwell timer runs. -/
def dwellLevel : Nat := 800
/-- R60: the dwell cap in force. -/
def dwellCapValue : Nat := 600

/-- R79: the thermal period, ms. -/
def thermalPeriod : Nat := 1000
/-- R93: the step of a rise, ms. -/
def riseStep : Nat := 10
/-- R78: the after-run threshold, tenths of a degree. -/
def afterRunThreshold : Nat := 450
/-- R98: the estimate a hard reset assumes without a sensor. -/
def blindEstimate : Nat := 900

/-- R104: the reverse guard, ms of rest. -/
def reverseGuard : Nat := 300
/-- R105: the end timer's limit, ms. -/
def endOfTape : Nat := 1500
/-- R114: period of the volume update, ms. -/
def volumeUpdate : Nat := 20
/-- R109: half-width of the approach window, counts. -/
def approachWindow : Nat := 30
/-- R103: limit of the tape counter in either direction. -/
def tapeLimit : Int := 32000
/-- R113: length of the hold fade and of the resume fade, ms. -/
def holdFade : Nat := 500

/-- R18, R136: time of a written burst, ms. -/
def writtenShort : Nat := 120
/-- R18, R136: time of a written LONG burst, ms. -/
def writtenLong : Nat := 400
/-- R134: entries the cue log holds. -/
def cueLogPlaces : Nat := 32
/-- R123: ceiling of a window's crossing count. -/
def maxCrossings : Nat := 1023

/-- R145: release timer, ms. -/
def keyRelease : Nat := 250
/-- R152: entry timer, ms. -/
def digitExpiry : Nat := 4000
/-- R154: debounce time of a wired input, ms. -/
def wiredDebounce : Nat := 30
/-- R155: rest time of the focus motor, ms. -/
def focusRest : Nat := 30
/-- R155: blanking time of the focus current comparator, ms. -/
def focusBlanking : Nat := 60
/-- R155: longest driven time of a focus run, ms. -/
def focusLimit : Nat := 4000

/-- R161: steps the list can hold. -/
def maxSteps : Nat := 120
/-- R182: highest absolute slot a step may name. -/
def maxStepSlot : Int := 139
/-- R166, R168: length of the end ramps, ms. -/
def endRamp : Nat := 2000
/-- R186: records the trigger queue can hold. -/
def queuePlaces : Nat := 8

/-- R207: deglitch time of the supply monitor, ms. -/
def supplyDeglitch : Nat := 5
/-- R207: retry time of the supply monitor, ms. -/
def supplyRetry : Nat := 100

end Sys2Proof.Config
end

