-- ==== Sys2Proof/Machine/Words.lean ====
section
/-! DEFINITION. The manual's words for the names that messages carry, and the names that a word stands for. -/

namespace Sys2Proof

/-- The member of `all` whose word is `w`, if there is one. -/
def ofWord {α : Type} (word : α → String) (all : List α) (w : String) : Option α :=
  all.find? fun a => word a == w

/-- R8, R13: the eight classes in their order. -/
def ReportClass.all : List ReportClass := [.slide, .lamp, .heat, .tape, .cue, .key, .show, .fault]

/-- R8: the class names. -/
def ReportClass.word : ReportClass → String
  | .slide => "SLIDE" | .lamp => "LAMP" | .heat => "HEAT" | .tape => "TAPE"
  | .cue => "CUE" | .key => "KEY" | .show => "SHOW" | .fault => "FAULT"

/-- R51: FORWARD or REVERSE. -/
def Direction.word : Direction → String
  | .forward => "FORWARD" | .reverse => "REVERSE"

/-- The opposite direction. -/
def Direction.flip : Direction → Direction
  | .forward => .reverse | .reverse => .forward

/-- R51: the origins of a changer request. -/
def Origin.word : Origin → String
  | .line => "LINE" | .remote => "REMOTE" | .wired => "WIRED" | .cue => "CUE" | .show => "SHOW"

/-- R76: the lamp positions. -/
def LampPos.word : LampPos → String
  | .primary => "PRIMARY" | .spare => "SPARE"

/-- The other lamp position. -/
def LampPos.other : LampPos → LampPos
  | .primary => .spare | .spare => .primary

/-- The lamp positions. -/
def LampPos.all : List LampPos := [.primary, .spare]

/-- TD0, TD1 or TD2. -/
def detectorWord (d : Detector) : String :=
  if d = 0 then "TD0" else if d = 1 then "TD1" else "TD2"

/-- The detectors in order. -/
def detectors : List Detector := [0, 1, 2]

/-- R139: SHORT or LONG. -/
def LengthClass.word : LengthClass → String
  | .short => "SHORT" | .long => "LONG"

/-- The length classes. -/
def LengthClass.all : List LengthClass := [.short, .long]

/-- R199: a symbol as PERMIT STATUS gives it, TD0_SHORT. -/
def Symbol.word (y : Symbol) : String := detectorWord y.detector ++ "_" ++ y.length.word

/-- Chapter 06: the six symbols in map order. -/
def Symbol.all : List Symbol :=
  [⟨0, .short⟩, ⟨0, .long⟩, ⟨1, .short⟩, ⟨1, .long⟩, ⟨2, .short⟩, ⟨2, .long⟩]

/-- R131: the cue actions. -/
def CueAction.word : CueAction → String
  | .next => "NEXT" | .back => "BACK" | .tapeStop => "TAPE_STOP" | .mark => "MARK" | .nothing => "NONE"

/-- The cue actions. -/
def CueAction.all : List CueAction := [.next, .back, .tapeStop, .mark, .nothing]

/-- R199: the sources. -/
def Source.word : Source → String
  | .line => "LINE" | .remote => "REMOTE" | .wired => "WIRED" | .cue => "CUE" | .dwell => "DWELL"

/-- The sources. -/
def Source.all : List Source := [.line, .remote, .wired, .cue, .dwell]

/-- R187: the operating modes. -/
def Mode.word : Mode → String
  | .manual => "MANUAL" | .show => "SHOW" | .held => "HELD" | .program => "PROGRAM"

/-- The operating modes. -/
def Mode.all : List Mode := [.manual, .show, .held, .program]

/-- R188: the permission entries. -/
def Perm.word : Perm → String
  | .act => "ACT" | .note => "NOTE" | .drop => "DROP"

/-- The permission entries. -/
def Perm.all : List Perm := [.act, .note, .drop]

/-- R200: the fault kinds in the order of the table. -/
def FaultKind.all : List FaultKind :=
  [.jam, .slideStuck, .noZero, .trayOut, .lampOpen, .lampShort, .shiftFail, .fanStall, .heatWarn, .heatTrip, .sensorBad,
    .supplyLow, .cueStuck]

/-- R200: the names of the fault kinds. -/
def FaultKind.word : FaultKind → String
  | .jam => "JAM" | .slideStuck => "SLIDE_STUCK" | .noZero => "NO_ZERO" | .trayOut => "TRAY_OUT"
  | .lampOpen => "LAMP_OPEN" | .lampShort => "LAMP_SHORT" | .shiftFail => "SHIFT_FAIL" | .fanStall => "FAN_STALL"
  | .heatWarn => "HEAT_WARN" | .heatTrip => "HEAT_TRIP" | .sensorBad => "SENSOR_BAD" | .supplyLow => "SUPPLY_LOW"
  | .cueStuck => "CUE_STUCK"

/-- R205: the fault modes. -/
def FaultMode.word : FaultMode → String
  | .off => "OFF" | .report => "REPORT" | .retry => "RETRY" | .retrySlow => "RETRY_SLOW" | .retryFast => "RETRY_FAST"
  | .latch => "LATCH"

/-- R205: the fault modes. -/
def FaultMode.all : List FaultMode := [.off, .report, .retry, .retrySlow, .retryFast, .latch]

/-- R159: IN or OUT. -/
def FocusDir.word : FocusDir → String
  | .inward => "IN" | .outward => "OUT"

/-- R144: the key codes of the remote. -/
def Key.code : Key → Nat
  | .forward => 1 | .reverse => 2 | .focusIn => 3 | .focusOut => 4 | .lamp => 5
  | .show => 6 | .stop => 7 | .go => 8 | .mute => 9 | .digit d => 16 + d.val

/-- R144: the keys of the remote. -/
def Key.all : List Key :=
  [.forward, .reverse, .focusIn, .focusOut, .lamp, .show, .stop, .go, .mute, .digit 0, .digit 1, .digit 2, .digit 3,
    .digit 4, .digit 5, .digit 6, .digit 7, .digit 8, .digit 9]

/-- R144: the key of a code, if the code is assigned. -/
def Key.ofCode (n : Nat) : Option Key := Key.all.find? fun k => k.code == n

/-- R144: the key names. -/
def Key.word : Key → String
  | .forward => "FORWARD" | .reverse => "REVERSE" | .focusIn => "FOCUS_IN" | .focusOut => "FOCUS_OUT" | .lamp => "LAMP"
  | .show => "SHOW" | .stop => "STOP" | .go => "GO" | .mute => "MUTE" | .digit d => "DIGIT_" ++ toString d.val

/-- The names of the settings. -/
def Setting.word : Setting → String
  | .tray => "TRAY" | .settle => "SETTLE" | .retries => "RETRIES" | .skipZero => "SKIPZERO"
  | .keepWarm => "KEEPWARM" | .dwellLimit => "DWELLLIMIT" | .guard => "GUARD"
  | .ambient => "AMBIENT" | .watts => "WATTS" | .gain => "GAIN"
  | .coolAt k => "COOL" ++ toString k.val | .fanUp k => "FANUP" ++ toString (k.val + 1)
  | .fanDrive k => "FANDRIVE" ++ toString (k.val + 1)
  | .warnAt => "WARNAT" | .tripAt => "TRIPAT" | .afterRun => "AFTERRUN" | .warmUp => "WARMUP"
  | .progNext => "PROGNEXT" | .progBack => "PROGBACK" | .loop => "LOOP"
  | .catchUp => "CATCHUP" | .tapeHold => "TAPEHOLD" | .holdAt => "HOLDAT" | .releaseAt => "RELEASEAT"

/-- R12: the settings of all ten blocks. -/
def Setting.all : List Setting :=
  [.tray, .settle, .retries, .skipZero, .keepWarm, .dwellLimit, .guard, .ambient, .watts, .gain, .coolAt 0, .coolAt 1,
    .coolAt 2, .coolAt 3, .coolAt 4, .fanUp 0, .fanUp 1, .fanUp 2, .fanUp 3, .fanDrive 0, .fanDrive 1, .fanDrive 2,
    .fanDrive 3, .warnAt, .tripAt, .afterRun, .warmUp, .progNext, .progBack, .loop, .catchUp, .tapeHold, .holdAt,
    .releaseAt]

/-- ON or OFF. -/
def onOff (b : Bool) : String := if b then "ON" else "OFF"

/-- R6: the refusal words. -/
inductive RefusalWord | syntaxErr | unknown | range | state | busy | full
  deriving DecidableEq, Repr

/-- R6: the refusal words as sent. -/
def RefusalWord.word : RefusalWord → String
  | .syntaxErr => "SYNTAX" | .unknown => "UNKNOWN" | .range => "RANGE" | .state => "STATE" | .busy => "BUSY"
  | .full => "FULL"

end Sys2Proof
end

