-- ==== Sys2Proof/Machine/Operands.lean ====
section
/-! DEFINITION. The reading of a line of text (R5, R16): its verb, its operands by the grammar, and the request that they
spell, or the refusal by the first check that fails. -/

namespace Sys2Proof.Machine

/-! ## The grammar -/

/-- R16: the sign that a number carries, if any. -/
inductive Sign | unsigned | plus | minus
  deriving DecidableEq, Repr

/-- R16: an item: a number, with its sign, its whole part (negative after a minus) and its tenths when it has a point, or a
keyword. -/
inductive Item
  | num (sign : Sign) (whole : Int) (tenth : Option Nat)
  | word (w : String)
  deriving DecidableEq, Repr

/-- R16: a value: an item, or two items joined by a slash. -/
inductive Value
  | one (a : Item)
  | two (a b : Item)
  deriving DecidableEq, Repr

/-- R16: an operand; an empty one is absent. -/
inductive Operand
  | absent
  | val (v : Value)
  | named (key : String) (v : Value)
  deriving DecidableEq, Repr

/-- R16: a capital letter, as every letter is once the receiver has folded it. -/
def isLetter (c : Char) : Bool := decide ('A' ≤ c) && decide (c ≤ 'Z')

/-- R16: a digit. -/
def isDigitChar (c : Char) : Bool := decide ('0' ≤ c) && decide (c ≤ '9')

/-- R16: the characters of a keyword after its first. -/
def isWordChar (c : Char) : Bool := isLetter c || isDigitChar c || c == '_'

/-- The number that digits spell. -/
def digitsValue (cs : Text) : Nat := cs.foldl (fun n c => 10 * n + (c.toNat - '0'.toNat)) 0

/-- Leading and trailing spaces removed. -/
def trim (cs : Text) : Text := ((cs.dropWhile (· == ' ')).reverse.dropWhile (· == ' ')).reverse

/-- The pieces of a text between the places where a character stands. -/
def splitAt (sep : Char) : Text → List Text
  | [] => [[]]
  | c :: cs =>
    if c == sep then [] :: splitAt sep cs
    else
      match splitAt sep cs with
      | p :: ps => (c :: p) :: ps
      | [] => [[c]]

/-- R16: one to six digits, or one to six digits, a point and one digit. -/
def readDigits (cs : Text) : Option (Nat × Option Nat) :=
  let whole (ds : Text) : Bool := decide (1 ≤ ds.length) && decide (ds.length ≤ 6) && ds.all isDigitChar
  match splitAt '.' cs with
  | [ds] => if whole ds then some (digitsValue ds, none) else none
  | [ds, [t]] => if whole ds && isDigitChar t then some (digitsValue ds, some (digitsValue [t])) else none
  | _ => none

/-- R16: an item. -/
def readItem (cs : Text) : Option Item :=
  match cs with
  | [] => none
  | '+' :: ds => (readDigits ds).map fun (n, t) => .num .plus n t
  | '-' :: ds => (readDigits ds).map fun (n, t) => .num .minus (-n) t
  | c :: rest =>
    if isDigitChar c then (readDigits cs).map fun (n, t) => .num .unsigned n t
    else if isLetter c && rest.all isWordChar && decide (cs.length ≤ 12) then some (.word (String.ofList cs))
    else none

/-- R16: a value. -/
def readValue (cs : Text) : Option Value :=
  match splitAt '/' cs with
  | [a] => (readItem a).map .one
  | [a, b] =>
    match readItem a, readItem b with
    | some a, some b => some (.two a b)
    | _, _ => none
  | _ => none

/-- R16: an operand (DEDUCED, log entry 22). -/
def readOperand (cs : Text) : Option Operand :=
  match (splitAt '=' cs).map trim with
  | [[]] => some .absent
  | [v] => (readValue v).map .val
  | [k, v] =>
    match readItem k, readValue v with
    | some (.word key), some v => some (.named key v)
    | _, _ => none
  | _ => none

/-- R16: the operand list that follows a verb. -/
def readOperands (cs : Text) : Option (List Operand) :=
  match trim cs with
  | [] => some []
  | cs => (splitAt ',' cs).mapM fun p => readOperand (trim p)

/-! ## Operands of a kind -/

/-- A number without a point. -/
def Item.int : Item → Option Int
  | .num _ n none => some n
  | _ => none

/-- A keyword. -/
def Item.keyword : Item → Option String
  | .word w => some w
  | _ => none

/-- An operand that is a number without a point. -/
def Operand.int : Operand → Option Int
  | .val (.one a) => a.int
  | _ => none

/-- An operand that is a keyword. -/
def Operand.keyword : Operand → Option String
  | .val (.one a) => a.keyword
  | _ => none

/-- What a line spells: a request, or the word of its refusal. -/
abbrev Reading := Except RefusalWord Request

/-- A fault of form (R5, check 5). -/
def badForm : Reading := .error .syntaxErr

/-- A name that the verb does not know (R5, check 6). -/
def badName : Reading := .error .unknown

/-- The request of a name, or the refusal with UNKNOWN. -/
def named {α : Type} (a : Option α) (f : α → Request) : Reading :=
  match a with
  | some a => .ok (f a)
  | none => badName

/-- A verb without operands. -/
def readNone (r : Request) : List Operand → Reading
  | [] => .ok r
  | _ => badForm

/-- A verb with one number. -/
def readInt (f : Int → Request) : List Operand → Reading
  | [a] => (match a.int with | some n => .ok (f n) | none => badForm)
  | _ => badForm

/-- A verb with a number and, optionally, a second. -/
def readIntInt (f : Int → Option Int → Request) : List Operand → Reading
  | [a] | [a, .absent] => (match a.int with | some n => .ok (f n none) | none => badForm)
  | [a, b] => (match a.int, b.int with | some n, some m => .ok (f n (some m)) | _, _ => badForm)
  | _ => badForm

/-- A verb with one keyword out of a list. -/
def readWord (choices : List (String × Request)) : List Operand → Reading
  | [a] =>
    (match a.keyword with
      | some w => named (choices.find? fun c => c.1 == w) (·.2)
      | none => badForm)
  | _ => badForm

/-! ## The verbs -/

/-- R12: SET name,value. -/
def readSet : List Operand → Reading
  | [a, .val (.one v)] =>
    (match a.keyword, v with
      | some w, .num _ n none => named (ofWord Setting.word Setting.all w) fun k => .set k (.num n)
      | some w, .word x => named (ofWord Setting.word Setting.all w) fun k => .set k (.word x)
      | _, _ => badForm)
  | _ => badForm

/-- R13: the records that ASK reads. -/
def records : List (String × Request) :=
  [("LINE", .askLine), ("SLIDE", .askSlide), ("LAMP", .askLamp), ("HEAT", .askHeat), ("TAPE", .askTape),
    ("KEYS", .askKeys), ("FAULTS", .askFaults)]

/-- R13: ASK name. -/
def readAsk : List Operand → Reading
  | [a] =>
    (match a.keyword with
      | some w =>
        (match records.find? fun c => c.1 == w with
          | some c => .ok c.2
          | none => named (ofWord Setting.word Setting.all w) .askSetting)
      | none => badForm)
  | _ => badForm

/-- R14: REPORT. A class that is absent from the list, as in REPORT SLIDE, with a trailing comma, is a fault of form
(DESIGN CHOICE, log entry 22). -/
def readReport (ops : List Operand) : Reading :=
  match ops.mapM Operand.keyword with
  | none => badForm
  | some [] => .ok (.report .keep)
  | some ["ALL"] => .ok (.report .all)
  | some ["NONE"] => .ok (.report .none)
  | some ws =>
    if ws.contains "ALL" || ws.contains "NONE" then badForm
    else named (ws.mapM (ofWord ReportClass.word ReportClass.all)) fun cs => .report (.classes cs)

/-- R47: GOTO; a negative slot is a fault of form. -/
def readGoto (ops : List Operand) : Reading :=
  match readInt .goto ops with
  | .ok (.goto n) => if n < 0 then badForm else .ok (.goto n)
  | r => r

/-- R74: CURVE. -/
def readCurve : List Operand → Reading :=
  readIntInt fun i duty => match duty with | some d => .curveLoad i d | none => .curveRead i

/-- R75, R76: LAMPMOD. -/
def readLampmod (ops : List Operand) : Reading :=
  match ops.mapM Operand.keyword with
  | some ["SHIFT"] => .ok .lampmodShift
  | some ["REPLACE", p] => named (ofWord LampPos.word LampPos.all p) .lampmodReplace
  | some ["REMOVE", p] => named (ofWord LampPos.word LampPos.all p) .lampmodRemove
  | some ["AUTO", w] => named (ofWord onOff [true, false] w) .lampmodAuto
  | some (w :: rest) =>
    if ["SHIFT", "REPLACE", "REMOVE", "AUTO"].contains w || 1 < rest.length then badForm else badName
  | some [] | none => badForm

/-- R119: LOCATE. -/
def readLocate : List Operand → Reading
  | [a] | [a, .absent] => (match a.int with | some n => .ok (.locate n false) | none => badForm)
  | [a, b] =>
    (match a.int, b.keyword with
      | some n, some w => if w = "PLAY" then .ok (.locate n true) else badName
      | _, _ => badForm)
  | _ => badForm

/-- R138: an item of TONE: a fault of form, a name not known, or the item. An absent operand names nothing. -/
def readToneItem : Operand → Except RefusalWord (Option ToneItem)
  | .absent => .ok none
  | .named key (.one v) =>
    if key = "IN" then (match v with | .word w => .ok (some (.input w)) | _ => .error .syntaxErr)
    else if key = "HOP" then (match v with | .word w => .ok (some (.hop w)) | _ => .error .syntaxErr)
    else if key = "FREQ" then (match v.int with | some n => .ok (some (.freq n)) | none => .error .syntaxErr)
    else if key = "WIN" then (match v.int with | some n => .ok (some (.win n)) | none => .error .syntaxErr)
    else if key = "TOL" then (match v.int with | some n => .ok (some (.tol n)) | none => .error .syntaxErr)
    else .error .unknown
  | _ => .error .syntaxErr

/-- The items of a list when all can be read; otherwise SYNTAX when one is a fault of form, and UNKNOWN when none is. -/
def collect {α : Type} : List (Except RefusalWord (Option α)) → Except RefusalWord (List α)
  | [] => .ok []
  | x :: xs =>
    match x, collect xs with
    | .error .syntaxErr, _ => .error .syntaxErr
    | _, .error .syntaxErr => .error .syntaxErr
    | .error e, _ => .error e
    | _, .error e => .error e
    | .ok (some a), .ok as => .ok (a :: as)
    | .ok none, .ok as => .ok as

/-- The name before the equals sign of an operand. -/
def Operand.key : Operand → Option String
  | .named key _ => some key
  | .absent | .val _ => none

/-- R138: TONE. A name given twice is a fault of form, judged before a name that is not known. -/
def readTone : List Operand → Reading
  | a :: rest =>
    (match a.int, collect (rest.map readToneItem) with
      | some d, .ok items => if (rest.filterMap Operand.key).Nodup then .ok (.tone d items) else badForm
      | some _, .error e => if (rest.filterMap Operand.key).Nodup then .error e else badForm
      | none, _ => badForm)
  | [] => badForm

/-- A length class by its word. -/
def lengthOf (w : String) : Option LengthClass := ofWord LengthClass.word LengthClass.all w

/-- R139: CUEMAP. -/
def readCuemap : List Operand → Reading
  | [a, b] | [a, b, .absent] =>
    (match a.int, b.keyword with
      | some d, some w => named (lengthOf w) (.cuemapRead d)
      | _, _ => badForm)
  | [a, b, c] =>
    (match a.int, b.keyword, c.keyword with
      | some d, some w, some x =>
        (match lengthOf w, ofWord CueAction.word CueAction.all x with
          | some len, some act => .ok (.cuemapSet d len act)
          | _, _ => badName)
      | _, _, _ => badForm)
  | _ => badForm

/-- R140: CUEWRITE. -/
def readCuewrite : List Operand → Reading
  | [a, b] =>
    (match a.int, b.keyword with
      | some d, some w => named (lengthOf w) (.cuewrite d)
      | _, _ => badForm)
  | _ => badForm

/-- R141: CUELOG. -/
def readCuelog : List Operand → Reading
  | [] | [.absent] | [.absent, .absent] => .ok (.cuelog none none)
  | [.absent, b] => (match b.int with | some m => .ok (.cuelog none (some m)) | none => badForm)
  | [a] =>
    (match a.int, a.keyword with
      | some n, _ => .ok (.cuelog (some n) none)
      | none, some w => if w = "COUNTS" then .ok .cuelogCounts else badName
      | none, none => badForm)
  | [a, .absent] => (match a.int with | some n => .ok (.cuelog (some n) none) | none => badForm)
  | [a, b] => (match a.int, b.int with | some n, some m => .ok (.cuelog (some n) (some m)) | _, _ => badForm)
  | _ => badForm

/-- R158: KEYADDR. -/
def readKeyaddr : List Operand → Reading
  | [] | [.absent] => .ok (.keyaddr none)
  | [a] =>
    (match a.int, a.keyword with
      | some n, _ => .ok (.keyaddr (some (.num n)))
      | none, some w => if w = "ANY" then .ok (.keyaddr (some .any)) else badName
      | none, none => badForm)
  | _ => badForm

/-- R159: FOCUS. -/
def readFocus : List Operand → Reading
  | [a] =>
    (match a.keyword with
      | some w => if w = "STOP" then .ok .focusStop else if w = "IN" ∨ w = "OUT" then badForm else badName
      | none => badForm)
  | [a, b] =>
    (match a.keyword, b.int with
      | some w, some n =>
        if w = "IN" then .ok (.focusIn n) else if w = "OUT" then .ok (.focusOut n)
        else if w = "STOP" then badForm else badName
      | _, _ => badForm)
  | _ => badForm

/-- R182: the tenths of a second of a dwell; a negative time is read as 0, which is then clamped
(DEDUCED, log entry 22). -/
def tenthsOf : Item → Option Nat
  | .num .minus _ _ => some 0
  | .num _ n t => some (n.toNat * 10 + t.getD 0)
  | .word _ => none

/-- R182: the value of SL. -/
def readSlide : Value → Option StepField
  | .one (.num .unsigned n none) => some (.slot n)
  | .one (.num _ n none) => some (.offset n)
  | .one (.word w) => some (.slideWord w)
  | _ => none

/-- R182: the value of FD. -/
def readFades : Value → Option StepField
  | .one a => a.int.map fun n => .fades n n
  | .two a b => (match a.int, b.int with | some n, some m => some (.fades n m) | _, _ => none)

/-- R182: the value of LV. -/
def readLevel : Value → Option StepField
  | .one (.num _ n none) => some (.level n)
  | .one (.word w) => some (.levelWord w)
  | _ => none

/-- R182: the value of SN; a volume alone has a fade of 0. -/
def readSound : Value → Option StepField
  | .one (.num _ n none) => some (.sound n 0)
  | .one (.word w) => some (.soundWord w)
  | .two a b => (match a.int, b.int with | some n, some m => some (.sound n m) | _, _ => none)
  | _ => none

/-- R182: the value of AD. DWELL and CUE_OR_DWELL take a time, CUE, KEY and LINE take none (DEDUCED, log entry 21). -/
def readAdvance : Value → Option StepField
  | .one (.word w) => if w = "DWELL" ∨ w = "CUE_OR_DWELL" then none else some (.advance w none)
  | .two (.word w) t =>
    if w = "CUE" ∨ w = "KEY" ∨ w = "LINE" then none else (tenthsOf t).map fun n => .advance w (some n)
  | _ => none

/-- A value that is one keyword. -/
def readKeyword (f : String → StepField) : Value → Option StepField
  | .one (.word w) => some (f w)
  | _ => none

/-- R5, R182: a field of STEPDEF. An operand with no equals sign is a fault of form (check 5), a keyword that is no KEEP
right after n among them (DEDUCED, log entry 21). A name that is not in the list is kept, since R182 checks it after
others. -/
def readStepField : Operand → Except RefusalWord (Option StepField)
  | .absent => .ok none
  | .val _ => .error .syntaxErr
  | .named key v =>
    let field : Option StepField :=
      if key = "SL" then readSlide v else if key = "ST" then readKeyword .style v
      else if key = "FD" then readFades v else if key = "LV" then readLevel v
      else if key = "SN" then readSound v else if key = "TP" then readKeyword .tape v
      else if key = "AD" then readAdvance v else some (.unknown key)
    match field with
    | some f => .ok (some f)
    | none => .error .syntaxErr

/-- R182: STEPDEF (DEDUCED, log entry 22). -/
def readStepdef : List Operand → Reading
  | a :: rest =>
    let keep := rest.head? == some (.val (.one (.word "KEEP")))
    (match a.int, collect ((if keep then rest.drop 1 else rest).map readStepField) with
      | some n, .ok fields => .ok (.stepdef n keep fields)
      | some _, .error e => .error e
      | none, _ => badForm)
  | [] => badForm

/-- R185: SHOW. -/
def readShow : List Operand → Reading
  | [] | [.absent] => .ok .showStatus
  | ops =>
    readWord [("RUN", .showRun), ("STOP", .showStop), ("HOLD", .showHold), ("RESUME", .showResume),
      ("STATUS", .showStatus)] ops

/-- R199: PERMIT (DEDUCED, log entry 22). -/
def readPermit (ops : List Operand) : Reading :=
  match ops with
  | [] | [.absent] => .ok .permitStatus
  | _ =>
    let source := ofWord Source.word Source.all
    let mode := ofWord Mode.word Mode.all
    match (match ops with | [a, b, .absent] => [a, b] | _ => ops).mapM Operand.keyword with
    | some ["STATUS"] => .ok .permitStatus
    | some [a] => if (source a).isSome then badForm else badName
    | some [a, b] =>
      (match source a, mode b with
        | some x, some m => .ok (.permitRead x m)
        | _, _ => badName)
    | some [a, b, c] =>
      (match source a, mode b, ofWord Perm.word Perm.all c with
        | some x, some m, some p => .ok (.permitSet x m p)
        | _, _, _ => badName)
    | _ => badForm

/-- A fault kind by its word. -/
def kindOf (w : String) : Option FaultKind := ofWord FaultKind.word FaultKind.all w

/-- R204: CLEAR. -/
def readClear : List Operand → Reading
  | [a] =>
    (match a.keyword with
      | some w => if w = "ALL" then .ok (.clear none) else named (kindOf w) fun k => .clear (some k)
      | none => badForm)
  | _ => badForm

/-- R205: FAULTMODE. -/
def readFaultmode : List Operand → Reading
  | [a] | [a, .absent] => (match a.keyword with | some w => named (kindOf w) .faultmodeRead | none => badForm)
  | [a, b] =>
    (match a.keyword, b.keyword with
      | some w, some m =>
        (match kindOf w, ofWord FaultMode.word FaultMode.all m with
          | some k, some m => .ok (.faultmodeSet k m)
          | _, _ => badName)
      | _, _ => badForm)
  | _ => badForm

/-- The message index: the verbs, each with the reading of its operands. -/
def verbs : List (String × (List Operand → Reading)) :=
  [("ASK", readAsk), ("BACK", readNone .back), ("CLEAR", readClear), ("CUELOG", readCuelog), ("CUEMAP", readCuemap),
    ("CUEWRITE", readCuewrite), ("CURVE", readCurve), ("FAULTMODE", readFaultmode), ("FOCUS", readFocus),
    ("GOTO", readGoto), ("HOME", readNone .home), ("JUMP", readInt .jump), ("KEYADDR", readKeyaddr),
    ("LAMP", readIntInt .lamp), ("LAMPMOD", readLampmod), ("LOCATE", readLocate), ("MOVE", readInt .move),
    ("MUTE", readWord [("ON", .muteOn), ("OFF", .muteOff)]), ("NEXT", readNone .next), ("PARK", readNone .park),
    ("PERMIT", readPermit), ("POWER", readWord [("ON", .powerOn), ("OFF", .powerOff)]), ("REPORT", readReport),
    ("RESET", readNone .reset), ("SET", readSet), ("SHOW", readShow), ("STEPASK", readInt .stepask),
    ("STEPDEF", readStepdef), ("STEPDEL", readInt .stepdel),
    ("TAPE", readWord [("PLAY", .tapePlay), ("PAUSE", .tapePause), ("STOP", .tapeStop), ("FWD", .tapeFwd),
      ("REW", .tapeRew), ("CUEREC", .tapeCuerec)]),
    ("TONE", readTone), ("VOL", readIntInt .vol), ("ZERO", readNone .zero)]

/-! ## The line -/

/-- R5: what a line comes to: a request, or a refusal with the word that follows it. -/
inductive LineReading
  | request (r : Request)
  | refused (why : RefusalWord) (what : String)
  deriving DecidableEq, Repr

/-- R5, checks 1 to 4. -/
def refusalOf : LineFault → LineReading
  | .overlong => .refused .syntaxErr "LONG"
  | .garbled => .refused .syntaxErr "LINE"
  | .noVerb => .refused .syntaxErr "LINE"
  | .unknownVerb w => .refused .unknown (String.ofList (w.toList.take 12))

/-- R5: a line of text. -/
def readText (cs : Text) : LineReading :=
  let cs := trim cs
  let first := cs.takeWhile (· != ' ')
  let word := String.ofList first
  if first = [] || 12 < first.length || !first.all isLetter then refusalOf .noVerb
  else
    match verbs.find? fun v => v.1 == word with
    | none => refusalOf (.unknownVerb word)
    | some (_, read) =>
      match readOperands (cs.drop first.length) with
      | none => .refused .syntaxErr word
      | some ops =>
        match read ops with
        | .ok r => .request r
        | .error why => .refused why word

/-- R5: a line of the receive buffer (DEDUCED, log entry 22). -/
def readLine : RxLine → LineReading
  | .text cs => readText cs
  | .bad f => refusalOf f
  | .request r => .request r

end Sys2Proof.Machine
end

