-- ==== Sys2Proof/Machine/Blocks.lean ====
section
/-! DEFINITION. The state of each of the ten blocks, as the state table of its chapter lists it, and the value each block
takes at a hard reset, given the levels of the pins. Times are in milliseconds, but for the cue unit's instants, which are
in quarters of a millisecond (a long window of R123 lasts 1.25 times a whole number of milliseconds). A running timer is
`some` of the time that has passed on it; a timer that does not run is `none`. -/

namespace Sys2Proof.Machine

/-! ## Control line interface (chapter 01) -/

/-- R1: the baud rate. -/
inductive Baud | b9600 | b19200 | b38400 | b57600
  deriving DecidableEq, Repr

/-- R1: bits per second. -/
def Baud.rate : Baud → Nat
  | .b9600 => 9600 | .b19200 => 19200 | .b38400 => 38400 | .b57600 => 57600

/-- R1: the baud rate of each strap level. -/
def Baud.ofStrap : StrapLevel → Baud
  | .low => .b9600 | .resistor => .b19200 | .floating => .b38400 | .high => .b57600

/-- R16: one item of a field: a word, a number, a number with its sign, a number of tenths, a word and a number joined by a
colon (R206). -/
inductive Atom
  | word (w : String)
  | num (n : Int)
  | signed (n : Int)
  | tenths (n : Nat)
  | pair (w : String) (n : Int)
  deriving DecidableEq, Repr

/-- R16: a field of a line: an optional keyword and equals sign, items joined by slashes, and the CLAMPED mark. -/
structure Field where
  key : Option String := none
  parts : List Atom
  clamped : Bool := false
  deriving DecidableEq, Repr

/-- R16: a line the part sends. -/
inductive OutLine
  /-- An accepted reply: = and the verb, then the result fields. -/
  | accepted (verb : String) (fields : List Field)
  /-- A refusal: ? and the refusal word, then the verb (or LONG, LINE or the word received). -/
  | refused (why : RefusalWord) (what : String)
  /-- A report of a class. -/
  | report (cls : ReportClass) (fields : List Field)
  /-- *START HARD or *START SOFT. -/
  | start (hard : Bool)
  /-- *LOST LINE,n. -/
  | lostLine (n : Nat)
  /-- *LOST REPORTS,n. -/
  | lostReports (n : Nat)
  deriving DecidableEq, Repr

/-- R2: the line being assembled. `count` is the number of characters that count toward the 72. -/
structure Receiver where
  chars : Text
  count : Nat
  overlong : Bool
  garbled : Bool
  resync : Bool
  deriving DecidableEq, Repr

/-- R2: a new line, empty and unmarked. -/
def Receiver.empty : Receiver := ⟨[], 0, false, false, false⟩

/-- The state of the control line interface. -/
structure Line where
  baud : Baud
  receiver : Receiver
  /-- R3: complete lines, oldest first. -/
  buffer : List RxLine
  /-- R7: the reply slot. -/
  slot : Option OutLine
  resetPending : Bool
  /-- R9: the report queue, oldest first. -/
  queue : List OutLine
  /-- R8: the enabled classes, in the order of R13. -/
  mask : List ReportClass
  pendingLines : Nat
  pendingReports : Nat
  totalLines : Nat
  totalReports : Nat
  /-- R7: the line being sent; `none` while idle. -/
  transmitter : Option OutLine
  /-- The model's own: a line is being taken, so an idle transmitter waits for the reply (R4). False between commands. -/
  taking : Bool
  deriving DecidableEq, Repr

/-- R11: the interface after a hard reset. -/
def Line.afterReset (p : Pins) : Line :=
  { baud := .ofStrap p.strap, receiver := .empty, buffer := [], slot := none, resetPending := false, queue := [],
    mask := ReportClass.all, pendingLines := 0, pendingReports := 0, totalLines := 0, totalReports := 0,
    transmitter := some (.start true), taking := false }

/-! ## Changer (chapter 02) -/

/-- Chapter 02: position status. -/
inductive PosStatus | known | unsure | unhomed
  deriving DecidableEq, Repr

/-- Chapter 02: the arm field of the gate record. -/
inductive Arm | lifted | seated | moving | unknown
  deriving DecidableEq, Repr

/-- Chapter 02: the occupancy field of the gate record. -/
inductive Occupancy | slide | empty | unknown
  deriving DecidableEq, Repr

/-- Chapter 02: the states of the changer. -/
inductive ChangerState
  | noTray | unhomed | idle | lifting | rotating | dropping | settling | homing | backoff | jammed | halted
  deriving DecidableEq, Repr

/-- The phases that can jam (R34). -/
inductive Phase | lift | rotate | drop | homing
  deriving DecidableEq, Repr

/-- The drive of the gate motor. -/
inductive ArmDrive | up | down
  deriving DecidableEq, Repr

/-- Chapter 02: a target. -/
structure Target where
  slot : Nat
  origin : Origin
  park : Bool
  short : Bool
  deriving DecidableEq, Repr

/-- The state of the changer: its three records, its motors and timers, its settings. -/
structure Changer where
  state : ChangerState
  slot : Nat
  status : PosStatus
  trayPresent : Bool
  arm : Arm
  occupancy : Occupancy
  inFlight : Option Target
  pendingTarget : Option Target
  direction : Direction
  retries : Nat
  held : Option ChangerState
  jam : Option (FaultKind × Phase)
  /-- The drive of the tray motor; `none` while off. -/
  trayDrive : Option Direction
  /-- R19: the direction in which the tray motor was last driven. -/
  lastDriven : Direction
  /-- The drive of the gate motor; `none` while off. -/
  gateDrive : Option ArmDrive
  /-- R23: the running dead time of the tray motor. -/
  trayDead : Option Nat
  /-- R23: the running dead time of the gate motor. -/
  gateDead : Option Nat
  /-- R23: the start that the state calls for waits for a dead time. -/
  startDue : Bool
  /-- R23: the running blanking time. -/
  blanking : Option Nat
  /-- R34: the running deglitch time of an over-current. -/
  deglitch : Option Nat
  /-- R26, R28, R30, R32: the running phase timeout. -/
  phaseTimer : Option Nat
  /-- R35: the running reverse drive of a backoff. -/
  backoffTimer : Option Nat
  /-- R31: the running settle time. -/
  settleTimer : Option Nat
  /-- R21, R31: the length of the settle time, read when the SETTLE phase begins. -/
  settleTime : Nat
  /-- R25, R26: a homing run takes the place of ROTATE in the change in progress. -/
  homes : Bool
  /-- R24: the LIFT in progress returns to an interrupted homing run, whose pulse count is kept. -/
  keepCount : Bool
  /-- R32: the pulse count of the homing run. -/
  homingCount : Nat
  /-- R35: the phase whose jam is backed off. -/
  backoffPhase : Phase
  /-- R35: the reverse drive of the backoff has ended. -/
  backoffDriven : Bool
  /-- R35, R44: the retry of this backoff is counted; a drive made again after HALTED does not count it twice. -/
  backoffCounted : Bool
  /-- R35: the phase that jammed and is being retried, while the JAM condition is present. -/
  retryPhase : Option Phase
  /-- R21 TRAY: the tray size N. -/
  size : Nat
  settle : Nat
  retriesMax : Nat
  skipZero : Bool
  deriving DecidableEq, Repr

/-- R20: the arm field from the switches and the gate motor's drive. -/
def armOf (top seat driven : Bool) : Arm :=
  match top, seat with
  | true, false => .lifted
  | false, true => .seated
  | false, false => if driven then .moving else .unknown
  | true, true => .unknown

/-- R20: the occupancy that follows the arm and the barrier. -/
def occupancyOf (arm : Arm) (barrier : Bool) : Occupancy :=
  match arm with
  | .lifted => .empty
  | .seated => if barrier then .slide else .empty
  | .moving | .unknown => .unknown

/-- R45: the changer after a hard reset. The fields that R45 does not name have the model's values (DESIGN CHOICE, log entry
28), LIFT as `backoffPhase` among them. -/
def Changer.afterReset (p : Pins) : Changer :=
  { state := if p.trayIn then .unhomed else .noTray, slot := 0, status := .unhomed, trayPresent := p.trayIn,
    arm := armOf p.topSwitch p.seatSwitch false,
    occupancy := occupancyOf (armOf p.topSwitch p.seatSwitch false) p.barrier,
    inFlight := none, pendingTarget := none, direction := .forward, retries := 0, held := none, jam := none,
    trayDrive := none, lastDriven := .forward, gateDrive := none, trayDead := none, gateDead := none, startDue := false,
    blanking := none, deglitch := none, phaseTimer := none, backoffTimer := none, settleTimer := none, settleTime := 0,
    homes := false, keepCount := false, homingCount := 0, backoffPhase := .lift, backoffDriven := false,
    backoffCounted := false,
    retryPhase := none, size := 80, settle := 300, retriesMax := 2, skipZero := true }

/-! ## Lamp controller (chapter 03) -/

/-- R52: the origin of a lamp ramp. -/
inductive RampOrigin | line | remote | show
  deriving DecidableEq, Repr

/-- Chapter 03: the states of a lamp record. -/
inductive LampState | good | active | failed | absent
  deriving DecidableEq, Repr

/-- Chapter 03: a lamp record. -/
structure LampRecord where
  state : LampState
  burn : Nat
  part : Nat
  replaced : Bool
  deriving DecidableEq, Repr

/-- Chapter 03: the lamp ramp. -/
structure Ramp where
  start : Nat
  target : Nat
  duration : Nat
  elapsed : Nat
  origin : Option RampOrigin
  active : Bool
  deriving DecidableEq, Repr

/-- R67: a shift in progress: its target, its drive time, and whether its motor is driven (R69 freezes it). -/
structure Shift where
  target : LampPos
  drive : Nat
  driven : Bool
  deriving DecidableEq, Repr

/-- The state of the lamp controller. -/
structure Lamp where
  ramp : Ramp
  value : Nat
  requested : Nat
  lastLit : Nat
  pubTherm : Nat
  pubStall : Nat
  pubPower : Nat
  therm : Nat
  stall : Nat
  dwellCap : Nat
  guard : Nat
  power : Nat
  recovery : Option Nat
  level : Nat
  curve : Vector Nat 11
  duty : Nat
  dwell : Nat
  gateCleared : Bool
  primary : LampRecord
  spare : LampRecord
  path : Option LampPos
  shift : Option Shift
  autoShift : Bool
  shortHold : Bool
  shiftHold : Bool
  openTimer : Option Nat
  keepWarm : Nat
  /-- R70: the keep-warm duty in force, which follows the setting at each update. -/
  keepWarmNow : Nat
  dwellLimit : Nat
  guardOn : Bool
  /-- R56, R70: GUARD is still in force: OFF acts at the next update. -/
  guardNow : Bool
  /-- R53: time since the last update. -/
  updateTimer : Nat
  deriving DecidableEq, Repr

/-- R58: the default lamp curve. -/
def defaultCurve : Vector Nat 11 := #v[0, 41, 164, 369, 655, 1024, 1474, 2007, 2621, 3317, 4095]

/-- R71: a lamp record after a hard reset that finds `path` in the light path. -/
def LampRecord.afterReset (pos : LampPos) (path : Option LampPos) : LampRecord :=
  { state := if path = some pos then .active else .good, burn := 0, part := 0, replaced := false }

/-- R71: the lamp controller after a hard reset at which the heat and power unit publishes `cap` (R98). -/
def Lamp.afterReset (p : Pins) (occ : Occupancy) (cap : Nat) : Lamp :=
  { ramp := ⟨0, 0, 0, 0, none, false⟩, value := 0, requested := 0, lastLit := 1000,
    pubTherm := cap, pubStall := 1000, pubPower := 0, therm := 1000, stall := 1000, dwellCap := 1000,
    guard := if occ = .slide then 1000 else 0, power := 0, recovery := none, level := 0, curve := defaultCurve, duty := 0,
    dwell := 0, gateCleared := false, primary := .afterReset .primary p.shiftSwitch,
    spare := .afterReset .spare p.shiftSwitch, path := p.shiftSwitch, shift := none, autoShift := true,
    shortHold := false, shiftHold := false, openTimer := none, keepWarm := 60, keepWarmNow := 60, dwellLimit := 120, guardOn := true,
    guardNow := true, updateTimer := 0 }

/-! ## Heat and power unit (chapter 04) -/

/-- Chapter 04: the power states. -/
inductive PowerState | standby | warming | on | cooldown | tripped
  deriving DecidableEq, Repr

/-- R93: a rise: its elapsed time and the warm-up time it began with. -/
structure Rise where
  elapsed : Nat
  warmUp : Nat
  deriving DecidableEq, Repr

/-- R78: the settings of the heat and power unit. -/
structure HeatSettings where
  ambient : Int
  watts : Int
  gain : Int
  cool : Vector Int 5
  fanUp : Vector Int 4
  fanDrive : Vector Nat 4
  warnAt : Int
  tripAt : Int
  afterRun : Nat
  warmUp : Nat
  deriving DecidableEq, Repr

/-- R78: the default settings. -/
def HeatSettings.default : HeatSettings :=
  { ambient := 250, watts := 250, gain := 96, cool := #v[8, 24, 40, 60, 88], fanUp := #v[400, 550, 700, 850],
    fanDrive := #v[1200, 2000, 2900, 4095], warnAt := 1000, tripAt := 1200, afterRun := 60, warmUp := 800 }

/-- The state of the heat and power unit. -/
structure Heat where
  estimate : Int
  sensor : Int
  sensorValid : Bool
  effective : Int
  fan : Fin 5
  /-- R83: the duty the fan is driven with. -/
  fanDuty : Nat
  firstPeriod : Bool
  tachNow : Nat
  tachLast : Nat
  stall : Bool
  bad : Nat
  good : Nat
  warn : Bool
  trip : Bool
  thermCap : Nat
  stallCap : Nat
  powerLimit : Nat
  state : PowerState
  request : Bool
  rise : Option Rise
  afterSeconds : Nat
  recoverySeconds : Nat
  set : HeatSettings
  /-- R79: time since the last thermal period. -/
  periodTimer : Nat
  /-- R93: time since the last step of the rise. -/
  riseTimer : Nat
  deriving DecidableEq, Repr

/-- R80: a reading is valid from 0 to 2500. -/
def validReading (r : Int) : Bool := decide (0 ≤ r) && decide (r ≤ 2500)

/-- R82: the effective temperature. -/
def effectiveOf (estimate sensor : Int) (valid : Bool) : Int := if valid then max estimate sensor else estimate

/-- R86: the thermal cap formed from E. -/
def thermCapOf (warnAt tripAt e : Int) : Nat :=
  if e < warnAt then 1000 else if e < tripAt then (max 300 (1000 - 5 * (e - warnAt))).toNat else 0

/-- R98: the estimate a hard reset takes from the sensor. -/
def estimateAtReset (r : Int) : Int := if validReading r then r else Config.blindEstimate

/-- R98: the effective temperature at a hard reset. -/
def effectiveAtReset (r : Int) : Int := effectiveOf (estimateAtReset r) r (validReading r)

/-- R98: the heat and power unit after a hard reset. -/
def Heat.afterReset (p : Pins) : Heat :=
  { estimate := estimateAtReset p.housing, sensor := p.housing, sensorValid := validReading p.housing,
    effective := effectiveAtReset p.housing, fan := 4, fanDuty := 4095, firstPeriod := true, tachNow := 0, tachLast := 0,
    stall := false, bad := 0, good := 0, warn := false, trip := false,
    thermCap := thermCapOf 1000 1200 (effectiveAtReset p.housing), stallCap := 1000, powerLimit := 0,
    state := if (Config.afterRunThreshold : Int) ≤ effectiveAtReset p.housing then .cooldown else .standby,
    request := false, rise := none, afterSeconds := 0, recoverySeconds := 0, set := .default, periodTimer := 0,
    riseTimer := 0 }

/-! ## Transport controller (chapter 05) -/

/-- Chapter 05: the transport states. -/
inductive TapeState | noTape | stopped | playing | paused | windingFwd | windingRev | locating | cueRecord
  deriving DecidableEq, Repr

/-- Chapter 05: the end flag. -/
inductive EndFlag | none | fwd | rev
  deriving DecidableEq, Repr

/-- Chapter 05: the tape motor. -/
inductive TapeMotor | off | play | fwd | rev
  deriving DecidableEq, Repr

/-- R109: the origin of a locate. -/
inductive LocateOrigin | line | show
  deriving DecidableEq, Repr

/-- R109: the phases of a locate. -/
inductive LocatePhase | waiting | winding | arriving
  deriving DecidableEq, Repr

/-- R110, R111: the outcomes of a locate. -/
inductive LocateOutcome | arrived | command | endOfTape | supply | out
  deriving DecidableEq, Repr

/-- R109: a locate. -/
structure Locate where
  target : Int
  play : Bool
  origin : LocateOrigin
  phase : LocatePhase
  direction : Direction
  deriving DecidableEq, Repr

/-- R114: the origin of a volume ramp. -/
inductive VolOrigin | line | show | hold
  deriving DecidableEq, Repr

/-- R114: the volume ramp. -/
structure VolRamp where
  start : Nat
  target : Nat
  duration : Nat
  elapsed : Nat
  origin : VolOrigin
  active : Bool
  deriving DecidableEq, Repr

/-- R112: the pause reasons: a set drawn from QUEUE, SHOW and SUPPLY. -/
structure Reasons where
  byQueue : Bool
  byShow : Bool
  bySupply : Bool
  deriving DecidableEq, Repr

/-- The state of the transport controller. -/
structure Tape where
  state : TapeState
  present : Bool
  counter : Int
  endFlag : EndFlag
  motor : TapeMotor
  lastDir : Direction
  rest : Nat
  endTimer : Nat
  guard : Option TapeState
  locate : Option Locate
  reasons : Reasons
  holdPause : Bool
  ramp : VolRamp
  value : Nat
  resume : Nat
  mute : Bool
  delivered : Nat
  /-- R114: time since the last volume update. -/
  updateTimer : Nat
  deriving DecidableEq, Repr

/-- R117: the transport controller after a hard reset. The end timer is 0 (DESIGN CHOICE, log entry 35). -/
def Tape.afterReset (p : Pins) : Tape :=
  { state := if p.tapeIn then .stopped else .noTape, present := p.tapeIn, counter := 0, endFlag := .none, motor := .off,
    lastDir := .forward, rest := 0, endTimer := 0, guard := none, locate := none, reasons := ⟨false, false, false⟩,
    holdPause := false, ramp := ⟨0, 0, 0, 0, .line, false⟩, value := 0, resume := 0, mute := false, delivered := 0,
    updateTimer := 0 }

/-! ## Cue unit (chapter 06) -/

/-- Chapter 06: the settings of a detector. -/
structure DetectorSettings where
  audio : Bool
  freq : Nat
  win : Nat
  tol : Nat
  hop : Bool
  deriving DecidableEq, Repr

/-- R123: a window in progress, its instants in quarters of a millisecond. -/
structure Window where
  start : Nat
  len : Nat
  low : Nat
  high : Nat
  audio : Bool
  count : Nat
  deriving DecidableEq, Repr

/-- R125: the raw result of an ended window. -/
structure RawResult where
  hit : Bool
  start : Nat
  stop : Nat
  deriving DecidableEq, Repr

/-- R126: a burst in progress. -/
structure Burst where
  hits : Nat
  misses : Nat
  start : Nat
  lastHit : Nat
  echo : Bool
  deriving DecidableEq, Repr

/-- R126: the classifier of a detector. -/
inductive Classifier
  | quiet
  | burst (b : Burst)
  | stuck (b : Burst)
  deriving DecidableEq, Repr

/-- Chapter 06: everything the cue unit holds for one detector. `hitWindows` is the model's own: the raw-HIT windows that
an unsettled or running window of another detector may still overlap (R125). -/
structure DetectorUnit where
  set : DetectorSettings
  window : Option Window
  hopLong : Bool
  awaiting : List RawResult
  hitWindows : List RawResult
  classifier : Classifier
  lastWritten : Option Nat
  deriving DecidableEq, Repr

/-- R136: a burst being written: its detector, length class, frequency, start, and time remaining
(DESIGN CHOICE, log entry 27). -/
structure Writing where
  symbol : Symbol
  freq : Nat
  start : Nat
  remaining : Nat
  deriving DecidableEq, Repr

/-- R133: the dispositions. -/
inductive Disposition | acted | queued | full | noted | dropped | echo
  deriving DecidableEq, Repr

/-- R134: an entry of the cue log; origin WRITE when the disposition is absent. -/
structure LogEntry where
  seq : Nat
  symbol : Symbol
  action : CueAction
  disposition : Option Disposition
  count : Int
  deriving DecidableEq, Repr

/-- R133: the nine counters. -/
structure CueCounters where
  acted : Nat
  queued : Nat
  full : Nat
  noted : Nat
  dropped : Nat
  echo : Nat
  noise : Nat
  crosstalk : Nat
  writes : Nat
  deriving DecidableEq, Repr

/-- The state of the cue unit. -/
structure Cue where
  detecting : Bool
  units : Vector DetectorUnit 3
  map : Vector CueAction 6
  writer : Option Writing
  log : List LogEntry
  nextSeq : Nat
  counters : CueCounters
  deriving DecidableEq, Repr

/-- R137: a detector after a reset. -/
def DetectorUnit.afterReset (freq : Nat) : DetectorUnit :=
  { set := ⟨false, freq, 20, 12, false⟩, window := none, hopLong := false, awaiting := [], hitWindows := [],
    classifier := .quiet, lastWritten := none }

/-- R131: the default cue map, in map order. -/
def defaultCueMap : Vector CueAction 6 := #v[.next, .back, .mark, .tapeStop, .nothing, .nothing]

/-- R137: the cue unit after a reset of either kind. -/
def Cue.afterReset : Cue :=
  { detecting := false, units := #v[.afterReset 800, .afterReset 1250, .afterReset 2000], map := defaultCueMap,
    writer := none, log := [], nextSeq := 0, counters := ⟨0, 0, 0, 0, 0, 0, 0, 0, 0⟩ }

/-! ## Key receiver (chapter 07) -/

/-- R142: the phases of the frame decoder. The decoder judges a leader mark when it ends, so at the grain of the commands
LEADER is never seen (DESIGN CHOICE, log entry 10). -/
inductive IrPhase | waiting | leader | gap | bits | trailer
  deriving DecidableEq, Repr

/-- R142: the kind of the frame in progress. -/
inductive IrKind | data | repeated
  deriving DecidableEq, Repr

/-- R142: the frame decoder: phase, bits received (oldest first), kind, and in BITS whether a mark is expected next. -/
structure Decoder where
  phase : IrPhase
  bits : List Bool
  kind : IrKind
  markNext : Bool
  deriving DecidableEq, Repr

/-- R157: the decoder in WAITING. R142 and R157 give no kind, no bits and no expected mark to a decoder with no frame in
progress: the kind DATA, no bits and `markNext` false are the model's (DESIGN CHOICE, log entry 43). -/
def Decoder.waiting : Decoder := ⟨.waiting, [], .data, false⟩

/-- R155: the origin of a focus run. -/
inductive FocusOrigin | key | line
  deriving DecidableEq, Repr

/-- R155: a focus run. `driving` is its phase: DRIVING or WAITING. -/
structure FocusRun where
  dir : FocusDir
  origin : FocusOrigin
  driving : Bool
  driven : Nat
  requested : Option Nat
  blanking : Option Nat
  deriving DecidableEq, Repr

/-- R154: a wired input: its debounced state and the debounce time of a change. -/
structure WiredInput where
  closed : Bool
  debounce : Option Nat
  deriving DecidableEq, Repr

/-- The state of the key receiver. -/
structure Keys where
  decoder : Decoder
  /-- R158: the remote address; `none` is ANY. -/
  address : Option Nat
  /-- R145: the key held; `none` is IDLE. -/
  held : Option Key
  releaseTimer : Nat
  digits : List (Fin 10)
  entryTimer : Nat
  fwd : WiredInput
  rev : WiredInput
  focus : Option FocusRun
  focusRest : Nat
  progNext : LengthClass
  progBack : LengthClass
  invalid : Nat
  foreign : Nat
  unassigned : Nat
  ignored : Nat
  deriving DecidableEq, Repr

/-- R157: the key receiver after a reset of either kind. R145 and R157 give the release timer no value in IDLE: 0 is the
model's (DESIGN CHOICE, log entry 42). -/
def Keys.afterReset (p : Pins) : Keys :=
  { decoder := .waiting, address := none, held := none, releaseTimer := 0, digits := [], entryTimer := 0,
    fwd := ⟨p.wiredFwd, none⟩, rev := ⟨p.wiredRev, none⟩, focus := none, focusRest := 0, progNext := .short,
    progBack := .long, invalid := 0, foreign := 0, unassigned := 0, ignored := 0 }

/-! ## Show engine (chapter 08) -/

/-- R161: the slide field of a step. -/
inductive SlideField
  | slot (n : Nat)
  | offset (k : Int)
  deriving DecidableEq, Repr

/-- R161: the style of a step. -/
inductive Style | cut | fade
  deriving DecidableEq, Repr

/-- R161: the tape action of a step. -/
inductive StepTape | play | pause | stop | restart
  deriving DecidableEq, Repr

/-- R161: the advance of a step; a dwell is in tenths of a second. -/
inductive Advance
  | cue
  | key
  | line
  | dwell (tenths : Nat)
  | cueOrDwell (tenths : Nat)
  deriving DecidableEq, Repr

/-- R161: a step record; its number is its place in the list. -/
structure Step where
  slide : Option SlideField
  style : Style
  fadeOut : Nat
  fadeIn : Nat
  level : Option Nat
  sound : Option (Nat × Nat)
  tape : Option StepTape
  advance : Advance
  reached : Option Nat
  deriving DecidableEq, Repr

/-- R161: a step of which every field has its default. -/
def Step.default : Step := ⟨none, .fade, 800, 800, none, none, none, .cue, none⟩

/-- R164: the show states. -/
inductive ShowState | empty | ready | running | held | ended
  deriving DecidableEq, Repr

/-- R178: the hold causes, in the order of the state table. -/
inductive Cause
  | request | jam | slideStuck | noZero | trayOut | lampOpen | lampShort | shiftFail | heatTrip | supplyLow
  deriving DecidableEq, Repr

/-- R170: the entry reasons. -/
inductive EntryReason | run | next | back | jump
  deriving DecidableEq, Repr

/-- R170: the phases of a step. -/
inductive StepPhase | fadingOut | changing | fadingIn | settled
  deriving DecidableEq, Repr

/-- R172: the tape of the execution record. -/
inductive TapeWait | none | locating | owed | ready
  deriving DecidableEq, Repr

/-- R179: what fell due while the show was HELD. -/
inductive Deferred | none | goto | fadeIn
  deriving DecidableEq, Repr

/-- R170: the execution record. `dwellRuns` says whether the dwell timer runs (R178 stops it). -/
structure Execution where
  step : Nat
  reason : EntryReason
  target : Option Nat
  phase : StepPhase
  rampAwaited : Bool
  changeAwaited : Bool
  tape : TapeWait
  deferred : Deferred
  catchUp : Bool
  dwell : Option Nat
  dwellRuns : Bool
  deriving DecidableEq, Repr

/-- The state of the show engine. -/
structure Engine where
  steps : List Step
  state : ShowState
  /-- R178: the hold-cause set, in the order of the state table. -/
  causes : List Cause
  level : Nat
  execution : Option Execution
  loop : Bool
  deriving DecidableEq, Repr

/-- R181: the show engine after a reset of either kind. -/
def Engine.afterReset : Engine :=
  { steps := [], state := .empty, causes := [], level := 1000, execution := none, loop := true }

/-! ## Trigger queue (chapter 09) -/

/-- R186: the kind of a trigger. -/
inductive TriggerKind
  | next
  | back
  | jump (step : Nat)
  deriving DecidableEq, Repr

/-- R186: the detail of a trigger record. -/
inductive TriggerDetail
  | symbol (y : Symbol)
  | keyCode (n : Nat)
  deriving DecidableEq, Repr

/-- R186: a trigger record. -/
structure Trigger where
  seq : Nat
  source : Source
  kind : TriggerKind
  detail : Option TriggerDetail
  tape : Option Int
  deriving DecidableEq, Repr

/-- R186: the seven counters. -/
structure TriggerCounters where
  entered : Nat
  taken : Nat
  unused : Nat
  flushed : Nat
  full : Nat
  noted : Nat
  dropped : Nat
  deriving DecidableEq, Repr

/-- The state of the trigger queue. -/
structure Triggers where
  queue : List Trigger
  nextSeq : Nat
  /-- R188: the permission table, four modes for each source in turn. -/
  perms : Vector Perm 20
  /-- R187: the show state as last told. -/
  toldShow : ShowState
  /-- R187: the transport state as last told. -/
  toldTape : TapeState
  hold : Bool
  catchUp : Nat
  tapeHold : Bool
  holdAt : Nat
  releaseAt : Nat
  counters : TriggerCounters
  deriving DecidableEq, Repr

/-- R188: the default permission table. -/
def defaultPerms : Vector Perm 20 :=
  #v[.act, .act, .act, .act, .act, .act, .note, .act, .act, .act, .note, .act, .act, .act, .drop, .note, .drop, .act,
    .drop, .drop]

/-- R197: the trigger queue after a reset of either kind. -/
def Triggers.afterReset (p : Pins) : Triggers :=
  { queue := [], nextSeq := 0, perms := defaultPerms, toldShow := .empty,
    toldTape := if p.tapeIn then .stopped else .noTape, hold := false, catchUp := 2, tapeHold := true, holdAt := 6,
    releaseAt := 2, counters := ⟨0, 0, 0, 0, 0, 0, 0⟩ }

/-! ## Fault list and supply monitor (chapter 10) -/

/-- R200: the last detail of a fault record. -/
inductive FaultDetail
  | phaseSlot (p : Phase) (slot : Nat)
  | num (n : Int)
  | lamp (pos : LampPos)
  | detector (d : Detector)
  deriving DecidableEq, Repr

/-- R200: a fault record. Whether it is active is derived (R203). -/
structure FaultRecord where
  mode : FaultMode
  present : Bool
  latched : Bool
  count : Nat
  detail : Option FaultDetail
  tape : Option Int
  deriving DecidableEq, Repr

/-- R207: the states of the supply monitor. -/
inductive SupplyState | good | deglitch | low | recovering
  deriving DecidableEq, Repr

/-- R200: the place of a kind in the table. -/
def faultIndex : FaultKind → Fin 13
  | .jam => 0 | .slideStuck => 1 | .noZero => 2 | .trayOut => 3 | .lampOpen => 4 | .lampShort => 5 | .shiftFail => 6
  | .fanStall => 7 | .heatWarn => 8 | .heatTrip => 9 | .sensorBad => 10 | .supplyLow => 11 | .cueStuck => 12

/-- R200: the default mode of a kind. -/
def defaultMode : FaultKind → FaultMode
  | .jam | .fanStall | .supplyLow => .retry
  | .slideStuck | .noZero | .trayOut | .lampOpen | .lampShort | .shiftFail => .latch
  | .heatWarn | .sensorBad | .cueStuck => .report
  | .heatTrip => .retrySlow

/-- R208: a fault record after a reset. -/
def FaultRecord.afterReset (k : FaultKind) : FaultRecord := ⟨defaultMode k, false, false, 0, none, none⟩

/-- The state of the fault list and the supply monitor. -/
structure Faults where
  records : Vector FaultRecord 13
  /-- R203: the fault line is asserted. -/
  asserted : Bool
  supply : SupplyState
  /-- R207: the running deglitch or retry time. -/
  supplyTimer : Option Nat
  deriving DecidableEq, Repr

/-- R208: the records after a reset of either kind. -/
def defaultRecords : Vector FaultRecord 13 :=
  #v[.afterReset .jam, .afterReset .slideStuck, .afterReset .noZero, .afterReset .trayOut, .afterReset .lampOpen,
    .afterReset .lampShort, .afterReset .shiftFail, .afterReset .fanStall, .afterReset .heatWarn, .afterReset .heatTrip,
    .afterReset .sensorBad, .afterReset .supplyLow, .afterReset .cueStuck]

/-- R208: the fault list and the supply monitor after a hard reset. -/
def Faults.afterReset (p : Pins) : Faults :=
  { records := defaultRecords, asserted := false, supply := if p.supplyGood then .good else .deglitch,
    supplyTimer := if p.supplyGood then none else some 0 }

/-! ## What one block tells another -/

/-- What a block tells another in the course of a command. A telling waits in `State.signals` until the block that sent it
has finished its own event; between commands the list is empty. -/
inductive Signal
  /-- R31: the completion event of a change, to the show engine; the lamp controller has received it at once. -/
  | changeDone (slot : Nat) (origin : Origin)
  /-- R176: a change of the show engine's is refused, or handed back by R41. -/
  | changeRefused (why : RefusalWord) (slot : Nat)
  /-- R53: the completion event of a lamp ramp, to the show engine. -/
  | rampDone (level : Nat) (origin : Option RampOrigin)
  /-- R110, R111: the completion event of a locate of origin SHOW, to the show engine: the outcome and, at an arrival, the
  counter and the state entered. -/
  | locateDone (outcome : LocateOutcome) (arrival : Option (Int × TapeState))
  /-- R106: a change of transport state, to the cue unit. -/
  | tapeMoved (old new : TapeState)
  /-- R178: a cause enters the hold-cause set; `byItself` for one that brings no REQUEST. -/
  | causeIn (kind : FaultKind) (byItself : Bool)
  /-- R178: a cause leaves the hold-cause set. -/
  | causeOut (kind : FaultKind)
  /-- R191: an event at which the head record may be handed over. -/
  | offerHead
  /-- R194: an event at which the tape hold is reviewed. -/
  | reviewHold
  /-- R204: CLEAR of one kind. -/
  | clearKind (kind : FaultKind)
  /-- R125: the cue unit settles the next result that has nothing left to wait for. -/
  | settle
  /-- R129: detection has stopped; a classifier still in BURST or STUCK ends. -/
  | closeBurst (d : Detector)
  /-- R136: the transport has left CUE_RECORD; a burst being written is abandoned. -/
  | writeEnds
  deriving DecidableEq, Repr

end Sys2Proof.Machine
end

