-- ==== Sys2Proof/Machine/State.lean ====
section
/-! DEFINITION. The state of the part, its state after reset, and the reasons a step can stop. -/

namespace Sys2Proof.Machine

/-- The state of the part: the levels of its pins, the ten blocks, and what the model adds (`now`, `signals`, `pending`). -/
structure State where
  /-- The levels of the input pins as the last event left them. -/
  pins : Pins
  /-- The model's own clock, in quarters of a millisecond, for the instants of the cue unit. -/
  now : Nat
  line : Line
  changer : Changer
  lamp : Lamp
  heat : Heat
  tape : Tape
  cue : Cue
  keys : Keys
  engine : Engine
  triggers : Triggers
  faults : Faults
  /-- The model's own: tellings between blocks not yet received; empty between commands. -/
  signals : List Signal
  /-- The commands that wait, first in, first out. -/
  pending : List Instr
  deriving DecidableEq, Repr

/-- The reasons a step can stop with a fault. The manual stops the part nowhere, so there is none. -/
inductive Fault
  deriving DecidableEq, Repr

/-- The reasons a step can be refused. -/
inductive Refusal
  /-- Raised by `exec` for a command that has no meaning yet, by its mnemonic. Safe. No arm of this model raises it. -/
  | notModelled (mnemonic : String)
  deriving DecidableEq, Repr

/-- The whole part after a hard reset that finds the pins at `p` (DESIGN CHOICE, log entry 1). -/
def State.afterHardReset (p : Pins) : State :=
  { pins := p, now := 0, line := .afterReset p, changer := .afterReset p,
    lamp := .afterReset p (Changer.afterReset p).occupancy (Heat.afterReset p).thermCap,
    heat := .afterReset p, tape := .afterReset p, cue := .afterReset, keys := .afterReset p, engine := .afterReset,
    triggers := .afterReset p, faults := .afterReset p,
    signals := [], pending := [] }

/-- The pins that `State.reset` assumes (DESIGN CHOICE, log entry 1): a cool projector at rest, with a tray on its spindle,
the arm seated on the empty gap, PRIMARY in the light path, a tape loaded, a good supply and an open baud strap. -/
def Pins.quiet : Pins :=
  { strap := .floating, trayIn := true, topSwitch := false, seatSwitch := true, barrier := false, zeroSensor := true,
    motorOver := false, lampCurrent := .normal, shiftSwitch := some .primary, housing := 250, tapeIn := true,
    wiredFwd := false, wiredRev := false, focusOver := false, supplyGood := true }

/-- The part right after a hard reset with the pins of `Pins.quiet`, no command waiting (DESIGN CHOICE, log entry 1). -/
def State.reset : State := .afterHardReset Pins.quiet

end Sys2Proof.Machine
end

