-- ==== Sys2Proof/Machine/Flags.lean ====
section
/-! DEFINITION. What the blocks derive from the state rather than keep: whether SUPPLY_LOW is active, the operating mode,
which fault records are active, the target of record. -/

namespace Sys2Proof.Machine

/-- R207: SUPPLY_LOW is active from its raise until its going, that is in LOW and RECOVERING. -/
def State.supplyLow (s : State) : Bool :=
  s.faults.supply == .low || s.faults.supply == .recovering

/-- The show is RUNNING or HELD. -/
def ShowState.inShow (st : ShowState) : Bool := st == .running || st == .held

/-- The show of the engine is RUNNING or HELD. -/
def State.showBusy (s : State) : Bool := s.engine.state.inShow

/-- R187: the operating mode of a show state and a transport state. -/
def modeOf (st : ShowState) (tape : TapeState) : Mode :=
  match st with
  | .running => .show
  | .held => .held
  | .empty | .ready | .ended => if tape = .cueRecord then .program else .manual

/-- R187: the operating mode, from the show and transport states as the trigger queue was last told them. -/
def State.mode (s : State) : Mode := modeOf s.triggers.toldShow s.triggers.toldTape

/-- R203: the kinds whose latch holds a protective action: every kind but TRAY_OUT and LAMP_OPEN. -/
def holdsAction : FaultKind → Bool
  | .trayOut | .lampOpen => false
  | _ => true

/-- R203: a record is active. -/
def FaultRecord.active (k : FaultKind) (r : FaultRecord) : Bool :=
  r.mode != .off && (r.present || (r.latched && holdsAction k))

/-- The record of a kind. -/
def Faults.record (f : Faults) (k : FaultKind) : FaultRecord := f.records[faultIndex k]

/-- R203: some record is active. -/
def Faults.anyActive (f : Faults) : Bool := FaultKind.all.any fun k => (f.record k).active k

/-- R200: the modes a kind allows. -/
def allowedModes : FaultKind → List FaultMode
  | .jam => [.retry, .latch]
  | .slideStuck | .noZero | .lampOpen | .lampShort | .shiftFail => [.latch]
  | .trayOut => [.latch, .report]
  | .fanStall => [.retry, .report]
  | .heatWarn | .sensorBad | .cueStuck => [.report, .off]
  | .heatTrip => [.retrySlow, .retryFast, .latch]
  | .supplyLow => [.retry]

/-- R178: the hold cause a kind gives, if it holds the show. -/
def causeOf : FaultKind → Option Cause
  | .jam => some .jam | .slideStuck => some .slideStuck | .noZero => some .noZero | .trayOut => some .trayOut
  | .lampOpen => some .lampOpen | .lampShort => some .lampShort | .shiftFail => some .shiftFail
  | .heatTrip => some .heatTrip | .supplyLow => some .supplyLow
  | .fanStall | .heatWarn | .sensorBad | .cueStuck => none

/-- Chapter 02: the target of record: the pending slot, else the in-flight slot, else the current slot. -/
def Changer.targetOfRecord (c : Changer) : Nat :=
  match c.pendingTarget, c.inFlight with
  | some t, _ => t.slot
  | none, some t => t.slot
  | none, none => c.slot

/-- R22: the slot `k` places from `base` on a tray of `n`, with the skip-zero rule. -/
def relativeSlot (n : Nat) (skipZero : Bool) (base : Nat) (k : Int) : Nat :=
  let t := (((base : Int) + k) % (n : Int)).toNat
  if skipZero && k != 0 && t == 0 then (if 0 < k then 1 else n - 1) else t

/-- The relative slot taken from the changer's own target of record and settings. -/
def Changer.relative (c : Changer) (k : Int) : Nat := relativeSlot c.size c.skipZero c.targetOfRecord k

/-- The lamp record of a position. -/
def Lamp.record (l : Lamp) : LampPos → LampRecord
  | .primary => l.primary
  | .spare => l.spare

/-- The position whose record is ACTIVE, if there is one. -/
def Lamp.activePos (l : Lamp) : Option LampPos :=
  if l.primary.state = .active then some .primary else if l.spare.state = .active then some .spare else none

/-- R95: neither lamp record is GOOD or ACTIVE. -/
def Lamp.unusable (l : Lamp) : Bool :=
  let bad (r : LampRecord) : Bool := r.state != .good && r.state != .active
  bad l.primary && bad l.spare

/-- Chapter 06: the transport states in which the detectors listen, PLAYING and CUE_RECORD. -/
def TapeState.listening (t : TapeState) : Bool := t == .playing || t == .cueRecord

/-- R112: the pause reasons are empty. -/
def Reasons.none (r : Reasons) : Bool := !r.byQueue && !r.byShow && !r.bySupply

/-- The place of a symbol in map order. -/
def symbolIndex (y : Symbol) : Fin 6 :=
  match y.detector, y.length with
  | 0, .short => 0 | 0, .long => 1 | 1, .short => 2 | 1, .long => 3 | 2, .short => 4 | 2, .long => 5

/-- R131: the action of a symbol. -/
def Cue.action (c : Cue) (y : Symbol) : CueAction := c.map[symbolIndex y]

/-- R188: the place of a source and mode in the permission table. -/
def permIndex (source : Source) (mode : Mode) : Fin 20 :=
  let m : Fin 20 := match mode with | .manual => 0 | .show => 1 | .held => 2 | .program => 3
  match source with
  | .line => m | .remote => 4 + m | .wired => 8 + m | .cue => 12 + m | .dwell => 16 + m

/-- R188: the permission entry of a source in a mode. -/
def Triggers.perm (t : Triggers) (source : Source) (mode : Mode) : Perm := t.perms[permIndex source mode]

end Sys2Proof.Machine
end

