-- ==== Sys2Proof/Machine/Ops.lean ====
section
/-! DEFINITION. The operations every block uses: bounded arithmetic, the update of one block, the offering of a report and
the transmitter's choice of a line (R7 to R10), and the tellings between blocks. -/

namespace Sys2Proof.Machine

/-! ## Bounded arithmetic -/

/-- One more, stopping at `top`. -/
def satInc (top n : Nat) : Nat := min top (n + 1)

/-- R133, R186: one more, wrapping to 0 after 4 294 967 295. -/
def wrapInc (n : Nat) : Nat := (n + 1) % Config.wrap32

/-- R134, R186: the next sequence number, from 65535 back to 0. -/
def nextSeq (n : Nat) : Nat := (n + 1) % (Config.max16 + 1)

/-- A duration truncated down to a multiple of 10 ms. -/
def tenMs (n : Nat) : Nat := n / 10 * 10

/-- R6: a value brought to the nearer limit. -/
def clamp (lo hi n : Int) : Int := max lo (min hi n)

/-- R6: a value lies outside its range. -/
def outside (lo hi n : Int) : Bool := decide (n < lo) || decide (hi < n)

/-- R53, R114: the value of a ramp, the quotient truncated toward zero. -/
def rampValue (start target elapsed duration : Nat) : Nat :=
  ((start : Int) + (((target : Int) - start) * elapsed).tdiv duration).toNat

/-- A timer one millisecond on, if it runs. -/
def tickTimer (t : Option Nat) : Option Nat := t.map (· + 1)

/-! ## Fields of a line -/

/-- A field of one word. -/
def fw (w : String) : Field := { parts := [.word w] }
/-- A field of one number. -/
def fi (n : Int) : Field := { parts := [.num n] }
/-- A field of one number with its CLAMPED mark. -/
def fc (n : Int) (clamped : Bool) : Field := { parts := [.num n], clamped := clamped }
/-- A field keyword=items. -/
def kv (k : String) (parts : List Atom) : Field := { key := some k, parts := parts }
/-- A field keyword=word. -/
def kw (k w : String) : Field := kv k [.word w]
/-- A field keyword=number. -/
def ki (k : String) (n : Int) : Field := kv k [.num n]
/-- A number, or NONE when absent. -/
def numOrNone : Option Int → Atom
  | some n => .num n
  | none => .word "NONE"
/-- A word, or NONE when absent. -/
def wordOrNone : Option String → Atom
  | some w => .word w
  | none => .word "NONE"
/-- Words joined by slashes, or NONE. -/
def wordsOrNone : List String → List Atom
  | [] => [.word "NONE"]
  | ws => ws.map .word

/-! ## The update of one block -/

/-- Changes the pins. -/
def State.onPins (f : Pins → Pins) (s : State) : State := { s with pins := f s.pins }
/-- Changes the control line interface. -/
def State.onLine (f : Line → Line) (s : State) : State := { s with line := f s.line }
/-- Changes the changer. -/
def State.onChanger (f : Changer → Changer) (s : State) : State := { s with changer := f s.changer }
/-- Changes the lamp controller. -/
def State.onLamp (f : Lamp → Lamp) (s : State) : State := { s with lamp := f s.lamp }
/-- Changes the heat and power unit. -/
def State.onHeat (f : Heat → Heat) (s : State) : State := { s with heat := f s.heat }
/-- Changes the transport controller. -/
def State.onTape (f : Tape → Tape) (s : State) : State := { s with tape := f s.tape }
/-- Changes the cue unit. -/
def State.onCue (f : Cue → Cue) (s : State) : State := { s with cue := f s.cue }
/-- Changes the key receiver. -/
def State.onKeys (f : Keys → Keys) (s : State) : State := { s with keys := f s.keys }
/-- Changes the show engine. -/
def State.onEngine (f : Engine → Engine) (s : State) : State := { s with engine := f s.engine }
/-- Changes the trigger queue. -/
def State.onTriggers (f : Triggers → Triggers) (s : State) : State := { s with triggers := f s.triggers }
/-- Changes the fault list and the supply monitor. -/
def State.onFaults (f : Faults → Faults) (s : State) : State := { s with faults := f s.faults }

/-- Sends a telling to another block. -/
def State.emit (sig : Signal) (s : State) : State := { s with signals := s.signals ++ [sig] }

/-! ## Reports and the transmitter -/

/-- R10: a place freed in the report queue goes to a waiting *LOST LINE, otherwise to a waiting *LOST REPORTS. -/
def Line.fillFreed (l : Line) : Line :=
  if l.pendingLines ≠ 0 then
    { l with queue := l.queue ++ [.lostLine l.pendingLines], pendingLines := 0 }
  else if l.pendingReports ≠ 0 then
    { l with queue := l.queue ++ [.lostReports l.pendingReports], pendingReports := 0 }
  else l

/-- R7: an idle transmitter chooses its next line: the reply in the slot, otherwise the oldest report. -/
def Line.choose (l : Line) : Line :=
  match l.transmitter, l.slot, l.queue with
  | some _, _, _ => l
  | none, some r, _ => { l with transmitter := some r, slot := none }
  | none, none, q :: rest => Line.fillFreed { l with transmitter := some q, queue := rest }
  | none, none, [] => l

/-- R7, R9: an idle transmitter makes its choice when a line becomes available, but not while a line is being taken. -/
def Line.chooseUnlessTaking (l : Line) : Line := if l.taking then l else l.choose

/-- R8, R9: a report is offered: dropped when its class is disabled, entered at the tail when a place is free, and
otherwise discarded and counted. -/
def Line.offer (cls : ReportClass) (fields : List Field) (l : Line) : Line :=
  if cls ∉ l.mask then l
  else if l.queue.length < Config.reportPlaces then
    Line.chooseUnlessTaking { l with queue := l.queue ++ [.report cls fields] }
  else
    { l with
      pendingReports := satInc Config.max16 l.pendingReports
      totalReports := satInc Config.max16 l.totalReports }

/-- A block offers a report to the control line interface. -/
def State.report (cls : ReportClass) (fields : List Field) (s : State) : State := s.onLine (Line.offer cls fields)

/-- R3, R10: a completed line is discarded at the full buffer and counted; *LOST LINE enters the report queue at once when
it has a free place. -/
def Line.discardLine (l : Line) : Line :=
  let l := { l with
    pendingLines := satInc Config.max16 l.pendingLines
    totalLines := satInc Config.max16 l.totalLines }
  if l.queue.length < Config.reportPlaces then
    Line.chooseUnlessTaking { l with queue := l.queue ++ [.lostLine l.pendingLines], pendingLines := 0 }
  else l

/-- A reply: what the block that owns a verb answers. -/
abbrev Reply := OutLine

/-- R6: a refused request leaves the state as it was. -/
def refuse (why : RefusalWord) (verb : String) (s : State) : State × Reply := (s, .refused why verb)

/-- R6: an accepted request. -/
def accept (verb : String) (fields : List Field) (s : State) : State × Reply := (s, .accepted verb fields)

end Sys2Proof.Machine
end

