-- ==== Sys2Proof/Machine/Faults.lean ====
section
/-! DEFINITION. The fault list (chapter 10): what it does when a block tells it of a condition, of a latch or of a trip
retried, the fault line, and the modes. -/

namespace Sys2Proof.Machine

/-- R34: the phases as the fault list and the reports name them. -/
def Phase.word : Phase → String
  | .lift => "LIFT" | .rotate => "ROTATE" | .drop => "DROP" | .homing => "HOMING"

/-- R206: the detail of a record, a detail of two parts joined by a colon (DEDUCED, log entry 29). -/
def detailAtom : Option FaultDetail → Atom
  | none => .word "NONE"
  | some (.phaseSlot p n) => .pair p.word n
  | some (.num n) => .num n
  | some (.lamp pos) => .word pos.word
  | some (.detector d) => .word (detectorWord d)

/-- Changes the record of a kind. -/
def Faults.change (k : FaultKind) (f : FaultRecord → FaultRecord) (t : Faults) : Faults :=
  { t with records := t.records.set (faultIndex k) (f (t.record k)) }

/-- R203: the fault line is asserted while any record is active. -/
def evaluateFaultLine (s : State) : State := s.onFaults fun f => { f with asserted := f.anyActive }

/-- A *FAULT report of a kind. -/
def reportFault (k : FaultKind) (fields : List Field) (s : State) : State := s.report .fault (fw k.word :: fields)

/-- R201: the report of an occurrence, from the record as it stands. -/
def reportRaised (k : FaultKind) (s : State) : State :=
  let r := s.faults.record k
  reportFault k [fw "RAISED", { parts := [detailAtom r.detail] }, fi r.count] s

/-- R178: the kinds whose latch brings no REQUEST: SUPPLY_LOW, and HEAT_TRIP in a retry mode. -/
def heldByItself (k : FaultKind) (m : FaultMode) : Bool :=
  k == .supplyLow || (k == .heatTrip && (m == .retrySlow || m == .retryFast))

/-- R201: the latch of a kind is set; a record already latched is left as it is. The show engine is told of a kind that
holds the show. -/
def setLatch (k : FaultKind) (s : State) : State :=
  if (s.faults.record k).latched then s
  else
    let s := s.onFaults (Faults.change k fun r => { r with latched := true })
    let s := reportFault k [fw "LATCHED"] s
    let s := evaluateFaultLine s
    match causeOf k with
    | some _ => s.emit (.causeIn k (heldByItself k (s.faults.record k).mode))
    | none => s

/-- R201: an occurrence in a mode latches in LATCH mode and in the retry modes of FAN_STALL, HEAT_TRIP and SUPPLY_LOW. -/
def latchesAtOnce (k : FaultKind) (m : FaultMode) : Bool :=
  match m with
  | .latch => true
  | .retry | .retrySlow | .retryFast => k == .fanStall || k == .heatTrip || k == .supplyLow
  | .off | .report => false

/-- R201: a detecting block tells the fault list that a condition is present, with its detail. -/
def tellPresent (k : FaultKind) (detail : Option FaultDetail) (s : State) : State :=
  let s := s.onFaults (Faults.change k fun r => { r with present := true })
  let m := (s.faults.record k).mode
  if m = .off then evaluateFaultLine s
  else
    let tape := if s.tape.present then some s.tape.counter else none
    let s := s.onFaults (Faults.change k fun r =>
      { r with count := satInc 255 r.count, detail := detail, tape := tape })
    let s := reportRaised k s
    let s := evaluateFaultLine s
    if latchesAtOnce k m then setLatch k s else s

/-- R201: the changer tells the fault list that the JAM record latches. -/
def tellLatch (k : FaultKind) (s : State) : State := setLatch k s

/-- R202: the latch of a kind is released; the show engine is told of a kind that holds the show. -/
def releaseLatch (k : FaultKind) (word : String) (s : State) : State :=
  let s := s.onFaults (Faults.change k fun r => { r with latched := false })
  let s := reportFault k [fw word] s
  match causeOf k with
  | some _ => s.emit (.causeOut k)
  | none => s

/-- R202: a detecting block tells the fault list that a condition has gone. -/
def tellGone (k : FaultKind) (s : State) : State :=
  let r := s.faults.record k
  if !r.present then s
  else
    let s := s.onFaults (Faults.change k fun r => { r with present := false })
    let s :=
      if !r.latched then (if r.active k then reportFault k [fw "RELEASED"] s else s)
      else if k = .fanStall ∨ k = .supplyLow then releaseLatch k "RELEASED" s
      else reportFault k [fw "GONE"] s
    evaluateFaultLine s

/-- R202: the heat unit tells the fault list that a trip has been retried. -/
def tellTripRetried (s : State) : State :=
  if (s.faults.record .heatTrip).latched then evaluateFaultLine (releaseLatch .heatTrip "RELEASED" s) else s

/-- R205: FAULTMODE kind,mode. A mode set to OFF makes the record inactive without a report; a mode set from OFF to REPORT
while the condition is present makes it active, with *FAULT kind,RAISED and the count unchanged. -/
def doFaultmodeSet (k : FaultKind) (m : FaultMode) (s : State) : State × Reply :=
  if m ∉ allowedModes k then refuse .range "FAULTMODE" s
  else
    let old := (s.faults.record k).mode
    let s := s.onFaults (Faults.change k fun r => { r with mode := m })
    let s := if old = .off ∧ m = .report ∧ (s.faults.record k).present then reportRaised k s else s
    accept "FAULTMODE" [fw k.word, fw m.word] (evaluateFaultLine s)

/-- R205: FAULTMODE kind. -/
def doFaultmodeRead (k : FaultKind) (s : State) : State × Reply :=
  accept "FAULTMODE" [fw k.word, fw (s.faults.record k).mode.word] s

/-- R206: the state word of a record. -/
def recordWord (r : FaultRecord) : String :=
  match r.present, r.latched with
  | false, false => "CLEAR" | true, false => "PRESENT" | false, true => "LATCHED" | true, true => "PRESENT_LATCHED"

/-- R206: the states of the supply monitor. -/
def SupplyState.word : SupplyState → String
  | .good => "GOOD" | .deglitch => "DEGLITCH" | .low => "LOW" | .recovering => "RECOVERING"

/-- R206: the field of one record. -/
def recordField (s : State) (k : FaultKind) : Field :=
  let r := s.faults.record k
  kv k.word [.word r.mode.word, .word (recordWord r), .num r.count, detailAtom r.detail, numOrNone r.tape]

/-- R206: ASK FAULTS. -/
def doAskFaults (s : State) : State × Reply :=
  accept "ASK FAULTS"
    (kw "LINE" (if s.faults.asserted then "ASSERTED" else "RELEASED") ::
      kw "SUPPLY" s.faults.supply.word :: FaultKind.all.map (recordField s)) s

end Sys2Proof.Machine
end

