-- ==== Sys2Proof/Machine/LampDuty.lean ====
section
/-! DEFINITION. The delivered level and the applied duty of the lamp (R57 to R59), and the checks of the lamp current that
follow every change of the duty (R64, R66). -/

namespace Sys2Proof.Machine

/-- R57: the least of the ramp value and the five ceilings in force. -/
def Lamp.leastLevel (l : Lamp) : Nat :=
  min l.value (min l.therm (min l.stall (min l.dwellCap (min l.guard l.power))))

/-- R59: the least of the five ceilings in force. -/
def Lamp.leastCeiling (l : Lamp) : Nat := min l.therm (min l.stall (min l.dwellCap (min l.guard l.power)))

/-- R58: the curve duty of a delivered level. -/
def curveDuty (curve : Vector Nat 11) (level : Nat) : Nat :=
  let i := min 9 (level / 100)
  let f : Int := (level : Int) - 100 * i
  let p : Int := curve[i]'(by omega)
  let q : Int := curve[i + 1]'(by omega)
  (p + ((q - p) * f + 50).tdiv 100).toNat

/-- R59: the rows of the table that make the duty 0. -/
def lampDark (s : State) : Bool :=
  s.supplyLow || s.lamp.shift.isSome || s.lamp.shortHold || s.lamp.shiftHold || s.lamp.activePos.isNone ||
    (match s.heat.state with
      | .standby | .cooldown | .tripped => true
      | .warming | .on => false)

/-- R59: the applied duty the table gives for a delivered level. -/
def tableDuty (s : State) (level : Nat) : Nat :=
  if lampDark s then 0
  else if s.heat.state = .on then max (curveDuty s.lamp.curve level) s.lamp.keepWarmNow
  else curveDuty s.lamp.curve level

/-- R64: the open check is made and the current is below the open threshold. -/
def openSeen (s : State) : Bool :=
  decide (Config.openCheckDuty ≤ s.lamp.duty) && s.lamp.activePos.isSome && s.pins.lampCurrent == .belowOpen

/-- R64: the open timer runs while the check is made and the current is below the threshold, and returns to 0 otherwise. -/
def checkOpen (s : State) : State :=
  if openSeen s then s.onLamp fun l => { l with openTimer := some (l.openTimer.getD 0) }
  else s.onLamp fun l => { l with openTimer := none }

/-- The lamp position as a report gives it. -/
def posWord (p : Option LampPos) : String := (p.map LampPos.word).getD "NONE"

/-- R57, R66: a current above the short threshold while the duty is above 0. -/
def checkShort (s : State) : State :=
  if 0 < s.lamp.duty ∧ s.pins.lampCurrent = .aboveShort then
    let s := s.onLamp fun l => { l with level := l.leastLevel, duty := 0, shortHold := true }
    let s := tellPresent .lampShort (s.lamp.path.map .lamp) s
    s.report .lamp [fw "SHORT", fw (posWord s.lamp.path)]
  else s

/-- R64, R66: the checks of the lamp current. -/
def checkLampCurrent (s : State) : State := checkOpen (checkShort s)

/-- R57, R59: the recomputation at an update: the level, then the duty. -/
def recomputeAtUpdate (s : State) : State :=
  let s := s.onLamp fun l => { l with level := l.leastLevel }
  checkLampCurrent (s.onLamp fun l => { l with duty := tableDuty s l.level })

/-- R57, R59: the delivered level and the duty computed at once, at an event that R56 or R59 names; a higher duty waits for
the next update (DEDUCED, log entry 11). -/
def dutyAtOnce (s : State) : State :=
  checkLampCurrent (s.onLamp fun l => { l with level := l.leastLevel, duty := min l.duty (tableDuty s l.leastLevel) })

/-- R56, R70: the gate guard is in force: GUARD ON acts at once, and GUARD OFF at the next update. -/
def Lamp.guarded (l : Lamp) : Bool := l.guardOn || l.guardNow

/-- R56: what the gate guard does at the moment occupancy changes from `old` to its present value, with the gate-cleared
mark of R61. -/
def lampSeesOccupancy (old : Occupancy) (s : State) : State :=
  let now := s.changer.occupancy
  let s := if old = .slide ∧ now ≠ .slide then s.onLamp fun l => { l with gateCleared := true } else s
  let s :=
    if !s.lamp.guarded then s
    else if now = .slide then s.onLamp fun l => { l with recovery := some 0, guard := 0 }
    else s.onLamp fun l => { l with recovery := none, guard := 0 }
  dutyAtOnce s

end Sys2Proof.Machine
end

