-- ==== Sys2Proof/Machine/Heat.lean ====
section
/-! DEFINITION. The heat and power unit (chapter 04): the thermal period and its stages, the fan, the ceilings it publishes,
the power states, the rise, and its messages. -/

namespace Sys2Proof.Machine

/-- R92: the power states as *HEAT POWER names them. -/
def PowerState.word : PowerState → String
  | .standby => "STANDBY" | .warming => "WARMING" | .on => "ON" | .cooldown => "COOLDOWN" | .tripped => "TRIPPED"

/-! ## The fan -/

/-- R83: the fan drive duty of a step. -/
def fanDutyOf (set : HeatSettings) (step : Fin 5) : Nat :=
  match step with
  | 0 => 0 | 1 => set.fanDrive[0] | 2 => set.fanDrive[1] | 3 => set.fanDrive[2] | 4 => set.fanDrive[3]

/-- R83: a step that differs from the present one changes the fan drive at once and is reported
(DEDUCED, log entry 8). -/
def setFan (step : Fin 5) (s : State) : State :=
  if step = s.heat.fan then s
  else
    let s := s.onHeat fun h => { h with fan := step, fanDuty := fanDutyOf h.set step }
    s.report .heat [fw "FAN", fi step.val]

/-- R84: the least fan step of a power state. -/
def stateFloor : PowerState → Fin 5
  | .standby => 0 | .warming | .on => 1 | .cooldown => 2 | .tripped => 4

/-- R84: the highest floor that applies. -/
def fanFloor (state : PowerState) (e : Int) : Fin 5 :=
  max (stateFloor state) (if (Config.afterRunThreshold : Int) ≤ e then 1 else 0)

/-- R83: the highest k for which E is at least Uk, or 0. -/
def fanReached (set : HeatSettings) (e : Int) : Fin 5 :=
  if set.fanUp[3] ≤ e then 4 else if set.fanUp[2] ≤ e then 3 else if set.fanUp[1] ≤ e then 2
  else if set.fanUp[0] ≤ e then 1 else 0

/-- R83: the threshold that was met to reach a step of 1 or more. -/
def fanThreshold (set : HeatSettings) (step : Fin 5) : Int :=
  match step with
  | 0 | 1 => set.fanUp[0] | 2 => set.fanUp[1] | 3 => set.fanUp[2] | 4 => set.fanUp[3]

/-- The step one below. -/
def stepBelow : Fin 5 → Fin 5
  | 0 | 1 => 0 | 2 => 1 | 3 => 2 | 4 => 3

/-- R83, R84: the step that the threshold rule and the floors give at stage 6. The floor is that of the state as stage 5
leaves it, also where stage 5 lifted a higher one in this very period (DESIGN CHOICE, log entry 45). -/
def fanStepOf (h : Heat) : Fin 5 :=
  let r := fanReached h.set h.effective
  let step :=
    if h.firstPeriod then r
    else if h.fan < r then r
    else if h.fan ≠ 0 ∧ h.effective < fanThreshold h.set h.fan - 50 then stepBelow h.fan
    else h.fan
  max step (fanFloor h.state h.effective)

/-! ## Power states and the rise -/

/-- R92: the power limit is published to the lamp controller. -/
def publishLimit (n : Nat) (s : State) : State :=
  (s.onHeat fun h => { h with powerLimit := n }).onLamp fun l => { l with pubPower := n }

/-- R93: a rise begins, with the WARMUP setting of the moment and a limit of 0. -/
def beginRise (s : State) : State :=
  publishLimit 0 (s.onHeat fun h => { h with rise := some ⟨0, h.set.warmUp⟩, riseTimer := 0 })

/-- R92: the power limit of a state just entered. -/
def entryLimit : PowerState → Nat
  | .on => 1000
  | .standby | .warming | .cooldown | .tripped => 0

/-- R84, R89, R92, R93: the power state changes: any rise is abandoned, a rise begins on entry to WARMING, the limit is
published, the fan step rises to the state's floor, and the lamp controller computes its duty at once (R59)
(DEDUCED, log entry 8). -/
def enterPower (new : PowerState) (s : State) : State :=
  let s := s.onHeat fun h => { h with state := new, rise := none }
  let s := if new = .warming then beginRise s else publishLimit (entryLimit new) s
  let s := setFan (max s.heat.fan (stateFloor new)) s
  dutyAtOnce s

/-- R92: *HEAT POWER,state. -/
def reportPower (s : State) : State := s.report .heat [fw "POWER", fw s.heat.state.word]

/-- R90, R91, R96, R97: COOLDOWN is entered with its after-run seconds at 0, from TRIPPED too
(DESIGN CHOICE, log entry 34). -/
def enterCooldown (s : State) : State :=
  reportPower (enterPower .cooldown (s.onHeat fun h => { h with afterSeconds := 0 }))

/-- R94: a relight request: in ON a rise begins afresh from 0; in every other state it is ignored. -/
def relight (s : State) : State := if s.heat.state = .on then beginRise s else s

/-- R91: the fault list has cleared the HEAT_TRIP latch at CLEAR. -/
def heatTripCleared (s : State) : State :=
  if s.heat.state = .tripped then enterCooldown (s.onHeat fun h => { h with request := false }) else s

/-- R92: the limit of a rise at an elapsed time. -/
def riseLimit (r : Rise) : Nat := 1000 * r.elapsed / r.warmUp

/-- R93: one step of a rise. -/
def stepRise (s : State) : State :=
  match s.heat.rise with
  | none => s
  | some r =>
    let r : Rise := { r with elapsed := r.elapsed + Config.riseStep }
    let s := s.onHeat fun h => { h with riseTimer := 0 }
    if r.warmUp ≤ r.elapsed then
      let s := publishLimit 1000 (s.onHeat fun h => { h with rise := none })
      if s.heat.state = .warming then reportPower (enterPower .on s) else s
    else publishLimit (riseLimit r) (s.onHeat fun h => { h with rise := some r })

/-! ## The thermal period -/

/-- R83: the least tachometer count per period of a fan step. -/
def leastTach (step : Fin 5) : Nat := 10 * step.val

/-- R85, stage 1: the tachometer count of the period just ended is judged. -/
def judgeTach (s : State) : State :=
  let s := s.onHeat fun h => { h with tachLast := h.tachNow, tachNow := 0 }
  let h := s.heat
  if h.fan = 0 then s.onHeat fun h => { h with bad := 0 }
  else if h.tachLast < leastTach h.fan then
    let s := s.onHeat fun h => { h with bad := satInc 3 h.bad, good := 0 }
    if s.heat.bad = 3 ∧ s.heat.stall = false then
      let s := s.onHeat fun h => { h with stall := true }
      tellPresent .fanStall (some (.num s.heat.fan.val)) (s.report .heat [fw "STALL", fw "ON"])
    else s
  else
    let s := s.onHeat fun h => { h with bad := 0, good := satInc 2 h.good }
    if s.heat.good = 2 ∧ s.heat.stall = true then
      let s := s.onHeat fun h => { h with stall := false, good := 0 }
      tellGone .fanStall (s.report .heat [fw "STALL", fw "OFF"])
    else s

/-- R80, stage 2: the housing sensor is sampled. -/
def sampleSensor (reading : Int) (s : State) : State :=
  let was := s.heat.sensorValid
  let first := s.heat.firstPeriod
  let ok := validReading reading
  let s := (s.onPins fun p => { p with housing := reading }).onHeat fun h => { h with sensor := reading, sensorValid := ok }
  if !ok && (was || first) then tellPresent .sensorBad none (s.report .heat [fw "SENSOR", fw "BAD"])
  else if ok && !was && !first then tellGone .sensorBad (s.report .heat [fw "SENSOR", fw "GOOD"])
  else s

/-- R81: the cooling coefficient in force. -/
def coolingOf (h : Heat) : Int := if h.stall then h.set.cool[0] else h.set.cool[h.fan]

/-- R81: the estimate after a period that samples the duty `d`. -/
def nextEstimate (h : Heat) (d : Nat) : Int :=
  let q := (h.set.watts * (d : Int)).tdiv 4095
  let num := q * h.set.gain - (h.estimate - h.set.ambient) * coolingOf h
  clamp 0 2500 (h.estimate + num.tdiv 1024)

/-- R81, R82, stages 3 and 4: the estimate and the effective temperature. -/
def updateEstimate (s : State) : State :=
  s.onHeat fun h =>
    let t := nextEstimate h s.lamp.duty
    { h with estimate := t, effective := effectiveOf t h.sensor h.sensorValid }

/-- R88: the warning. -/
def judgeWarn (s : State) : State :=
  let h := s.heat
  if h.warn = false ∧ h.set.warnAt ≤ h.effective then
    let s := s.onHeat fun h => { h with warn := true }
    tellPresent .heatWarn (some (.num h.effective)) (s.report .heat [fw "WARN", fw "ON", fi h.effective])
  else if h.warn = true ∧ h.effective < h.set.warnAt - 50 then
    let s := s.onHeat fun h => { h with warn := false }
    tellGone .heatWarn (s.report .heat [fw "WARN", fw "OFF", fi h.effective])
  else s

/-- The report *HEAT TRIP,E and the telling of HEAT_TRIP share the detail E. -/
def tellTrip (s : State) : State := tellPresent .heatTrip (some (.num s.heat.effective)) s

/-- R89: the trip. -/
def judgeTrip (s : State) : State :=
  let h := s.heat
  if h.set.tripAt ≤ h.effective ∧ h.state ≠ .tripped then
    let s := enterPower .tripped s
    let s := s.onHeat fun h => { h with recoverySeconds := 0, trip := true }
    let s := reportPower (s.report .heat [fw "TRIP", fi s.heat.effective])
    tellTrip s
  else s

/-- R97: the after-run. -/
def judgeAfterRun (s : State) : State :=
  if s.heat.state = .cooldown then
    let s := s.onHeat fun h => { h with afterSeconds := satInc Config.max16 h.afterSeconds }
    if s.heat.set.afterRun ≤ s.heat.afterSeconds ∧ s.heat.effective ≤ (Config.afterRunThreshold : Int) then
      reportPower (enterPower .standby s)
    else s
  else s

/-- R90: the retry time of a HEAT_TRIP mode; none in LATCH. -/
def retrySeconds : FaultMode → Option Nat
  | .retrySlow => some 30
  | .retryFast => some 5
  | .off | .report | .retry | .latch => none

/-- R90: the retry of a trip. -/
def retryTrip (s : State) : State :=
  let s := if s.heat.request then reportPower (enterPower .warming s) else enterCooldown s
  tellTripRetried s

/-- R90: the recovery from a trip. -/
def judgeRecovery (s : State) : State :=
  if s.heat.state ≠ .tripped then s
  else
    let h := s.heat
    let s :=
      if h.effective < h.set.tripAt - 150 then
        let s := s.onHeat fun h => { h with recoverySeconds := satInc Config.max16 h.recoverySeconds }
        if h.trip then tellGone .heatTrip (s.onHeat fun h => { h with trip := false }) else s
      else
        let s := s.onHeat fun h => { h with recoverySeconds := 0 }
        if h.set.tripAt ≤ h.effective ∧ h.trip = false then
          let s := tellTrip (s.onHeat fun h => { h with trip := true })
          s.report .heat [fw "TRIP", fi h.effective]
        else s
    match retrySeconds (s.faults.record .heatTrip).mode with
    | some n => if n ≤ s.heat.recoverySeconds then retryTrip s else s
    | none => s

/-- R83, stage 6: the fan step. -/
def updateFan (s : State) : State :=
  (setFan (fanStepOf s.heat) s).onHeat fun h => { h with firstPeriod := false }

/-- R86, R87: the two caps are published to the lamp controller. -/
def publishCaps (s : State) : State :=
  let cap := thermCapOf s.heat.set.warnAt s.heat.set.tripAt s.heat.effective
  let stallCap := if s.heat.stall ∧ (s.faults.record .fanStall).mode = .retry then 500 else 1000
  (s.onHeat fun h => { h with thermCap := cap, stallCap := stallCap }).onLamp fun l =>
    { l with pubTherm := cap, pubStall := stallCap }

/-- R79: the work of one thermal period, its stages in order. A floor that stage 5 lifts no longer holds the step at stage 6
of the same period (DESIGN CHOICE, log entry 45). -/
def runPeriod (reading : Int) (s : State) : State :=
  let s := s.onHeat fun h => { h with periodTimer := 0 }
  let s := judgeTach s
  let s := sampleSensor reading s
  let s := updateEstimate s
  let s := judgeWarn s
  let s := judgeTrip s
  let s := judgeAfterRun s
  let s := judgeRecovery s
  let s := updateFan s
  publishCaps s

/-- R85: a fan tachometer pulse. -/
def countTach (s : State) : State := s.onHeat fun h => { h with tachNow := satInc 255 h.tachNow }

/-! ## Messages -/

/-- R95, R100: POWER ON. -/
def doPowerOn (s : State) : State × Reply :=
  let reply (s : State) := accept "POWER" [fw "ON", fw s.heat.state.word] s
  let request (s : State) : State := s.onHeat fun h => { h with request := true }
  match s.heat.state with
  | .standby | .cooldown =>
    if s.lamp.unusable then refuse .state "POWER" s
    else reply (reportPower (enterPower .warming ((request s).onHeat fun h => { h with afterSeconds := 0 })))
  | .warming | .on => reply (request s)
  | .tripped => if s.lamp.unusable then refuse .state "POWER" s else reply (request s)

/-- R96, R100: POWER OFF. -/
def doPowerOff (s : State) : State × Reply :=
  let s := s.onHeat fun h => { h with request := false }
  let s :=
    match s.heat.state with
    | .warming | .on => enterCooldown s
    | .standby | .cooldown | .tripped => s
  accept "POWER" [fw "OFF", fw s.heat.state.word] s

/-- R101: ASK HEAT. -/
def doAskHeat (s : State) : State × Reply :=
  let h := s.heat
  accept "ASK HEAT"
    [kw "STATE" h.state.word, kw "REQ" (onOff h.request), ki "T" h.estimate,
      kv "S" [if h.sensorValid then .num h.sensor else .word "BAD"], ki "E" h.effective, ki "FAN" h.fan.val,
      ki "TACH" h.tachLast, kw "STALL" (onOff h.stall), kw "WARN" (onOff h.warn), ki "THERM" h.thermCap,
      ki "STALLCAP" h.stallCap, ki "POWERLIM" h.powerLimit,
      kv "RISE" [numOrNone (h.rise.map fun r => (r.elapsed : Int))], ki "AFTER" h.afterSeconds,
      ki "RECOVER" h.recoverySeconds] s

/-! ## Reset -/

/-- R99: the heat and power unit at a soft reset, before it tells the fault list of what is still present
(DEDUCED, log entry 8). The after-run and the recovery seconds are 0 after it in every state (DESIGN CHOICE, log entry
34). -/
def softResetHeat (s : State) : State :=
  let was := s.heat.state
  let new : PowerState :=
    match was with
    | .warming | .on | .cooldown => .cooldown
    | .tripped => .tripped
    | .standby => .standby
  let s := s.onHeat fun h => { h with
    firstPeriod := false, warn := false, rise := none, trip := new == .tripped, set := .default, request := false,
    state := new, afterSeconds := 0, recoverySeconds := 0, periodTimer := 0, riseTimer := 0,
    fanDuty := fanDutyOf .default h.fan }
  let s := publishLimit 0 s
  let s := setFan (max s.heat.fan (stateFloor new)) s
  let s := if new = was then s else reportPower s
  publishCaps s

/-- R99, R208: what the unit tells the fault list anew after a soft reset. -/
def retellHeat (s : State) : State :=
  let s := if s.heat.stall then tellPresent .fanStall (some (.num s.heat.fan.val)) s else s
  let s := if s.heat.sensorValid then s else tellPresent .sensorBad none s
  if s.heat.state = .tripped then tellTrip s else s

end Sys2Proof.Machine
end

