-- ==== Sys2Proof/Machine/Lamp.lean ====
section
/-! DEFINITION. The lamp controller (chapter 03): ramps, the update, the records of the lamp module, failures and shifts, what
the supply and the fault list do to it, its messages and its reset. -/

namespace Sys2Proof.Machine

/-! ## The ramp -/

/-- R53: the ramp completes: its report and its event. -/
def rampCompletes (s : State) : State :=
  let r := s.lamp.ramp
  let s := s.onLamp fun l => { l with value := r.target, ramp := { r with active := false } }
  (s.report .lamp [fw "DONE", fi r.target]).emit (.rampDone r.target r.origin)

/-- R52: a ramp request. -/
def rampRequest (level duration : Nat) (origin : RampOrigin) (s : State) : State :=
  let d := tenMs duration
  let s := s.onLamp fun l => { l with
    ramp := { start := l.value, target := level, duration := d, elapsed := 0, origin := some origin, active := true }
    requested := level
    lastLit := if 0 < level then level else l.lastLit }
  if d = 0 then rampCompletes s else s

/-- R54: the toggle request of the LAMP key. -/
def toggleLamp (s : State) : State :=
  rampRequest (if 0 < s.lamp.requested then 0 else s.lamp.lastLit) 500 .remote s

/-- R53: the ramp at an update. -/
def advanceRamp (s : State) : State :=
  let r := s.lamp.ramp
  if !r.active then s
  else
    let e := r.elapsed + Config.lampUpdate
    let s := s.onLamp fun l => { l with ramp := { r with elapsed := e } }
    if r.duration ≤ e then rampCompletes s
    else s.onLamp fun l => { l with value := rampValue r.start r.target e r.duration }

/-! ## Ceilings -/

/-- R56: the gate guard at an update (DEDUCED, log entry 12). -/
def Lamp.advanceGuard (l : Lamp) : Lamp :=
  if !l.guardOn then { l with guard := 1000, recovery := none }
  else
    match l.recovery with
    | none => l
    | some e =>
      let e := e + Config.lampUpdate
      if Config.guardRecovery ≤ e then { l with guard := 1000, recovery := none }
      else { l with guard := 1000 * e / Config.guardRecovery, recovery := some e }

/-- R55, R70: the published ceilings, the keep-warm setting and GUARD are adopted. -/
def Lamp.adopt (l : Lamp) : Lamp :=
  { l with therm := l.pubTherm, stall := l.pubStall, power := l.pubPower, keepWarmNow := l.keepWarm, guardNow := l.guardOn }

/-- R60: the gate dwell timer at an update (DEDUCED, log entry 12). -/
def advanceDwell (s : State) : State :=
  let runs := decide (Config.dwellLevel < s.lamp.level) && s.changer.occupancy == .slide && decide (0 < s.lamp.duty)
  let s := if runs then s.onLamp fun l => { l with dwell := l.dwell + Config.lampUpdate } else s
  if s.lamp.dwellCap = 1000 ∧ s.lamp.dwellLimit * 1000 ≤ s.lamp.dwell then
    let s := s.onLamp fun l => { l with dwellCap := Config.dwellCapValue }
    recomputeAtUpdate (s.report .lamp [fw "DWELL", fw "ON"])
  else s

/-- Changes the lamp record of a position. -/
def Lamp.changeRecord (pos : LampPos) (f : LampRecord → LampRecord) (l : Lamp) : Lamp :=
  match pos with
  | .primary => { l with primary := f l.primary }
  | .spare => { l with spare := f l.spare }

/-- R63: ten milliseconds of burn time. -/
def LampRecord.burnOn (r : LampRecord) : LampRecord :=
  if 1000 ≤ r.part + Config.lampUpdate then { r with part := 0, burn := satInc Config.maxBurn r.burn }
  else { r with part := r.part + Config.lampUpdate }

/-- R63: burn time at an update. -/
def Lamp.advanceBurn (l : Lamp) : Lamp :=
  match l.activePos with
  | some pos => if l.keepWarmNow < l.duty then l.changeRecord pos LampRecord.burnOn else l
  | none => l

/-- R53: one update. -/
def runUpdate (s : State) : State :=
  let s := s.onLamp fun l => { l with updateTimer := 0 }
  let s := advanceRamp s
  let s := s.onLamp fun l => (l.advanceGuard).adopt
  let s := recomputeAtUpdate s
  let s := advanceDwell s
  s.onLamp Lamp.advanceBurn

/-- R61: what a completion event of the changer does to the dwell timer. -/
def dwellSeesCompletion (occ : Occupancy) (s : State) : State :=
  if occ = .slide ∧ s.lamp.gateCleared = true then
    let capped := s.lamp.dwellCap ≠ 1000
    let s := s.onLamp fun l => { l with dwell := 0, gateCleared := false, dwellCap := 1000 }
    if capped then s.report .lamp [fw "DWELL", fw "OFF"] else s
  else s

/-- R56, R70: SET GUARD: OFF acts at the next update, ON at once (DEDUCED, log entry 12). -/
def setGuard (on : Bool) (s : State) : State :=
  let s := s.onLamp fun l => { l with guardOn := on, guardNow := l.guardNow || on }
  if !on then s
  else if s.changer.occupancy = .slide then
    s.onLamp fun l => if l.recovery.isNone then { l with guard := 1000 } else l
  else dutyAtOnce (s.onLamp fun l => { l with guard := 0, recovery := none })

/-! ## The lamp module -/

/-- R62, R65, R68: a record becomes ACTIVE: a relight request, and the conditions of LAMP_OPEN and SHIFT_FAIL go. -/
def makeActive (pos : LampPos) (s : State) : State :=
  let s := s.onLamp (Lamp.changeRecord pos fun r => { r with state := .active })
  tellGone .shiftFail (tellGone .lampOpen (relight s))

/-- R62, R67: the record at the path, if it is ACTIVE, becomes GOOD. -/
def Lamp.releasePath (l : Lamp) : Lamp :=
  match l.path with
  | some pos => if (l.record pos).state = .active then l.changeRecord pos fun r => { r with state := .good } else l
  | none => l

/-- R62: the record at the path, if it is GOOD, becomes ACTIVE. -/
def takePath (s : State) : State :=
  match s.lamp.path with
  | some pos => if (s.lamp.record pos).state = .good then makeActive pos s else s
  | none => s

/-- R67: a lamp shift starts. -/
def startShift (target : LampPos) (s : State) : State :=
  let s := s.onLamp fun l => { l.releasePath with shift := some ⟨target, 0, true⟩ }
  (dutyAtOnce s).report .lamp [fw "SHIFT", fw target.word]

/-- R64, R65: the open timer reaches its limit (DESIGN CHOICE, log entry 4). -/
def lampFails (s : State) : State :=
  if s.lamp.openTimer.isNone then s
  else
    let s := s.onLamp fun l => { l with openTimer := none }
    match s.lamp.activePos with
    | none => s
    | some pos =>
      let s := s.onLamp (Lamp.changeRecord pos fun r => { r with state := .failed })
      let s := dutyAtOnce (s.report .lamp [fw "FAILED", fw pos.word])
      if s.lamp.autoShift ∧ (s.lamp.record pos.other).state = .good then startShift pos.other s
      else tellPresent .lampOpen (some (.lamp pos)) s

/-- R57, R59, R62: the shift switch leaves the path position. An ACTIVE record there becomes GOOD, and the level and the duty
are computed at once; with no record ACTIVE there, nothing is computed before the next update. -/
def leavePath (s : State) : State :=
  match s.lamp.path with
  | some pos => if (s.lamp.record pos).state = .active then dutyAtOnce (s.onLamp Lamp.releasePath) else s
  | none => s

/-- R62, R68: the shift switch shows another position (DEDUCED, log entry 13). -/
def switchMoves (position : Option LampPos) (s : State) : State :=
  let s := s.onPins fun p => { p with shiftSwitch := position }
  if position = s.lamp.path then s
  else
    let s := leavePath s
    let s := s.onLamp fun l => { l with path := position }
    match s.lamp.shift with
    | none => (takePath s).report .lamp [fw "PATH", fw (posWord position)]
    | some sh =>
      if position = some sh.target then
        let s := s.onLamp fun l => { l with shift := none }
        (takePath s).report .lamp [fw "SHIFTED", fw sh.target.word]
      else s

/-- R68: the drive time of a shift runs out (DEDUCED, log entry 13). -/
def shiftFails (s : State) : State :=
  match s.lamp.shift with
  | none => s
  | some sh =>
    if !sh.driven then s
    else
      let s := s.onLamp fun l => { l with shift := none }
      let s := takePath s
      let s := s.onLamp fun l => { l with shiftHold := true }
      let s := tellPresent .shiftFail (some (.lamp sh.target)) s
      let s := s.report .lamp [fw "SHIFT", fw "FAILED"]
      if s.lamp.activePos.isSome then tellGone .shiftFail s else s

/-- R64, R66: the lamp current crosses a threshold. -/
def currentMoves (current : LampCurrent) (s : State) : State :=
  let s := s.onPins fun p => { p with lampCurrent := current }
  let s := if current = .aboveShort then s else tellGone .lampShort s
  checkLampCurrent s

/-! ## Supply, faults, reset -/

/-- R69: SUPPLY_LOW is raised. -/
def lampSupplyLow (s : State) : State :=
  dutyAtOnce (s.onLamp fun l => { l with shift := l.shift.map fun sh => { sh with driven := false } })

/-- R69: the supply is good again. -/
def lampSupplyGood (s : State) : State :=
  relight (s.onLamp fun l => { l with shift := l.shift.map fun sh => { sh with driven := true, drive := 0 } })

/-- R66: the fault list has cleared the LAMP_SHORT latch. -/
def lampShortCleared (s : State) : State :=
  if s.lamp.shortHold then relight (s.onLamp fun l => { l with shortHold := false }) else s

/-- R68: the fault list has cleared the SHIFT_FAIL latch. -/
def lampShiftCleared (s : State) : State :=
  if s.lamp.shiftHold then relight (s.onLamp fun l => { l with shiftHold := false }) else s

/-- R72: a record that a soft reset finds GOOD at the path becomes ACTIVE, and one ACTIVE elsewhere GOOD. -/
def LampRecord.settle (pos : LampPos) (path : Option LampPos) (r : LampRecord) : LampRecord :=
  match r.state with
  | .good => if path = some pos then { r with state := .active } else r
  | .active => if path = some pos then r else { r with state := .good }
  | .failed | .absent => r

/-- R72: the lamp controller at a soft reset; the heat and power unit publishes its ceilings after it. -/
def Lamp.softReset (p : Pins) (occ : Occupancy) (l : Lamp) : Lamp :=
  { Lamp.afterReset p occ 1000 with
    primary := l.primary.settle .primary p.shiftSwitch, spare := l.spare.settle .spare p.shiftSwitch }

/-! ## Messages -/

/-- R73: LAMP level[,fade]. -/
def doLamp (level : Int) (fade : Option Int) (s : State) : State × Reply :=
  if s.showBusy then refuse .state "LAMP" s
  else
    let f := fade.getD 0
    let lv := (clamp 0 1000 level).toNat
    let fd := tenMs (clamp 0 9900 f).toNat
    accept "LAMP" [fc lv (outside 0 1000 level), fc fd (outside 0 9900 f)] (rampRequest lv fd .line s)

/-- R74: a duty keeps the order of the curve at point `i`. -/
def curveOrder (curve : Vector Nat 11) (i : Fin 11) (duty : Nat) : Bool :=
  (if h : 0 < i.val then decide (curve[i.val - 1]'(by omega) ≤ duty) else true) &&
    (if h : i.val < 10 then decide (duty ≤ curve[i.val + 1]'(by omega)) else true)

/-- R74: the point an operand names, if it lies in 0 to 10. -/
def curvePoint (i : Int) : Option (Fin 11) := if 0 ≤ i ∧ i ≤ 10 then some (Fin.ofNat 11 i.toNat) else none

/-- R74: CURVE i,duty (DEDUCED, log entry 11). -/
def doCurveLoad (i duty : Int) (s : State) : State × Reply :=
  match curvePoint i with
  | none => refuse .range "CURVE" s
  | some p =>
    if outside 0 4095 duty then refuse .range "CURVE" s
    else if !curveOrder s.lamp.curve p duty.toNat then refuse .range "CURVE" s
    else
      accept "CURVE" [fi i, fi duty]
        (dutyAtOnce (s.onLamp fun l => { l with curve := l.curve.set p duty.toNat }))

/-- R74: CURVE i. -/
def doCurveRead (i : Int) (s : State) : State × Reply :=
  match curvePoint i with
  | none => refuse .range "CURVE" s
  | some p => accept "CURVE" [fi i, fi s.lamp.curve[p]] s

/-- R75: LAMPMOD SHIFT (DEDUCED, log entry 11). -/
def doLampmodShift (s : State) : State × Reply :=
  if s.lamp.shift.isSome then refuse .busy "LAMPMOD" s
  else if s.supplyLow then refuse .state "LAMPMOD" s
  else
    match s.lamp.path with
    | none => refuse .state "LAMPMOD" s
    | some pos =>
      if (s.lamp.record pos.other).state = .good then
        accept "LAMPMOD" [fw "SHIFT", fw pos.other.word] (startShift pos.other s)
      else refuse .state "LAMPMOD" s

/-- R75: LAMPMOD AUTO. -/
def doLampmodAuto (on : Bool) (s : State) : State × Reply :=
  accept "LAMPMOD" [fw "AUTO", fw (onOff on)] (s.onLamp fun l => { l with autoShift := on })

/-- R76: the states of a lamp record. -/
def LampState.word : LampState → String
  | .good => "GOOD" | .active => "ACTIVE" | .failed => "FAILED" | .absent => "ABSENT"

/-- R76: a new lamp is marked at a position. A record that is ACTIVE already does not become so, and leads to no relight
request (DESIGN CHOICE, log entry 31). -/
def replaceLamp (pos : LampPos) (s : State) : State :=
  let was := (s.lamp.record pos).state
  let s := s.onLamp (Lamp.changeRecord pos fun _ =>
    { state := if s.lamp.path = some pos then .active else .good, burn := 0, part := 0, replaced := true })
  let s := if s.lamp.path = some pos ∧ was ≠ .active then makeActive pos s else s
  s.report .lamp [fw "REPLACED", fw pos.word]

/-- R76: LAMPMOD REPLACE. -/
def doLampmodReplace (pos : LampPos) (s : State) : State × Reply :=
  if s.lamp.shift.isSome then refuse .busy "LAMPMOD" s
  else
    let s := replaceLamp pos s
    accept "LAMPMOD" [fw "REPLACE", fw pos.word, fw (s.lamp.record pos).state.word] s

/-- R76: LAMPMOD REMOVE, its refusals in the order of R6. -/
def doLampmodRemove (pos : LampPos) (s : State) : State × Reply :=
  if (s.lamp.record pos).state ≠ .good then refuse .state "LAMPMOD" s
  else if s.lamp.shift.isSome then refuse .busy "LAMPMOD" s
  else
    let s := s.onLamp (Lamp.changeRecord pos fun r => { r with state := .absent })
    accept "LAMPMOD" [fw "REMOVE", fw pos.word] (s.report .lamp [fw "REMOVED", fw pos.word])

/-- R77: the origins of a ramp. -/
def RampOrigin.word : RampOrigin → String
  | .line => "LINE" | .remote => "REMOTE" | .show => "SHOW"

/-- R77: a lamp record as ASK LAMP gives it. -/
def recordParts (r : LampRecord) : List Atom :=
  .word r.state.word :: .num r.burn :: (if r.replaced then [.word "R"] else [])

/-- R77: the holds. -/
def holdParts (l : Lamp) : List Atom :=
  wordsOrNone ((if l.shortHold then ["SHORT"] else []) ++ (if l.shiftHold then ["SHIFT"] else []))

/-- R77: ASK LAMP. -/
def doAskLamp (s : State) : State × Reply :=
  let l := s.lamp
  accept "ASK LAMP"
    [ki "RAMP" l.value, ki "TARGET" l.ramp.target, ki "FADE" l.ramp.duration, ki "ELAPSED" l.ramp.elapsed,
      kv "ORIGIN" [wordOrNone (l.ramp.origin.map RampOrigin.word)], ki "REQ" l.requested, ki "LASTLIT" l.lastLit,
      ki "THERM" l.therm, ki "STALL" l.stall, ki "DWELLCAP" l.dwellCap, ki "GUARD" l.guard, ki "POWER" l.power,
      ki "LEVEL" l.level, ki "DUTY" l.duty, ki "DWELL" l.dwell, kw "PATH" (posWord l.path),
      kw "SHIFT" ((l.shift.map fun sh => sh.target.word).getD "IDLE"), kw "AUTO" (onOff l.autoShift),
      kv "HOLD" (holdParts l), kv "PRIMARY" (recordParts l.primary), kv "SPARE" (recordParts l.spare)] s

end Sys2Proof.Machine
end

