-- ==== Sys2Proof/Machine/Changer.lean ====
section
/-! DEFINITION. The changer (chapter 02): its motors, the phases of a change, homing, jams, requests, the tray switch, supply
loss and its messages. A phase that begins may end at once and lead to the next; `Entry` names the beginnings and the ends
of phases and `enter` follows them. -/

namespace Sys2Proof.Machine

/-! ## Words -/

/-- R51: the changer states. -/
def ChangerState.word : ChangerState → String
  | .noTray => "NO_TRAY" | .unhomed => "UNHOMED" | .idle => "IDLE" | .lifting => "LIFTING" | .rotating => "ROTATING"
  | .dropping => "DROPPING" | .settling => "SETTLING" | .homing => "HOMING" | .backoff => "BACKOFF"
  | .jammed => "JAMMED" | .halted => "HALTED"

/-- R51: the position statuses. -/
def PosStatus.word : PosStatus → String
  | .known => "KNOWN" | .unsure => "UNSURE" | .unhomed => "UNHOMED"

/-- R51: the arm. -/
def Arm.word : Arm → String
  | .lifted => "LIFTED" | .seated => "SEATED" | .moving => "MOVING" | .unknown => "UNKNOWN"

/-- R51: the occupancy. -/
def Occupancy.word : Occupancy → String
  | .slide => "SLIDE" | .empty => "EMPTY" | .unknown => "UNKNOWN"

/-! ## What follows from the records -/

/-- The state the changer is in, or the one that HALTED interrupted. -/
def Changer.heldOrState (c : Changer) : ChangerState :=
  match c.state, c.held with
  | .halted, some st => st
  | st, _ => st

/-- The states of a change in progress. -/
def ChangerState.inChange : ChangerState → Bool
  | .lifting | .rotating | .dropping | .settling | .homing | .backoff => true
  | .noTray | .unhomed | .idle | .jammed | .halted => false

/-- R19: a homing run, with the LIFT that it makes first and the backoffs within it (DEDUCED, log entry 15). -/
def Changer.homingRun (c : Changer) : Bool :=
  c.homes && (match c.heldOrState with
    | .lifting | .homing | .backoff => true
    | .noTray | .unhomed | .idle | .rotating | .dropping | .settling | .jammed | .halted => false)

/-- A drive of one of the two motors. -/
inductive Drive
  | tray (d : Direction)
  | gate (a : ArmDrive)
  deriving DecidableEq, Repr

/-- The drive that the state calls for (R26, R28, R30, R32, R35). -/
def Changer.wanted (c : Changer) : Option Drive :=
  match c.state with
  | .lifting => some (.gate .up)
  | .dropping => some (.gate .down)
  | .rotating => some (.tray c.direction)
  | .homing => some (.tray .forward)
  | .backoff =>
    if c.backoffDriven then none
    else
      match c.backoffPhase with
      | .lift => some (.gate .down)
      | .drop => some (.gate .up)
      | .rotate => some (.tray c.direction.flip)
      | .homing => some (.tray .reverse)
  | .noTray | .unhomed | .idle | .settling | .jammed | .halted => none

/-- R28: the forward distance from `a` to `b` on a tray of `n`. -/
def forwardDistance (n a b : Nat) : Nat := (((b : Int) - a) % (n : Int)).toNat

/-- R28: the direction from `a` to `b`: FORWARD when the forward distance is at most the reverse distance. -/
def directionTo (n a b : Nat) : Direction :=
  if forwardDistance n a b ≤ forwardDistance n b a then .forward else .reverse

/-- The slot of the in-flight target; the current slot when none is in flight. -/
def Changer.goal (c : Changer) : Nat := (c.inFlight.map Target.slot).getD c.slot

/-- R19: the slot after a pulse in a direction. -/
def movedSlot (n slot : Nat) : Direction → Nat
  | .forward => if slot + 1 < n then slot + 1 else 0
  | .reverse => if slot = 0 then n - 1 else slot - 1

/-! ## The gate record and the motors -/

/-- R20: the arm and the occupancy follow the switches, the barrier and the gate motor's drive, and the lamp controller is
told of a change of occupancy. -/
def refreshGate (s : State) : State :=
  let old := s.changer.occupancy
  let arm := armOf s.pins.topSwitch s.pins.seatSwitch s.changer.gateDrive.isSome
  let s := s.onChanger fun c => { c with arm := arm, occupancy := occupancyOf arm s.pins.barrier }
  if s.changer.occupancy = old then s else lampSeesOccupancy old s

/-- R27: the SLIDE_STUCK condition goes when the barrier is clear or the arm is SEATED. -/
def stuckGone (s : State) : State :=
  if !s.pins.barrier || s.changer.arm = .seated then tellGone .slideStuck s else s

/-- R23: every motor of the changer stops, and the dead time of a motor that was driven begins. -/
def stopMotors (s : State) : State :=
  refreshGate (s.onChanger fun c => { c with
    trayDrive := none, gateDrive := none
    trayDead := if c.trayDrive.isSome then some 0 else c.trayDead
    gateDead := if c.gateDrive.isSome then some 0 else c.gateDead
    startDue := false, blanking := none, deglitch := none })

/-- R24: the changer returns to LIFTING for an interrupted phase; an interrupted HOMING keeps its pulse count
(DEDUCED, log entry 15). -/
def returnToLift (s : State) : State :=
  let s := stopMotors s
  s.onChanger fun c => { c with keepCount := c.state == .homing, backoffTimer := none }

/-- The beginnings and the ends of the phases of a change. -/
inductive Entry
  | change | lift | lifted | homing | zeroFound | rotate | rotated | drop | dropped | settle | settled | parked
  deriving DecidableEq, Repr

/-- R23, R24: the drive that the state calls for starts, or waits for the end of the motor's dead time. A tray drive with
the arm not LIFTED returns to LIFTING instead. A backoff drive that starts with the switch at its end of travel closed
already runs its 150 ms (DESIGN CHOICE, log entry 32). The motion plan keeps the direction of the phase that jammed while the
backoff drives the tray the other way (DESIGN CHOICE, log entry 37). -/
def startDrive (s : State) : State × Option Entry :=
  match s.changer.wanted with
  | none => (s.onChanger fun c => { c with startDue := false }, none)
  | some (.tray d) =>
    if s.changer.arm ≠ .lifted then (returnToLift s, some .lift)
    else if s.changer.trayDead.isSome then (s.onChanger fun c => { c with startDue := true }, none)
    else
      (s.onChanger fun c => { c with
        trayDrive := some d, lastDriven := d, blanking := some 0, deglitch := none, startDue := false
        backoffTimer := if c.state = .backoff then some 0 else c.backoffTimer }, none)
  | some (.gate a) =>
    if s.changer.gateDead.isSome then (s.onChanger fun c => { c with startDue := true }, none)
    else
      (refreshGate (s.onChanger fun c => { c with
        gateDrive := some a, blanking := some 0, deglitch := none, startDue := false
        backoffTimer := if c.state = .backoff then some 0 else c.backoffTimer }), none)

/-! ## Jams -/

/-- R36: the changer enters JAMMED (DEDUCED, log entry 16). -/
def enterJammed (kind : FaultKind) (phase : Phase) (s : State) : State :=
  let s := stopMotors s
  let s := s.onChanger fun c => { c with
    state := .jammed, jam := some (kind, phase), inFlight := none, pendingTarget := none, retryPhase := none
    phaseTimer := none, backoffTimer := none, settleTimer := none }
  let s := s.report .slide [fw "JAMMED", fw phase.word, fi s.changer.slot]
  let s := if kind = .jam then tellLatch .jam s else s
  tellGone .jam s

/-- R35: a retried phase that completes tells the fault list that the JAM condition has gone. -/
def completePhase (phase : Phase) (s : State) : State :=
  if s.changer.retryPhase = some phase then tellGone .jam (s.onChanger fun c => { c with retryPhase := none }) else s

/-- R27: a slide has stayed in the gate (DEDUCED, log entry 14). -/
def slideStuck (s : State) : State :=
  enterJammed .slideStuck .lift (tellPresent .slideStuck (some (.num s.changer.slot)) s)

/-! ## The phases of a change -/

/-- The phase timeout starts, fresh, in a state. -/
def inPhase (st : ChangerState) (s : State) : State :=
  s.onChanger fun c => { c with state := st, phaseTimer := some 0 }

/-- R25: the beginning of a change. -/
def beginChange (s : State) : State × Option Entry :=
  let s := s.onChanger fun c => { c with
    retries := 0, homes := c.status != .known, keepCount := false, retryPhase := none, homingCount := 0 }
  let c := s.changer
  let park := (c.inFlight.map Target.park).getD false
  if c.status = .known ∧ c.arm = .seated ∧ c.goal = c.slot ∧ park = false then (s, some .settled)
  else if c.arm = .lifted then (s, some .lifted)
  else (s, some .lift)

/-- R26: the beginning of LIFT (DEDUCED, log entry 14). -/
def beginLift (s : State) : State × Option Entry :=
  let s := inPhase .lifting s
  if s.changer.arm = .lifted then (s, some .lifted) else startDrive s

/-- R26, R27: the arm is LIFTED: the stuck-slide check, then HOMING or ROTATE. -/
def liftEnds (s : State) : State × Option Entry :=
  let s := stopMotors s
  let s := if s.changer.state = .lifting then completePhase .lift s else s
  if s.pins.barrier then (slideStuck s, none)
  else (s, some (if s.changer.homes then .homing else .rotate))

/-- R32: the beginning of HOMING (DEDUCED, log entry 14). The motion plan's direction is FORWARD from there, also where the zero
sensor is active already and the tray does not turn (DESIGN CHOICE, log entry 37). -/
def beginHoming (s : State) : State × Option Entry :=
  let s := inPhase .homing (s.onChanger fun c => { c with
    direction := .forward, homingCount := if c.keepCount then c.homingCount else 0, keepCount := false })
  if s.pins.zeroSensor then (s, some .zeroFound) else startDrive s

/-- R32: zero is found. -/
def zeroFound (s : State) : State × Option Entry :=
  let s := stopMotors s
  let s := s.onChanger fun c => { c with slot := 0, status := .known, homes := false }
  let s := s.report .slide [fw "HOMED"]
  (completePhase .homing s, some .rotate)

/-- R28: the beginning of ROTATE. -/
def beginRotate (s : State) : State × Option Entry :=
  let s := inPhase .rotating s
  let c := s.changer
  if c.goal = c.slot then (s, some .rotated)
  else startDrive (s.onChanger fun c => { c with direction := directionTo c.size c.slot c.goal })

/-- R28: the tray is at the target. -/
def rotateEnds (s : State) : State × Option Entry :=
  let s := completePhase .rotate (stopMotors s)
  (s, some (if (s.changer.inFlight.map Target.park).getD false then .parked else .drop))

/-- R30: the beginning of DROP (DEDUCED, log entry 14). -/
def beginDrop (s : State) : State × Option Entry :=
  let s := inPhase .dropping s
  if s.changer.arm = .seated then (s, some .dropped) else startDrive s

/-- R30: the arm is SEATED. -/
def dropEnds (s : State) : State × Option Entry := (completePhase .drop (stopMotors s), some .settle)

/-- R31: the settle time that a target asks for. -/
def Changer.settleFor (c : Changer) : Nat :=
  if (c.inFlight.map Target.short).getD false then min c.settle Config.shortSettle else c.settle

/-- R31: the beginning of SETTLE. -/
def beginSettle (s : State) : State × Option Entry :=
  let s := s.onChanger fun c => { c with
    state := .settling, phaseTimer := none, settleTime := c.settleFor, settleTimer := some 0 }
  (s, if s.changer.settleTime = 0 then some .settled else none)

/-- R28, R31: the change is complete: its report, its completion event, and the next change if a target is pending. The lamp
controller receives the event before the next change begins, the show engine after it (DEDUCED, log entry 2). -/
def changeCompletes (word : String) (s : State) : State × Option Entry :=
  let c := s.changer
  let b := c.goal
  let s := s.report .slide [fi b, fw word]
  let s := match c.inFlight with
    | some t => (dwellSeesCompletion c.occupancy s).emit (.changeDone b t.origin)
    | none => s
  let s := s.onChanger fun c => { c with
    state := .idle, inFlight := c.pendingTarget, pendingTarget := none, phaseTimer := none, settleTimer := none }
  (s, if s.changer.inFlight.isSome then some .change else none)

/-- R31: SEATED or EMPTY. -/
def seatedWord (occ : Occupancy) : String := if occ = .slide then "SEATED" else "EMPTY"

/-- One beginning or end of a phase, and the one that follows at once. -/
def enterOnce (e : Entry) (s : State) : State × Option Entry :=
  match e with
  | .change => beginChange s
  | .lift => beginLift s
  | .lifted => liftEnds s
  | .homing => beginHoming s
  | .zeroFound => zeroFound s
  | .rotate => beginRotate s
  | .rotated => rotateEnds s
  | .drop => beginDrop s
  | .dropped => dropEnds s
  | .settle => beginSettle s
  | .settled => changeCompletes (seatedWord s.changer.occupancy) s
  | .parked => changeCompletes "PARKED" s

/-- A beginning or end of a phase with all that follow at once, at most `fuel` of them. -/
def enterAll : Nat → Entry → State → State
  | 0, _, s => s
  | fuel + 1, e, s =>
    match enterOnce e s with
    | (s, none) => s
    | (s, some e) => enterAll fuel e s

/-- A beginning or end of a phase with all that follow at once. Two changes, each of at most nine, can follow one another. -/
def enter (e : Entry) (s : State) : State := enterAll 24 e s

/-- A start that may turn into a return to LIFTING. -/
def drive (s : State) : State :=
  match startDrive s with
  | (s, none) => s
  | (s, some e) => enter e s

/-! ## Jams, continued -/

/-- R34, R35: BACKOFF of a phase. -/
def enterBackoff (phase : Phase) (s : State) : State :=
  drive (s.onChanger fun c => { c with
    state := .backoff, backoffPhase := phase, backoffDriven := false, backoffCounted := false, backoffTimer := none
    phaseTimer := none, retryPhase := some phase })

/-- R34: the phase that a state can jam in. -/
def jamPhase : ChangerState → Option Phase
  | .lifting => some .lift
  | .rotating => some .rotate
  | .dropping => some .drop
  | .homing => some .homing
  | .noTray | .unhomed | .idle | .settling | .backoff | .jammed | .halted => none

/-- A motor of the changer is driven. -/
def Changer.driven (c : Changer) : Bool := c.trayDrive.isSome || c.gateDrive.isSome

/-- R34: a jam event. -/
def jamEvent (s : State) : State :=
  match jamPhase s.changer.state with
  | none => s
  | some phase =>
    let s := stopMotors s
    let s := tellPresent .jam (some (.phaseSlot phase s.changer.slot)) s
    if (s.faults.record .jam).mode = .retry ∧ s.changer.retries < s.changer.retriesMax then enterBackoff phase s
    else enterJammed .jam phase s

/-- R34: a phase timeout runs out; it counts driven time only (DESIGN CHOICE, log entry 4). -/
def phaseRunsOut (s : State) : State := if s.changer.driven then jamEvent s else s

/-- R34: the deglitch time starts when a current above the limit is seen outside the blanking time, in a phase that can
jam, and stops when the current is not above it. -/
def watchCurrent (s : State) : State :=
  s.onChanger fun c =>
    let seen := s.pins.motorOver && c.driven && c.blanking.isNone && (jamPhase c.state).isSome
    { c with deglitch := if seen then some (c.deglitch.getD 0) else none }

/-- R34: the motor current crosses the limit. -/
def motorCurrentMoves (high : Bool) (s : State) : State :=
  watchCurrent (s.onPins fun p => { p with motorOver := high })

/-- R23, R34: the blanking time ends. -/
def blankingEnds (s : State) : State :=
  if s.changer.blanking.isSome then watchCurrent (s.onChanger fun c => { c with blanking := none }) else s

/-- R34: the deglitch time ends. -/
def deglitchEnds (s : State) : State := if s.changer.deglitch.isSome then jamEvent s else s

/-- R35: the reverse drive of a backoff ends: the motor stops, its dead time runs, and the retries used rise by one
(DEDUCED, log entry 15). -/
def backoffDriveEnds (s : State) : State :=
  if s.changer.state = .backoff ∧ s.changer.driven = true then
    (stopMotors s).onChanger fun c => { c with
      backoffTimer := none, backoffDriven := true, backoffCounted := true
      retries := if c.backoffCounted then c.retries else c.retries + 1 }
  else s

/-- The motor of a phase. -/
def motorOf : Phase → ChangerMotor
  | .lift | .drop => .gate
  | .rotate | .homing => .tray

/-- The motor of a drive. -/
def Drive.motor : Drive → ChangerMotor
  | .tray _ => .tray
  | .gate _ => .gate

/-- R35: the phase that jammed starts again. A tray phase starts only with the arm LIFTED. A retry of HOMING counts its
pulses from 0; a retry of the LIFT that returns to an interrupted HOMING leaves that count kept (R24). -/
def retryStarts (s : State) : State :=
  match s.changer.backoffPhase with
  | .lift => enter .lift s
  | .drop => enter .drop s
  | .rotate => enter (if s.changer.arm = .lifted then .rotate else .lift) s
  | .homing =>
    enter (if s.changer.arm = .lifted then .homing else .lift) (s.onChanger fun c => { c with keepCount := false })

/-- The running dead time of a motor. -/
def Changer.deadOf (c : Changer) : ChangerMotor → Option Nat
  | .tray => c.trayDead
  | .gate => c.gateDead

/-- R23: a dead time ends: a retry begins, or a start that waited takes place (DESIGN CHOICE, log entry 4). -/
def deadTimeEnds (motor : ChangerMotor) (s : State) : State :=
  if (s.changer.deadOf motor).isNone then s
  else
    let s := s.onChanger fun c =>
      match motor with
      | .tray => { c with trayDead := none }
      | .gate => { c with gateDead := none }
    let c := s.changer
    if c.state = .backoff ∧ c.backoffDriven = true then
      (if motorOf c.backoffPhase = motor then retryStarts s else s)
    else if c.startDue ∧ c.wanted.map Drive.motor = some motor then drive s
    else s

/-! ## Sensors -/

/-- R39: the distance rule is applied in ROTATING: the target is reached, the motor runs on, or it starts the other way
after its dead time. -/
def redirect (s : State) : State :=
  let c := s.changer
  if c.goal = c.slot then enter .rotated s
  else
    let d := directionTo c.size c.slot c.goal
    if c.trayDrive = some d then s.onChanger fun c => { c with direction := d }
    else
      let s := if c.trayDrive.isSome then stopMotors s else s
      drive (s.onChanger fun c => { c with direction := d, phaseTimer := some 0 })

/-- R19, R32, R33: a pulse in a homing run. One that comes in its LIFTING or BACKOFF only counts (DESIGN CHOICE, log entry
38). -/
def homingPulse (s : State) : State :=
  let s := s.onChanger fun c => { c with homingCount := c.homingCount + 1 }
  if s.changer.state ≠ .homing then s
  else if s.pins.zeroSensor then enter .zeroFound s
  else if s.changer.size + 2 ≤ s.changer.homingCount then
    let s := tellPresent .noZero (some (.num s.changer.homingCount)) (stopMotors s)
    tellGone .noZero (enterJammed .noZero .homing s)
  else s.onChanger fun c => { c with phaseTimer := some 0 }

/-- R28: the next slot's index timeout, or the end of the rotation. -/
def rotationPulse (s : State) : State :=
  if s.changer.state ≠ .rotating then s
  else if s.changer.goal = s.changer.slot then enter .rotated s
  else s.onChanger fun c => { c with phaseTimer := some 0 }

/-- R29: the zero check after a pulse that moved the slot while the status is KNOWN. -/
def zeroCheck (s : State) : State :=
  let n := s.changer.slot
  if s.pins.zeroSensor ∧ n ≠ 0 then
    let s := s.onChanger fun c => { c with slot := 0 }
    let s := s.report .slide [fw "SLIP", fi n]
    if s.changer.state = .rotating then redirect (s.onChanger fun c => { c with phaseTimer := some 0 }) else s
  else if s.pins.zeroSensor = false ∧ n = 0 then
    rotationPulse ((s.onChanger fun c => { c with status := .unsure }).report .slide [fw "UNSURE"])
  else rotationPulse s

/-- R19: an index pulse, after which the zero sensor reads `zero`. -/
def indexMoves (zero : Bool) (s : State) : State :=
  let s := s.onPins fun p => { p with zeroSensor := zero }
  if !s.changer.trayPresent then s
  else if s.changer.homingRun then homingPulse s
  else
    let moved (s : State) := s.onChanger fun c => { c with slot := movedSlot c.size c.slot c.lastDriven }
    match s.changer.status with
    | .unhomed => s
    | .unsure => rotationPulse (moved s)
    | .known => zeroCheck (moved s)

/-- What a switch of the arm does to the phase in progress, `old` being the arm before it and `closed` whether a switch
closed: the end of LIFT or DROP, the check of R27 when the arm reaches LIFTED, the early end of a backoff drive of the
gate motor (R35), and the return of R24 (DEDUCED, log entries 14 and 15). A switch that closes while the other is closed too
leaves the arm UNKNOWN, and the drive goes on (DESIGN CHOICE, log entry 32). No check of R27 is made in HALTED (DESIGN CHOICE,
log entry 39). -/
def armMoves (old : Arm) (topClosed seatClosed : Bool) (s : State) : State :=
  let c := s.changer
  let reached := decide (old ≠ .lifted ∧ c.arm = .lifted)
  match c.state with
  | .lifting => if c.arm = .lifted then enter .lifted s else s
  | .dropping =>
    if c.arm = .seated then enter .dropped s else if reached && s.pins.barrier then slideStuck s else s
  | .settling => if reached && s.pins.barrier then slideStuck s else s
  | .rotating | .homing =>
    if c.trayDrive.isSome ∧ c.arm ≠ .lifted then enter .lift (returnToLift s)
    else if reached && s.pins.barrier then slideStuck s else s
  | .backoff =>
    if c.trayDrive.isSome ∧ c.arm ≠ .lifted then enter .lift (returnToLift s)
    else if reached && s.pins.barrier then slideStuck s
    else if (c.gateDrive = some .up ∧ topClosed = true) ∨ (c.gateDrive = some .down ∧ seatClosed = true) then
      backoffDriveEnds s
    else s
  | .noTray | .unhomed | .idle | .jammed | .halted => s

/-- R20, R26: the top switch changes. -/
def topSwitchMoves (closed : Bool) (s : State) : State :=
  let old := s.changer.arm
  let was := s.pins.topSwitch
  let s := stuckGone (refreshGate (s.onPins fun p => { p with topSwitch := closed }))
  armMoves old (closed && !was) false s

/-- R20, R30: the seat switch changes. -/
def seatSwitchMoves (closed : Bool) (s : State) : State :=
  let old := s.changer.arm
  let was := s.pins.seatSwitch
  let s := stuckGone (refreshGate (s.onPins fun p => { p with seatSwitch := closed }))
  armMoves old false (closed && !was) s

/-- R20, R27: the gate light barrier changes. -/
def barrierMoves (interrupted : Bool) (s : State) : State :=
  stuckGone (refreshGate (s.onPins fun p => { p with barrier := interrupted }))

/-- R31: the settle time ends (DESIGN CHOICE, log entry 4). -/
def settleEnds (s : State) : State := if s.changer.state = .settling then enter .settled s else s

/-! ## Requests -/

/-- R22, R36: a request is refused with STATE in the changer's present state. -/
def Changer.shut (c : Changer) : Bool :=
  match c.heldOrState with
  | .noTray | .jammed => true
  | .unhomed | .idle | .lifting | .rotating | .dropping | .settling | .homing | .backoff | .halted => false

/-- R22: the refusal of a request for a slot, if there is one (DEDUCED, log entry 16). -/
def requestRefusal (slot : Nat) (s : State) : Option RefusalWord :=
  if s.changer.shut then some .state else if s.changer.size ≤ slot then some .range else none

/-- R38 to R40, R43: an accepted request, by the state the changer is in. While HALTED no motor starts. -/
def takeRequest (t : Target) (s : State) : State :=
  let c := s.changer
  let inFlight (s : State) := s.onChanger fun c => { c with inFlight := some t }
  let pend (s : State) := s.onChanger fun c => { c with pendingTarget := some t }
  match c.heldOrState with
  | .idle | .unhomed => if c.state = .halted then inFlight s else enter .change (inFlight s)
  | .lifting | .homing => inFlight s
  | .backoff => if c.backoffPhase = .drop then pend s else inFlight s
  | .rotating => if c.state = .halted then inFlight s else redirect (inFlight s)
  | .dropping | .settling => pend s
  | .noTray | .jammed | .halted => s

/-- R22: a request of any block for an absolute slot: its effect, or the refusal that is handed back. -/
def changerRequest (t : Target) (s : State) : State × Option RefusalWord :=
  match requestRefusal t.slot s with
  | some why => (s, some why)
  | none => (takeRequest t s, none)

/-! ## The tray switch -/

/-- R41, R176: a removed target of origin SHOW is handed back to the show engine. -/
def handBack (t : Option Target) (s : State) : State :=
  match t with
  | some t => if t.origin = .show then s.emit (.changeRefused .state t.slot) else s
  | none => s

/-- R41: both targets are removed. -/
def dropTargets (s : State) : State :=
  let c := s.changer
  let s := s.onChanger fun c => { c with inFlight := none, pendingTarget := none }
  handBack c.pendingTarget (handBack c.inFlight s)

/-- R41: the tray switch opens (DEDUCED, log entry 16). -/
def trayRemoved (s : State) : State :=
  let s := s.onPins fun p => { p with trayIn := false }
  if !s.changer.trayPresent then s
  else
    let target := s.changer.inFlight
    let s := s.onChanger fun c => { c with trayPresent := false, status := .unhomed, slot := 0 }
    let s := s.report .slide [fw "TRAY", fw "OUT"]
    let inFlight := target.isSome
    let s :=
      match s.changer.state with
      | .lifting | .rotating | .dropping | .settling | .homing | .backoff =>
        let s := stopMotors s
        let s := s.onChanger fun c => { c with
          state := .noTray, retryPhase := none, phaseTimer := none, backoffTimer := none, settleTimer := none }
        dropTargets (tellGone .jam s)
      | .idle | .unhomed => s.onChanger fun c => { c with state := .noTray }
      | .halted => dropTargets (tellGone .jam (s.onChanger fun c => { c with held := some .noTray, retryPhase := none }))
      | .noTray | .jammed => s
    if inFlight ∨ s.engine.state = .running then
      tellPresent .trayOut (target.map fun t => .num t.slot) s
    else s

/-- R43: the changer enters HALTED with its present state as the held state. -/
def enterHalted (s : State) : State :=
  let s := stopMotors s
  let s := s.onChanger fun c => { c with state := .halted, held := some c.state }
  s.report .slide [fw "HALTED"]

/-- R37, R42, R43: the changer, just out of JAMMED or NO_TRAY, enters HALTED when the supply is low. -/
def haltIfLow (s : State) : State := if s.supplyLow then enterHalted s else s

/-- R42: the tray switch closes, with the zero sensor reading `zero` (DEDUCED, log entry 16). -/
def trayInserted (zero : Bool) (s : State) : State :=
  let s := s.onPins fun p => { p with trayIn := true, zeroSensor := zero }
  if s.changer.trayPresent then s
  else
    let s := s.onChanger fun c => { c with trayPresent := true }
    let s := tellGone .trayOut (s.report .slide [fw "TRAY", fw "IN"])
    match s.changer.state with
    | .noTray => haltIfLow (s.onChanger fun c => { c with state := .unhomed, slot := 0 })
    | .halted => s.onChanger fun c => { c with held := if c.held = some .noTray then some .unhomed else c.held }
    | .unhomed | .idle | .lifting | .rotating | .dropping | .settling | .homing | .backoff | .jammed => s

/-! ## Supply, faults, reset -/

/-- R43: SUPPLY_LOW is raised. -/
def changerSupplyLow (s : State) : State :=
  match s.changer.state with
  | .jammed | .noTray | .halted => s
  | .unhomed | .idle | .lifting | .rotating | .dropping | .settling | .homing | .backoff => enterHalted s

/-- R44: the changer acts on its held state (DEDUCED, log entry 15). -/
def resumeHeld (s : State) : State :=
  match s.changer.state with
  | .lifting => enter .lift s
  | .dropping => enter .drop s
  | .rotating | .homing =>
    let s := s.onChanger fun c => { c with status := .unsure, homes := true, keepCount := false }
    enter (if s.changer.arm = .lifted then .lifted else .lift) s
  | .settling => s.onChanger fun c => { c with settleTimer := some 0 }
  | .backoff => drive (s.onChanger fun c => { c with backoffDriven := false, backoffTimer := none })
  | .idle | .unhomed => if s.changer.inFlight.isSome then enter .change s else s
  | .noTray | .jammed | .halted => s

/-- R44: the supply is good again. -/
def changerSupplyGood (s : State) : State :=
  match s.changer.state, s.changer.held with
  | .halted, some st =>
    let s := s.onChanger fun c => { c with state := st, held := none }
    resumeHeld (s.report .slide [fw "RESUMED"])
  | _, _ => s

/-- R37: the position status on leaving JAMMED. A tray absent, or removed while JAMMED, has left the status UNHOMED. -/
def statusAfterClear (c : Changer) (kind : FaultKind) (phase : Phase) : PosStatus :=
  if !c.trayPresent || c.status == .unhomed || kind == .noZero then .unhomed
  else if kind == .jam && phase == .rotate then .unsure
  else c.status

/-- R37: the fault list has cleared the latch of a kind. -/
def changerCleared (kind : FaultKind) (s : State) : State :=
  match s.changer.state, s.changer.jam with
  | .jammed, some (k, phase) =>
    if k ≠ kind then s
    else
      let status := statusAfterClear s.changer k phase
      let s := s.onChanger fun c => { c with
        jam := none, status := status, slot := if status = .unhomed then 0 else c.slot }
      let s := s.report .slide [fw "CLEARED", fw status.word]
      haltIfLow (s.onChanger fun c => { c with
        state := if !c.trayPresent then .noTray else if status = .unhomed then .unhomed else .idle })
  | _, _ => s

/-- R45: the changer at a soft reset (DEDUCED, log entry 9). -/
def Changer.softReset (p : Pins) (c : Changer) : Changer :=
  { Changer.afterReset p with
    trayDead := if c.trayDrive.isSome then some 0 else c.trayDead
    gateDead := if c.gateDrive.isSome then some 0 else c.gateDead }

/-! ## Messages -/

/-- R46: the changer requests of the line are refused with STATE. -/
def lineShut (s : State) : Bool := s.showBusy || s.changer.shut

/-- R47: GOTO. A negative slot is a fault of form. -/
def doGoto (slot : Int) (s : State) : State × Reply :=
  if slot < 0 then refuse .syntaxErr "GOTO" s
  else if lineShut s then refuse .state "GOTO" s
  else
    match changerRequest ⟨slot.toNat, .line, false, false⟩ s with
    | (_, some why) => refuse why "GOTO" s
    | (s, none) => accept "GOTO" [fi slot] s

/-- R48: MOVE (DEDUCED, log entry 16). -/
def doMove (k : Int) (s : State) : State × Reply :=
  if lineShut s then refuse .state "MOVE" s
  else
    let kk := clamp (-9) 9 k
    let reply (s : State) := accept "MOVE" [fc kk (outside (-9) 9 k), fi s.changer.targetOfRecord] s
    if kk = 0 then reply s
    else
      match changerRequest ⟨s.changer.relative kk, .line, false, false⟩ s with
      | (_, some why) => refuse why "MOVE" s
      | (s, none) => reply s

/-- R49: PARK. -/
def doPark (s : State) : State × Reply :=
  if lineShut s then refuse .state "PARK" s
  else
    match changerRequest ⟨0, .line, true, false⟩ s with
    | (_, some why) => refuse why "PARK" s
    | (s, none) => accept "PARK" [] s

/-- R50: a change is in flight or held. -/
def Changer.busy (c : Changer) : Bool := c.heldOrState.inChange || c.inFlight.isSome

/-- R50: HOME. -/
def doHome (s : State) : State × Reply :=
  if lineShut s then refuse .state "HOME" s
  else if s.changer.busy then refuse .busy "HOME" s
  else
    let s := s.onChanger fun c => { c with status := if c.status = .unhomed then .unhomed else .unsure }
    accept "HOME" [] (takeRequest ⟨0, .line, false, false⟩ s)

/-- R51: a target as ASK SLIDE gives it. -/
def targetParts : Option Target → List Atom
  | none => [.word "NONE"]
  | some t => .num t.slot :: .word t.origin.word :: (if t.park then [.word "PARK"] else [])

/-- R51: the state as ASK SLIDE gives it. -/
def stateParts (c : Changer) : List Atom :=
  match c.state, c.held with
  | .halted, some st => [.word "HALTED", .word st.word]
  | st, _ => [.word st.word]

/-- R51: the jam record as ASK SLIDE gives it. -/
def jamParts : Option (FaultKind × Phase) → List Atom
  | none => [.word "NONE"]
  | some (k, p) => [.word k.word, .word p.word]

/-- R51: ASK SLIDE. -/
def doAskSlide (s : State) : State × Reply :=
  let c := s.changer
  accept "ASK SLIDE"
    [kv "STATE" (stateParts c), ki "SLOT" c.slot, kw "STATUS" c.status.word,
      kw "TRAY" (if c.trayPresent then "IN" else "OUT"), ki "SIZE" c.size, kw "ARM" c.arm.word,
      kw "GATE" c.occupancy.word, kv "TARGET" (targetParts c.inFlight), kv "PENDING" (targetParts c.pendingTarget),
      ki "RECORD" c.targetOfRecord, kw "DIR" c.direction.word, ki "RETRIES" c.retries, kv "JAM" (jamParts c.jam)] s

end Sys2Proof.Machine
end

