-- ==== Sys2Proof/Machine/Tape.lean ====
section
/-! DEFINITION. The transport controller (chapter 05): the tape motor and its rest, the transport states, the locate, the
pause reasons, the sound level, supply loss, its messages and its reset. -/

namespace Sys2Proof.Machine

/-! ## Words -/

/-- R106: the transport states. -/
def TapeState.word : TapeState → String
  | .noTape => "NO_TAPE" | .stopped => "STOPPED" | .playing => "PLAYING" | .paused => "PAUSED"
  | .windingFwd => "WINDING_FWD" | .windingRev => "WINDING_REV" | .locating => "LOCATING" | .cueRecord => "CUE_RECORD"

/-- R121: the motor. -/
def TapeMotor.word : TapeMotor → String
  | .off => "OFF" | .play => "PLAY" | .fwd => "FWD" | .rev => "REV"

/-- R121: the end flag. -/
def EndFlag.word : EndFlag → String
  | .none => "NONE" | .fwd => "FWD" | .rev => "REV"

/-- R111: the outcomes of a locate. -/
def LocateOutcome.word : LocateOutcome → String
  | .arrived => "ARRIVED" | .command => "COMMAND" | .endOfTape => "END" | .supply => "SUPPLY" | .out => "OUT"

/-- R106, R118: a state as reports and replies give it. -/
def stateFields (t : Tape) : List Field := fw t.state.word :: (if t.holdPause then [fw "HOLD"] else [])

/-! ## The motor and the delivered volume -/

/-- The direction a motor drive runs in. -/
def TapeMotor.direction : TapeMotor → Option Direction
  | .off => none
  | .play | .fwd => some .forward
  | .rev => some .reverse

/-- R104: the motor stops, and the rest time counts from there. The end timer returns to 0 with it (DESIGN CHOICE, log
entry 35). -/
def Tape.motorOff (t : Tape) : Tape := if t.motor = .off then t else { t with motor := .off, rest := 0, endTimer := 0 }

/-- R104, R105: the motor is driven; the end timer returns to 0 at a start, and the rest time stays as it stands (DESIGN
CHOICE, log entry 46). -/
def Tape.motorOn (m : TapeMotor) (t : Tape) : Tape :=
  { t with
    motor := m
    lastDir := m.direction.getD t.lastDir
    endTimer := if t.motor = .off then 0 else t.endTimer }

/-- R115: the delivered volume. -/
def Tape.outVolume (t : Tape) : Nat := if t.mute then 0 else if t.state.listening then t.value else 0

/-- R115: the attenuator is driven with the delivered volume. -/
def Tape.deliver (t : Tape) : Tape := { t with delivered := t.outVolume }

/-- R104: a start in a direction can go at once: the motor runs that way, or it is off with nothing to wait for. -/
def Tape.canGo (t : Tape) (d : Direction) : Bool :=
  match t.motor.direction with
  | some now => now == d
  | none => t.lastDir == d || decide (Config.reverseGuard ≤ t.rest)

/-! ## Transport states -/

/-- R106, R115: the transport state changes without a report: hold pause as given, the delivered volume at once, and the
cue unit and the trigger queue told (DEDUCED, log entry 18). -/
def moveTape (new : TapeState) (hold : Bool) (s : State) : State :=
  let old := s.tape.state
  let s := s.onTape fun t => Tape.deliver { t with state := new, holdPause := hold }
  if old = new then s else (s.onTriggers fun q => { q with toldTape := new }).emit (.tapeMoved old new)

/-- R106: the transport state changes, with its report (DEDUCED, log entry 18). -/
def moveTapeTold (new : TapeState) (hold : Bool) (s : State) : State :=
  let old := s.tape.state
  let s := s.onTape fun t => Tape.deliver { t with state := new, holdPause := hold }
  if old = new then s
  else
    let s := s.report .tape (stateFields s.tape)
    (s.onTriggers fun q => { q with toldTape := new }).emit (.tapeMoved old new)

/-- R107: the drive of a state. -/
def driveOf : TapeState → TapeMotor
  | .playing | .cueRecord => .play
  | .windingFwd => .fwd
  | .windingRev => .rev
  | .noTape | .stopped | .paused | .locating => .off

/-- R107: a driven state is entered; PLAYING with a pause reason becomes PAUSED with hold pause set
(DEDUCED, log entry 18). -/
def enterDriven (st : TapeState) (s : State) : State :=
  if st = .playing ∧ s.tape.reasons.none = false then moveTapeTold .paused true (s.onTape Tape.motorOff)
  else moveTapeTold st false (s.onTape (Tape.motorOn (driveOf st)))

/-- R104: a start into a state, at once or through the guard. -/
def startTape (st : TapeState) (s : State) : State :=
  match (driveOf st).direction with
  | none => s
  | some d =>
    if s.tape.canGo d then enterDriven st s
    else moveTape .stopped false (s.onTape fun t => { t.motorOff with guard := some st })

/-! ## Locate -/

/-- R111: a locate ends before arrival: its report, and the completion event of a SHOW locate. -/
def endLocate (outcome : LocateOutcome) (s : State) : State :=
  match s.tape.locate with
  | none => s
  | some l =>
    let s := s.onTape fun t => { t with locate := none }
    let s := s.report .tape [fw "LOCATE", fw "ENDED", fw outcome.word]
    if l.origin = .show then s.emit (.locateDone outcome none) else s

/-- R110: the tape has come to rest and the locate has arrived. -/
def arrive (l : Locate) (s : State) : State :=
  let hold := l.play && !s.tape.reasons.none
  let new : TapeState := if l.play && !hold then .playing else .paused
  let s := s.onTape fun t =>
    let t := { t with locate := none }
    if new = .playing then t.motorOn .play else t
  let s := moveTape new hold s
  let s := s.report .tape (fw "LOCATED" :: fi s.tape.counter :: stateFields s.tape)
  if l.origin = .show then s.emit (.locateDone .arrived (some (s.tape.counter, s.tape.state))) else s

/-- R110: the approach window is reached: the motor stops and the phase is ARRIVING. A tape already at rest has arrived
(DEDUCED, log entry 18). -/
def approach (l : Locate) (s : State) : State :=
  let s := s.onTape fun t => { t.motorOff with locate := some { l with phase := .arriving } }
  if Config.reverseGuard ≤ s.tape.rest then arrive l s else s

/-- R109, R111: a locate request is refused with STATE. -/
def locateRefused (target : Int) (s : State) : Bool :=
  let d := target - s.tape.counter
  s.tape.state == .noTape || s.supplyLow ||
    (s.tape.endFlag == .fwd && decide ((Config.approachWindow : Int) < d)) ||
    (s.tape.endFlag == .rev && decide (d < -(Config.approachWindow : Int)))

/-- R109: the direction of a locate; one that starts within the approach window takes that of its distance too, a distance
of 0 being REVERSE (DESIGN CHOICE, log entry 40). -/
def locateDirection (d : Int) : Direction := if 0 < d then .forward else .reverse

/-- R109: the wind of a direction. -/
def windOf : Direction → TapeMotor
  | .forward => .fwd
  | .reverse => .rev

/-- R109: an accepted locate request (DEDUCED, log entry 18). -/
def startLocate (target : Int) (play : Bool) (origin : LocateOrigin) (s : State) : State :=
  let s := endLocate .command s
  let d := target - s.tape.counter
  let l : Locate := ⟨target, play, origin, .waiting, locateDirection d⟩
  let s := moveTapeTold .locating false (s.onTape fun t => { t with guard := none, locate := some l })
  if -(Config.approachWindow : Int) ≤ d ∧ d ≤ Config.approachWindow then approach l s
  else if s.tape.canGo l.direction then
    s.onTape fun t => { t.motorOn (windOf l.direction) with locate := some { l with phase := .winding } }
  else s.onTape Tape.motorOff

/-- R109: a locate request: its effect, or a refusal with STATE. -/
def locateRequest (target : Int) (play : Bool) (origin : LocateOrigin) (s : State) : State × Bool :=
  let n := clamp (-Config.tapeLimit) Config.tapeLimit target
  if locateRefused n s then (s, false) else (startLocate n play origin s, true)

/-! ## Commands -/

/-- R106: the transport commands. -/
inductive TapeCommand | stop | pause | play | cuerec | fwd | rew
  deriving DecidableEq, Repr

/-- R118: the keywords of TAPE. -/
def TapeCommand.word : TapeCommand → String
  | .stop => "STOP" | .pause => "PAUSE" | .play => "PLAY" | .cuerec => "CUEREC" | .fwd => "FWD" | .rew => "REW"

/-- R105, R106, R108: a command is refused with STATE. -/
def tapeRefused (c : TapeCommand) (s : State) : Bool :=
  s.tape.state == .noTape ||
    (match c with
      | .stop | .pause => false
      | .play | .fwd => s.supplyLow || s.tape.endFlag == .fwd
      | .cuerec => s.supplyLow || s.tape.endFlag == .fwd || s.showBusy
      | .rew => s.supplyLow || s.tape.endFlag == .rev)

/-- R107: STOP and PAUSE: the motor off, the guard dropped, hold pause cleared (DEDUCED, log entry 18). -/
def stopTape (new : TapeState) (s : State) : State :=
  moveTapeTold new false (s.onTape fun t => { t.motorOff with guard := none })

/-- R107: one of the four starts; a state already in force changes nothing. -/
def startCommand (st : TapeState) (s : State) : State :=
  let s := s.onTape fun t => { t with guard := none }
  if s.tape.state = st then s else startTape st s

/-- R107: an accepted command. -/
def runTapeCommand (c : TapeCommand) (s : State) : State :=
  let s := endLocate .command s
  match c with
  | .stop => stopTape .stopped s
  | .pause => stopTape .paused s
  | .play => startCommand .playing s
  | .cuerec => startCommand .cueRecord s
  | .fwd => startCommand .windingFwd s
  | .rew => startCommand .windingRev s

/-- R106: a transport command of any origin: its effect, or a refusal with STATE. -/
def tapeCommand (c : TapeCommand) (s : State) : State × Bool :=
  if tapeRefused c s then (s, false) else (runTapeCommand c s, true)

/-- R108, R187: the guard once the show has become RUNNING. A start of CUE_RECORD that still waits becomes one of PLAYING, so
that CUE_RECORD is not entered in the show (DESIGN CHOICE, log entry 36). -/
def Tape.guardAtRun (t : Tape) : Option TapeState :=
  if t.guard = some .cueRecord then some .playing else t.guard

/-- R108, R187: the show engine tells the controller that the show became RUNNING: CUE_RECORD becomes PLAYING, in force at
once and where it waits in the guard. -/
def tapeSeesRunning (s : State) : State :=
  let s := s.onTape fun t => { t with guard := t.guardAtRun }
  if s.tape.state = .cueRecord then enterDriven .playing s else s

/-! ## Events -/

/-- R104, R109, R110: the rest time reaches 300 ms (DESIGN CHOICE, log entry 4). -/
def restReached (s : State) : State :=
  if s.tape.motor ≠ .off then s
  else
    let s := s.onTape fun t => { t with rest := Config.reverseGuard }
    match s.tape.guard, s.tape.locate with
    | some st, _ => enterDriven st (s.onTape fun t => { t with guard := none })
    | none, some l =>
      (match l.phase with
        | .waiting =>
          s.onTape fun t => { t.motorOn (windOf l.direction) with locate := some { l with phase := .winding } }
        | .arriving => arrive l s
        | .winding => s)
    | none, none => s

/-- R103: the tape counter after a pulse in a direction. -/
def movedCounter (n : Int) : Direction → Int
  | .forward => min Config.tapeLimit (n + 1)
  | .reverse => max (-Config.tapeLimit) (n - 1)

/-- R105: the end flag after a pulse counted under drive. -/
def flagAfterPulse (f : EndFlag) (driven : Option Direction) : EndFlag :=
  match f, driven with
  | .fwd, some .reverse => .none
  | .rev, some .forward => .none
  | f, _ => f

/-- R103, R105: a reel tachometer pulse moves the counter, clears the end flag and restarts the end timer. -/
def Tape.countPulse (t : Tape) : Tape :=
  { t with
    counter := movedCounter t.counter (t.motor.direction.getD t.lastDir)
    endFlag := flagAfterPulse t.endFlag t.motor.direction
    endTimer := if t.motor = .off then t.endTimer else 0 }

/-- R103, R110: a reel tachometer pulse. -/
def reelPulse (s : State) : State :=
  if !s.tape.present then s
  else
    let s := s.onTape Tape.countPulse
    match s.tape.locate with
    | some l =>
      if l.phase = .winding ∧ (l.target - s.tape.counter).natAbs ≤ Config.approachWindow then approach l s else s
    | none => s

/-- R105: the end flag that a drive sets. -/
def endFlagOf : Direction → EndFlag
  | .forward => .fwd
  | .reverse => .rev

/-- R105: the end timer reaches 1500 ms. -/
def tapeEnds (s : State) : State :=
  match s.tape.motor.direction with
  | none => s
  | some d =>
    let s := s.onTape fun t => { t.motorOff with endFlag := endFlagOf d }
    let s := moveTape .stopped false (endLocate .endOfTape s)
    s.report .tape [fw "END", fw (endFlagOf d).word]

/-- R102: the cassette switch opens (DEDUCED, log entry 17). -/
def tapeRemoved (s : State) : State :=
  let s := s.onPins fun p => { p with tapeIn := false }
  if !s.tape.present then s
  else
    let s := s.onTape fun t => { t.motorOff with present := false }
    let s := endLocate .out s
    let s := moveTape .noTape false (s.onTape fun t => { t with guard := none, endFlag := .none })
    s.report .tape [fw "OUT"]

/-- R102: the cassette switch closes (DEDUCED, log entry 17). -/
def tapeInserted (s : State) : State :=
  let s := s.onPins fun p => { p with tapeIn := true }
  if s.tape.present then s
  else
    let s := s.onTape fun t => { t with present := true, counter := 0, endFlag := .none }
    (moveTape .stopped false s).report .tape [fw "IN"]

/-! ## Pause reasons -/

/-- R112: a playing tape is paused for a reason. -/
def holdTape (s : State) : State :=
  if s.tape.state = .playing then moveTapeTold .paused true (s.onTape Tape.motorOff) else s

/-- R112: a reason has been removed; a hold pause with no reason left plays again. -/
def reasonGone (s : State) : State :=
  if s.tape.reasons.none ∧ s.tape.state = .paused ∧ s.tape.holdPause = true then enterDriven .playing s else s

/-- R112: the queue's hold. -/
def queueHolds (s : State) : State :=
  if s.tape.reasons.byQueue then s else holdTape (s.onTape fun t => { t with reasons := { t.reasons with byQueue := true } })

/-- R112: the queue's release. -/
def queueReleases (s : State) : State :=
  if s.tape.reasons.byQueue then reasonGone (s.onTape fun t => { t with reasons := { t.reasons with byQueue := false } })
  else s

/-! ## Sound level -/

/-- R113, R114: the volume ramp completes; a hold fade that completes with SHOW present pauses a playing tape. -/
def volCompletes (s : State) : State :=
  let r := s.tape.ramp
  let s := s.onTape fun t => { t with value := r.target, ramp := { r with active := false } }
  let s := s.report .tape [fw "VOL", fi r.target]
  if r.origin = .hold ∧ s.tape.reasons.byShow = true then holdTape s else s

/-- R114: a ramp request. -/
def volRequest (target duration : Nat) (origin : VolOrigin) (s : State) : State :=
  let d := tenMs duration
  let s := s.onTape fun t => { t with
    ramp := { start := t.value, target := target, duration := d, elapsed := 0, origin := origin, active := true } }
  if d = 0 then volCompletes s else s

/-- R114: the ramp at an expiry of the update timer. -/
def advanceVol (s : State) : State :=
  let r := s.tape.ramp
  if !r.active then s
  else
    let e := r.elapsed + Config.volumeUpdate
    let s := s.onTape fun t => { t with ramp := { r with elapsed := e } }
    if r.duration ≤ e then volCompletes s
    else s.onTape fun t => { t with value := rampValue r.start r.target e r.duration }

/-- R114, R115: one expiry of the update timer. -/
def runVolumeUpdate (s : State) : State :=
  (advanceVol (s.onTape fun t => { t with updateTimer := 0 })).onTape Tape.deliver

/-- R115: the mute is set; a change is reported and acts at once. -/
def setMute (on : Bool) (s : State) : State :=
  if s.tape.mute = on then s
  else (s.onTape fun t => Tape.deliver { t with mute := on }).report .tape [fw "MUTE", fw (onOff on)]

/-- R113: the show becomes HELD: SHOW is added, and the hold fade starts. -/
def showHolds (s : State) : State :=
  let s := s.onTape fun t => { t with reasons := { t.reasons with byShow := true }, resume := t.ramp.target }
  volRequest 0 Config.holdFade .hold s

/-- R113: the show leaves HELD: SHOW is removed, and the resume fade starts. -/
def showReleases (s : State) : State :=
  let s :=
    if s.tape.reasons.byShow then reasonGone (s.onTape fun t => { t with reasons := { t.reasons with byShow := false } })
    else s
  volRequest s.tape.resume Config.holdFade .hold s

/-! ## Supply and reset -/

/-- R116: SUPPLY_LOW is raised. -/
def tapeSupplyLow (s : State) : State :=
  let s := s.onTape fun t => { t.motorOff with reasons := { t.reasons with bySupply := true } }
  match s.tape.state with
  | .playing => moveTapeTold .paused true s
  | .cueRecord => moveTapeTold .paused false s
  | .windingFwd | .windingRev => moveTapeTold .stopped false s
  | .locating => moveTapeTold .stopped false (endLocate .supply s)
  | .stopped =>
    if s.tape.guard.isSome then
      (s.onTape fun t => { t with guard := none }).report .tape [fw "STOPPED"]
    else s
  | .paused | .noTape => s

/-- R116: the supply is good again. -/
def tapeSupplyGood (s : State) : State :=
  if s.tape.reasons.bySupply then reasonGone (s.onTape fun t => { t with reasons := { t.reasons with bySupply := false } })
  else s

/-- R117: the transport controller at a soft reset (the end timer: DESIGN CHOICE, log entry 35). -/
def Tape.softReset (p : Pins) (t : Tape) : Tape :=
  { Tape.afterReset p with counter := t.counter, lastDir := t.lastDir }

/-! ## Messages -/

/-- R118: a TAPE request of the line. -/
def doTape (c : TapeCommand) (s : State) : State × Reply :=
  match tapeCommand c s with
  | (_, false) => refuse .state "TAPE" s
  | (s, true) =>
    accept "TAPE" (fw c.word :: stateFields s.tape ++ (if s.tape.guard.isSome then [fw "GUARD"] else [])) s

/-- R119: LOCATE count[,PLAY]. -/
def doLocate (count : Int) (play : Bool) (s : State) : State × Reply :=
  match locateRequest count play .line s with
  | (_, false) => refuse .state "LOCATE" s
  | (s, true) =>
    accept "LOCATE" (fc (clamp (-Config.tapeLimit) Config.tapeLimit count)
      (outside (-Config.tapeLimit) Config.tapeLimit count) :: (if play then [fw "PLAY"] else [])) s

/-- R103: ZERO. -/
def doZero (s : State) : State × Reply :=
  match s.tape.state with
  | .noTape | .locating => refuse .state "ZERO" s
  | .stopped | .playing | .paused | .windingFwd | .windingRev | .cueRecord =>
    accept "ZERO" [] (s.onTape fun t => { t with counter := 0 })

/-- R120: VOL level[,fade]. -/
def doVol (level : Int) (fade : Option Int) (s : State) : State × Reply :=
  if s.showBusy then refuse .state "VOL" s
  else
    let f := fade.getD 0
    let lv := (clamp 0 255 level).toNat
    let fd := tenMs (clamp 0 9900 f).toNat
    accept "VOL" [fc lv (outside 0 255 level), fc fd (outside 0 9900 f)] (volRequest lv fd .line s)

/-- R115: MUTE ON and MUTE OFF. -/
def doMute (on : Bool) (s : State) : State × Reply := accept "MUTE" [fw (onOff on)] (setMute on s)

/-- R121: the phases of a locate. -/
def LocatePhase.word : LocatePhase → String
  | .waiting => "WAITING" | .winding => "WINDING" | .arriving => "ARRIVING"

/-- R121: the origins of a locate. -/
def LocateOrigin.word : LocateOrigin → String
  | .line => "LINE" | .show => "SHOW"

/-- R121: the origins of a volume ramp. -/
def VolOrigin.word : VolOrigin → String
  | .line => "LINE" | .show => "SHOW" | .hold => "HOLD"

/-- R121: the locate as ASK TAPE gives it. -/
def locateParts : Option Locate → List Atom
  | none => [.word "NONE"]
  | some l => [.num l.target, .word l.phase.word, .word l.origin.word] ++ (if l.play then [.word "PLAY"] else [])

/-- R121: the guard as ASK TAPE gives it. -/
def guardParts (t : Tape) : List Atom :=
  match t.guard with
  | none => [.word "NONE"]
  | some st => [.word st.word, .num t.rest]

/-- R121: the pause reasons in their order. -/
def reasonWords (r : Reasons) : List String :=
  (if r.byQueue then ["QUEUE"] else []) ++ (if r.byShow then ["SHOW"] else []) ++ (if r.bySupply then ["SUPPLY"] else [])

/-- R121: ASK TAPE. -/
def doAskTape (s : State) : State × Reply :=
  let t := s.tape
  accept "ASK TAPE"
    [kv "STATE" (.word t.state.word :: (if t.holdPause then [.word "HOLD"] else [])), ki "COUNT" t.counter,
      kw "END" t.endFlag.word, kw "MOTOR" t.motor.word, kv "GUARD" (guardParts t), kv "LOCATE" (locateParts t.locate),
      kv "REASONS" (wordsOrNone (reasonWords t.reasons)), ki "VOL" t.value, ki "VTARGET" t.ramp.target,
      ki "VFADE" t.ramp.duration, ki "VELAPSED" t.ramp.elapsed, kw "VORIGIN" t.ramp.origin.word, ki "RESUME" t.resume,
      kw "MUTE" (onOff t.mute), ki "OUT" t.delivered] s

end Sys2Proof.Machine
end

