-- ==== Sys2Proof/Machine/Triggers.lean ====
section
/-! DEFINITION. The trigger queue (chapter 09): the permission check, entry of a record, the tape hold, flushing, and its
messages. Taking a record hands it to the show engine and stands with the show engine. -/

namespace Sys2Proof.Machine

/-- R198, R199: the kinds. -/
def TriggerKind.word : TriggerKind → String
  | .next => "NEXT" | .back => "BACK" | .jump _ => "JUMP"

/-- R186: the records the queue holds. -/
def Triggers.count (t : Triggers) : Nat := t.queue.length

/-- Changes the counters. -/
def Triggers.tally (f : TriggerCounters → TriggerCounters) (t : Triggers) : Triggers := { t with counters := f t.counters }

/-! ## Judgement and entry -/

/-- R189: an arrival is judged: the entry and the mode it was judged in, with the counting of NOTE and DROP. -/
def judge (source : Source) (s : State) : State × Perm × Mode :=
  let mode := s.mode
  let entry := s.triggers.perm source mode
  let s :=
    match entry with
    | .act => s
    | .note =>
      let s := s.onTriggers (Triggers.tally fun c => { c with noted := wrapInc c.noted })
      if source = .dwell then s.report .show [fw "TRIG", fw "NOTED", fw "DWELL", fw "NEXT"] else s
    | .drop => s.onTriggers (Triggers.tally fun c => { c with dropped := wrapInc c.dropped })
  (s, entry, mode)

/-- R186: the tape count of a record: present while the tape moves under drive or is being located
(DEDUCED, log entry 29). -/
def countNow (s : State) : Option Int :=
  match s.triggers.toldTape with
  | .playing | .cueRecord | .windingFwd | .windingRev | .locating => some s.tape.counter
  | .noTape | .stopped | .paused => none

/-- R190: an arrival enters the queue, or is discarded as FULL. The answer is true for QUEUED. -/
def enterRecord (source : Source) (kind : TriggerKind) (detail : Option TriggerDetail) (s : State) : State × Bool :=
  if s.triggers.count < Config.queuePlaces then
    let r : Trigger := ⟨s.triggers.nextSeq, source, kind, detail, countNow s⟩
    let s := s.onTriggers fun t =>
      { t with
        queue := t.queue ++ [r]
        nextSeq := nextSeq t.nextSeq
        counters := { t.counters with entered := wrapInc t.counters.entered } }
    ((s.emit .offerHead).emit .reviewHold, true)
  else
    let s := s.onTriggers (Triggers.tally fun c => { c with full := wrapInc c.full })
    (s.report .show [fw "TRIG", fw "FULL", fw source.word, fw kind.word], false)

/-! ## Tape hold and flush -/

/-- R194: the review of the tape hold. -/
def reviewHold (s : State) : State :=
  let t := s.triggers
  if t.hold = false ∧ t.tapeHold = true ∧ t.toldShow = .running ∧ t.holdAt ≤ t.count then
    let s := queueHolds (s.onTriggers fun t => { t with hold := true })
    s.report .show [fw "TRIG", fw "HOLD", fi s.triggers.count]
  else if t.hold = true ∧ (t.count ≤ t.releaseAt ∨ t.tapeHold = false ∨ t.toldShow.inShow = false) then
    let s := queueReleases (s.onTriggers fun t => { t with hold := false })
    s.report .show [fw "TRIG", fw "RELEASE", fi s.triggers.count]
  else s

/-- R195: every record is removed. -/
def flushQueue (s : State) : State :=
  let n := s.triggers.count
  let s := s.onTriggers fun t =>
    { t with queue := [], counters := { t.counters with flushed := (t.counters.flushed + n) % Config.wrap32 } }
  if n = 0 then s else s.report .show [fw "TRIG", fw "FLUSHED", fi n]

/-- R187, R194, R195: the show engine tells the queue of a change of show state. -/
def queueSeesShow (new : ShowState) (s : State) : State :=
  let was := s.triggers.toldShow
  let s := s.onTriggers fun t => { t with toldShow := new }
  let s := if was.inShow ∧ (new = .ready ∨ new = .ended) then flushQueue s else s
  reviewHold s

/-- R193: the NEXT records the queue holds. -/
def Triggers.nextCount (t : Triggers) : Nat := (t.queue.filter fun r => r.kind == .next).length

/-! ## Messages -/

/-- R198: an accepted trigger verb of the line. -/
def enterFromLine (verb : String) (kind : TriggerKind) (first : List Field) (s : State) : State × Reply :=
  let seq := s.triggers.nextSeq
  let s := (enterRecord .line kind none s).1
  accept verb (first ++ [fi seq, fi s.triggers.count]) s

/-- R198: NEXT and BACK. -/
def doTrigger (verb : String) (kind : TriggerKind) (s : State) : State × Reply :=
  if !s.showBusy then refuse .state verb s
  else if Config.queuePlaces ≤ s.triggers.count then refuse .full verb s
  else enterFromLine verb kind [] s

/-- R198: JUMP n. -/
def doJump (n : Int) (s : State) : State × Reply :=
  if !s.showBusy then refuse .state "JUMP" s
  else if outside 1 s.engine.steps.length n then refuse .range "JUMP" s
  else if Config.queuePlaces ≤ s.triggers.count then refuse .full "JUMP" s
  else enterFromLine "JUMP" (.jump n.toNat) [fi n] s

/-- The reply to PERMIT of one entry. -/
def permitReply (source : Source) (mode : Mode) (s : State) : State × Reply :=
  accept "PERMIT" [fw source.word, fw mode.word, fw (s.triggers.perm source mode).word] s

/-- R199: PERMIT source,mode,value. -/
def doPermitSet (source : Source) (mode : Mode) (value : Perm) (s : State) : State × Reply :=
  if source = .line then refuse .range "PERMIT" s
  else permitReply source mode (s.onTriggers fun t => { t with perms := t.perms.set (permIndex source mode) value })

/-- R199: PERMIT source,mode. -/
def doPermitRead (source : Source) (mode : Mode) (s : State) : State × Reply := permitReply source mode s

/-- R199: the detail of a record. -/
def triggerDetail : Option TriggerDetail → Atom
  | none => .word "NONE"
  | some (.symbol y) => .word y.word
  | some (.keyCode n) => .num n

/-- R199: one record of the queue. -/
def triggerParts (r : Trigger) : List Atom :=
  [.num r.seq, .word r.source.word, .word r.kind.word,
    (match r.kind with | .jump n => .num n | .next | .back => .word "NONE"), triggerDetail r.detail, numOrNone r.tape]

/-- R199: the fields Q1 to Q8. -/
def queueFields (q : List Trigger) : List Field :=
  (q.zipIdx 1).map fun (r, i) => kv ("Q" ++ toString i) (triggerParts r)

/-- R199: PERMIT STATUS. -/
def doPermitStatus (s : State) : State × Reply :=
  let t := s.triggers
  let c := t.counters
  accept "PERMIT STATUS"
    ([kw "MODE" s.mode.word, ki "COUNT" t.count, kw "HOLD" (onOff t.hold), ki "NEXTSEQ" t.nextSeq] ++
      queueFields t.queue ++
      [ki "ENTERED" c.entered, ki "TAKEN" c.taken, ki "UNUSED" c.unused, ki "FLUSHED" c.flushed, ki "FULL" c.full,
        ki "NOTED" c.noted, ki "DROPPED" c.dropped]) s

end Sys2Proof.Machine
end

