-- ==== Sys2Proof/Machine/Cue.lean ====
section
/-! DEFINITION. The cue unit (chapter 06): windows and bands, settlement, the burst classifier, dispositions, the cue log, the
cue writer, and its messages. Instants are in quarters of a millisecond. -/

namespace Sys2Proof.Machine

/-! ## Detectors -/

/-- Changes the unit of a detector. -/
def Cue.changeUnit (d : Detector) (f : DetectorUnit → DetectorUnit) (c : Cue) : Cue :=
  { c with units := c.units.set d (f c.units[d]) }

/-- Changes the counters. -/
def Cue.tally (f : CueCounters → CueCounters) (c : Cue) : Cue := { c with counters := f c.counters }

/-- R123: the expected count of a window. -/
def expectedCount (freq win : Nat) (long : Bool) : Nat :=
  if long then freq * win * 5 / 4000 else freq * win / 1000

/-- R123: the lower band limit. -/
def lowBand (expected tol : Nat) : Nat := expected * (100 - tol) / 100

/-- R123: the upper band limit, rounded up. -/
def highBand (expected tol : Nat) : Nat := (expected * (100 + tol) + 99) / 100

/-- R123: a window that begins at an instant, with the settings as they stand. -/
def DetectorSettings.window (g : DetectorSettings) (long : Bool) (start : Nat) : Window :=
  let e := expectedCount g.freq g.win long
  { start := start, len := if long then 5 * g.win else 4 * g.win, low := lowBand e g.tol, high := highBand e g.tol,
    audio := g.audio, count := 0 }

/-- R123, R124: the next window of a detector begins; with hop ON the one after it has the other length. -/
def DetectorUnit.begin (start : Nat) (u : DetectorUnit) : DetectorUnit :=
  let long := u.set.hop && u.hopLong
  { u with window := some (u.set.window long start), hopLong := u.set.hop && !long }

/-- R122: detection starts. -/
def startDetection (s : State) : State :=
  s.onCue fun c =>
    { c with
      detecting := true
      units := c.units.map fun u => DetectorUnit.begin s.now { u with hopLong := false } }

/-- R123: a rising crossing of a detector's input. -/
def countCrossing (d : Detector) (s : State) : State :=
  s.onCue (Cue.changeUnit d fun u =>
    { u with window := u.window.map fun w => { w with count := satInc Config.maxCrossings w.count } })

/-! ## The cue log and the dispositions -/

/-- R133: the dispositions. -/
def Disposition.word : Disposition → String
  | .acted => "ACTED" | .queued => "QUEUED" | .full => "FULL" | .noted => "NOTED" | .dropped => "DROPPED"
  | .echo => "ECHO"

/-- R134: an entry enters the log. -/
def logEntry (y : Symbol) (disposition : Option Disposition) (s : State) : State :=
  s.onCue fun c =>
    let log := c.log ++ [⟨c.nextSeq, y, c.action y, disposition, s.tape.counter⟩]
    { c with log := log.drop (log.length - Config.cueLogPlaces), nextSeq := nextSeq c.nextSeq }

/-- R133: the counter of a disposition rises. -/
def countDisposition (d : Disposition) (c : CueCounters) : CueCounters :=
  match d with
  | .acted => { c with acted := wrapInc c.acted }
  | .queued => { c with queued := wrapInc c.queued }
  | .full => { c with full := wrapInc c.full }
  | .noted => { c with noted := wrapInc c.noted }
  | .dropped => { c with dropped := wrapInc c.dropped }
  | .echo => { c with echo := wrapInc c.echo }

/-- R132: a relative request to the changer with origin CUE. The answer is true when it is refused. -/
def cueMoves (k : Int) (s : State) : State × Bool :=
  match changerRequest ⟨s.changer.relative k, .cue, false, false⟩ s with
  | (s, none) => (s, false)
  | (s, some _) => (s, true)

/-- R132: the transport STOP with origin CUE. -/
def cueStopsTape (s : State) : State × Bool :=
  match tapeCommand .stop s with
  | (s, ok) => (s, !ok)

/-- The disposition of an entry in the queue. -/
def queued (r : State × Bool) : State × Disposition × Bool := (r.1, if r.2 then .queued else .full, false)

/-- The disposition of an action taken, with its refusal. -/
def acted (r : State × Bool) : State × Disposition × Bool := (r.1, .acted, r.2)

/-- R132: NEXT, BACK or TAPE_STOP: the answer of the check decides. -/
def cueArrival (y : Symbol) (action : CueAction) (s : State) : State × Disposition × Bool :=
  match judge .cue s with
  | (s, .note, _) => (s, .noted, false)
  | (s, .drop, _) => (s, .dropped, false)
  | (s, .act, mode) =>
    let direct := mode = .manual ∨ mode = .program
    match action with
    | .next => if direct then acted (cueMoves 1 s) else queued (enterRecord .cue .next (some (.symbol y)) s)
    | .back => if direct then acted (cueMoves (-1) s) else queued (enterRecord .cue .back (some (.symbol y)) s)
    | .tapeStop => acted (cueStopsTape s)
    | .mark | .nothing => (s, .noted, false)

/-- R130, R132: the disposition of a classified burst, with what it does, and whether a request of it was refused. -/
def disposition (y : Symbol) (echo : Bool) (s : State) : State × Disposition × Bool :=
  if echo then (s, .echo, false)
  else
    match s.cue.action y with
    | .mark | .nothing => (s, .noted, false)
    | action => cueArrival y action s

/-- R133: a classified burst is disposed of: its counter, its log entry and its report. -/
def disposeBurst (y : Symbol) (echo : Bool) (s : State) : State :=
  let action := s.cue.action y
  let count := s.tape.counter
  match disposition y echo s with
  | (s, d, refused) =>
    let s := s.onCue (Cue.tally (countDisposition d))
    let s := logEntry y (some d) s
    s.report .cue ([fw (detectorWord y.detector), fw y.length.word, fw action.word, fw d.word, fi count] ++
      (if refused then [fw "REFUSED"] else []))

/-- R127: a burst ends. -/
def burstEnds (d : Detector) (b : Burst) (s : State) : State :=
  if b.hits ≤ 2 then s.onCue (Cue.tally fun c => { c with noise := wrapInc c.noise })
  else disposeBurst ⟨d, if b.hits ≤ 9 then .short else .long⟩ b.echo s

/-! ## The classifier -/

/-- R130: a hit window overlapped a burst that the writer put on the track at the detector's frequency. -/
def echoNow (d : Detector) (r : RawResult) (c : Cue) : Bool :=
  (match c.writer with
    | some w => w.symbol.detector == d && decide (w.start < r.stop)
    | none => false) ||
  (match c.units[d].lastWritten with
    | some t => decide (r.start < t)
    | none => false)

/-- Sets the classifier of a detector. -/
def setClassifier (d : Detector) (k : Classifier) (s : State) : State :=
  s.onCue (Cue.changeUnit d fun u => { u with classifier := k })

/-- R126, R128: a settled HIT. -/
def settledHit (d : Detector) (r : RawResult) (s : State) : State :=
  let echo := echoNow d r s.cue
  match s.cue.units[d].classifier with
  | .quiet => setClassifier d (.burst ⟨1, 0, r.start, r.stop, echo⟩) s
  | .burst b =>
    let b : Burst := ⟨b.hits + 1, 0, b.start, r.stop, b.echo || echo⟩
    if 31 ≤ b.hits then tellPresent .cueStuck (some (.detector d)) (setClassifier d (.stuck b) s)
    else setClassifier d (.burst b) s
  | .stuck b => setClassifier d (.stuck { b with misses := 0 }) s

/-- R126, R128: a settled MISS (DEDUCED, log entry 19). -/
def settledMiss (d : Detector) (s : State) : State :=
  match s.cue.units[d].classifier with
  | .quiet => s
  | .burst b =>
    if b.misses = 0 then setClassifier d (.burst { b with misses := 1 }) s
    else burstEnds d b (setClassifier d .quiet s)
  | .stuck b =>
    if b.misses = 0 then setClassifier d (.stuck { b with misses := 1 }) s
    else tellGone .cueStuck (setClassifier d .quiet s)

/-! ## Settlement -/

/-- The other two detectors. -/
def otherDetectors (d : Detector) : List Detector := detectors.filter (· ≠ d)

/-- R125: nothing is left to wait for: every other detector's running window began at or after the end of this one. -/
def Cue.ready (c : Cue) (d : Detector) (r : RawResult) : Bool :=
  !r.hit || (otherDetectors d).all fun e =>
    match c.units[e].window with
    | some w => decide (r.stop ≤ w.start)
    | none => true

/-- R125: two windows overlap. -/
def overlaps (a b : RawResult) : Bool := decide (a.start < b.stop) && decide (b.start < a.stop)

/-- R125: some window of another detector that overlaps this one ended as a raw HIT. -/
def Cue.crosstalk (c : Cue) (d : Detector) (r : RawResult) : Bool :=
  (otherDetectors d).any fun e => c.units[e].hitWindows.any (overlaps r)

/-- R125: a result settles. -/
def settleResult (d : Detector) (s : State) (r : RawResult) : State :=
  if !r.hit then settledMiss d s
  else if s.cue.crosstalk d r then
    settledMiss d (s.onCue (Cue.tally fun c => { c with crosstalk := wrapInc c.crosstalk }))
  else settledHit d r s

/-- The earliest instant at which an unsettled or a running window of a detector began. -/
def DetectorUnit.horizon (now : Nat) (u : DetectorUnit) : Nat :=
  match u.awaiting, u.window with
  | r :: _, _ => r.start
  | [], some w => w.start
  | [], none => now

/-- The raw-HIT windows that nothing unsettled or running can overlap any more are forgotten (DEDUCED, log entry 19). -/
def Cue.forget (now : Nat) (c : Cue) : Cue :=
  let horizon := min (c.units[0].horizon now) (min (c.units[1].horizon now) (c.units[2].horizon now))
  { c with units := c.units.map fun u => { u with hitWindows := u.hitWindows.filter fun w => decide (horizon < w.stop) } }

/-- R123: the window of a detector ends, with its raw result, and the next begins at the same instant. -/
def DetectorUnit.endWindow (w : Window) (u : DetectorUnit) : DetectorUnit :=
  let r : RawResult := ⟨decide (w.low ≤ w.count) && decide (w.count ≤ w.high), w.start, w.start + w.len⟩
  (DetectorUnit.begin r.stop { u with
    awaiting := u.awaiting ++ [r]
    hitWindows := if r.hit then u.hitWindows ++ [r] else u.hitWindows })

/-- R125: the result that settles next: of the detectors whose oldest result can settle, the first (DESIGN CHOICE, log
entry 33), with that result. -/
def Cue.nextSettled (c : Cue) : Option (Detector × RawResult) :=
  detectors.findSome? fun d =>
    match c.units[d].awaiting with
    | r :: _ => if c.ready d r then some (d, r) else none
    | [] => none

/-- R125, R190: one result settles, and the burst that it may end is judged with all that follows in the other blocks, before
the next settles. When none can settle, the raw HIT windows that are no longer needed are forgotten. -/
def settleNext (s : State) : State :=
  match s.cue.nextSettled with
  | some (d, r) =>
    let s := s.onCue (Cue.changeUnit d fun u => { u with awaiting := u.awaiting.drop 1 })
    (settleResult d s r).emit .settle
  | none => s.onCue (Cue.forget s.now)

/-- R18, R136: the time of a burst. -/
def burstTime : LengthClass → Nat
  | .short => Config.writtenShort
  | .long => Config.writtenLong

/-- R136: a burst in progress at an instant, with the time remaining that its start leaves it. -/
def Writing.runTo (now : Nat) (w : Writing) : Writing :=
  { w with remaining := burstTime w.symbol.length - (now - w.start) / 4 }

/-- The model's clock moves up to an instant, and a burst being written runs with it (DESIGN CHOICE, log entry 4). -/
def reachInstant (time : Nat) (s : State) : State :=
  let now := max s.now time
  { s.onCue fun c => { c with writer := c.writer.map (Writing.runTo now) } with now := now }

/-- R123, R125: the window of a detector ends (DESIGN CHOICE, log entry 4). -/
def windowEnds (d : Detector) (s : State) : State :=
  match s.cue.units[d].window with
  | none => s
  | some w =>
    let s := reachInstant (w.start + w.len) s
    (s.onCue (Cue.changeUnit d (DetectorUnit.endWindow w))).emit .settle

/-! ## The end of detection -/

/-- R128, R129: a classifier still in BURST or STUCK ends (DEDUCED, log entry 19). -/
def closeClassifier (s : State) (d : Detector) : State :=
  match s.cue.units[d].classifier with
  | .quiet => s
  | .burst b => burstEnds d b (setClassifier d .quiet s)
  | .stuck _ => tellGone .cueStuck (setClassifier d .quiet s)

/-- R129: detection stops: the windows in progress are abandoned, then the held results settle, then the classifiers end, in
the order of the detectors (DESIGN CHOICE, log entry 33). -/
def stopDetection (s : State) : State :=
  let s := s.onCue fun c =>
    { c with detecting := false, units := c.units.map fun u => { u with window := none, hopLong := false } }
  detectors.foldl (fun s d => s.emit (.closeBurst d)) (s.emit .settle)

/-! ## The writer -/

/-- The writer becomes IDLE, and its detector's last written end is an instant. -/
def writerStops (w : Writing) (at_ : Nat) (s : State) : State :=
  s.onCue fun c =>
    Cue.changeUnit w.symbol.detector (fun u => { u with lastWritten := some at_ }) { c with writer := none }

/-- R136: a burst is abandoned. -/
def abandonWrite (s : State) : State :=
  match s.cue.writer with
  | none => s
  | some w =>
    (writerStops w s.now s).report .cue
      [fw "WRITE", fw "ABANDONED", fw (detectorWord w.symbol.detector), fw w.symbol.length.word,
        fi (burstTime w.symbol.length - w.remaining : Nat)]

/-- R136: the time remaining of a burst runs out (DESIGN CHOICE, log entry 4). -/
def writeCompletes (s : State) : State :=
  match s.cue.writer with
  | none => s
  | some w =>
    let s := reachInstant (w.start + 4 * burstTime w.symbol.length) s
    (writerStops w s.now s).report .cue [fw "WRITTEN", fw (detectorWord w.symbol.detector), fw w.symbol.length.word]

/-- R136: an accepted write. -/
def startWrite (y : Symbol) (s : State) : State :=
  let s := s.onCue fun c =>
    { c with
      writer := some ⟨y, c.units[y.detector].set.freq, s.now, burstTime y.length⟩
      counters := { c.counters with writes := wrapInc c.counters.writes } }
  let s := logEntry y none s
  s.report .cue [fw "WRITE", fw (detectorWord y.detector), fw y.length.word, fi s.tape.counter]

/-- R135: the first two checks of a write request. -/
def writeRefusal (s : State) : Option RefusalWord :=
  if s.tape.state ≠ .cueRecord then some .state else if s.cue.writer.isSome then some .busy else none

/-- R135: the first symbol, in map order, of an action and a length class. -/
def Cue.symbolFor (c : Cue) (len : LengthClass) (action : CueAction) : Option Symbol :=
  Symbol.all.find? fun y => y.length == len && c.action y == action

/-- R135: a write request of the keys: its effect, or the reason for which it is ignored. -/
def keyWrite (len : LengthClass) (action : CueAction) (s : State) : State × Option String :=
  let ignored (reason : String) := (s.report .cue [fw "WRITE", fw "IGNORED", fw reason], some reason)
  match writeRefusal s, s.cue.symbolFor len action with
  | some why, _ => ignored why.word
  | none, none => ignored "NOMAP"
  | none, some y => (startWrite y s, none)

/-- R122, R129, R136: the transport tells the cue unit of a change of its state (DEDUCED, log entry 19). -/
def cueSeesTape (old new : TapeState) (s : State) : State :=
  let s := if old.listening = true ∧ new.listening = false ∧ s.cue.detecting = true then stopDetection s else s
  let s := if old = .cueRecord ∧ new ≠ .cueRecord then s.emit .writeEnds else s
  if old.listening = false ∧ new.listening = true ∧ s.cue.detecting = false then startDetection s else s

/-! ## Messages -/

/-- R138: a detector number. -/
def detectorOf (d : Int) : Option Detector :=
  if d = 0 then some 0 else if d = 1 then some 1 else if d = 2 then some 2 else none

/-- R138: the name of an item of TONE. -/
def toneName : ToneItem → String
  | .input _ => "IN" | .freq _ => "FREQ" | .win _ => "WIN" | .tol _ => "TOL" | .hop _ => "HOP"

/-- R138: an item whose keyword stands in its list. -/
def toneAllowed : ToneItem → Bool
  | .input w => w == "CUE" || w == "AUDIO"
  | .hop w => w == "ON" || w == "OFF"
  | .freq _ | .win _ | .tol _ => true

/-- R138: an item sets its setting. -/
def toneApply (g : DetectorSettings) : ToneItem → DetectorSettings
  | .input w => { g with audio := w == "AUDIO" }
  | .freq n => { g with freq := (clamp 200 4000 n).toNat }
  | .win n => { g with win := (clamp 10 50 n).toNat }
  | .tol n => { g with tol := (clamp 5 25 n).toNat }
  | .hop w => { g with hop := w == "ON" }

/-- R138: an item whose value is clamped. -/
def toneClamped : ToneItem → Bool
  | .freq n => outside 200 4000 n
  | .win n => outside 10 50 n
  | .tol n => outside 5 25 n
  | .input _ | .hop _ => false

/-- R138: the mark of a named field. -/
def markOf (items : List ToneItem) (name : String) : Bool := items.any fun i => toneName i == name && toneClamped i

/-- R138: a band as TONE gives it. -/
def bandParts (g : DetectorSettings) (long : Bool) : List Atom :=
  let e := expectedCount g.freq g.win long
  [.num (lowBand e g.tol), .num (highBand e g.tol)]

/-- R138: the fields of TONE. -/
def toneFields (g : DetectorSettings) (items : List ToneItem) : List Field :=
  [kw "IN" (if g.audio then "AUDIO" else "CUE"),
    { ki "FREQ" g.freq with clamped := markOf items "FREQ" }, { ki "WIN" g.win with clamped := markOf items "WIN" },
    { ki "TOL" g.tol with clamped := markOf items "TOL" }, kw "HOP" (onOff g.hop), kv "BAND" (bandParts g false)] ++
    (if g.hop then [kv "LONGBAND" (bandParts g true)] else [])

/-- R124: TONE sets the settings of a detector; a change of hop makes the next window a SET one. -/
def DetectorUnit.retune (items : List ToneItem) (u : DetectorUnit) : DetectorUnit :=
  let g := items.foldl toneApply u.set
  { u with set := g, hopLong := if g.hop = u.set.hop then u.hopLong else false }

/-- R138: TONE. -/
def doTone (d : Int) (items : List ToneItem) (s : State) : State × Reply :=
  if !(items.map toneName).Nodup then refuse .syntaxErr "TONE" s
  else
    match detectorOf d with
    | none => refuse .range "TONE" s
    | some k =>
      if !items.all toneAllowed then refuse .range "TONE" s
      else
        let s := s.onCue (Cue.changeUnit k (DetectorUnit.retune items))
        accept "TONE" (fi d :: toneFields s.cue.units[k].set items) s

/-- The reply to CUEMAP. -/
def cuemapReply (d : Detector) (len : LengthClass) (s : State) : State × Reply :=
  accept "CUEMAP" [fi d.val, fw len.word, fw (s.cue.action ⟨d, len⟩).word] s

/-- R139: CUEMAP d,length,action. -/
def doCuemapSet (d : Int) (len : LengthClass) (action : CueAction) (s : State) : State × Reply :=
  match detectorOf d with
  | none => refuse .range "CUEMAP" s
  | some k => cuemapReply k len (s.onCue fun c => { c with map := c.map.set (symbolIndex ⟨k, len⟩) action })

/-- R139: CUEMAP d,length. -/
def doCuemapRead (d : Int) (len : LengthClass) (s : State) : State × Reply :=
  match detectorOf d with
  | none => refuse .range "CUEMAP" s
  | some k => cuemapReply k len s

/-- R140: CUEWRITE. -/
def doCuewrite (d : Int) (len : LengthClass) (s : State) : State × Reply :=
  match detectorOf d with
  | none => refuse .range "CUEWRITE" s
  | some k =>
    match writeRefusal s with
    | some why => refuse why "CUEWRITE" s
    | none => accept "CUEWRITE" [fi d, fw len.word, fi s.cue.nextSeq, fi s.tape.counter] (startWrite ⟨k, len⟩ s)

/-- R141: a log entry. -/
def logParts (e : LogEntry) : List Atom :=
  [.num e.seq, .word (if e.disposition.isSome then "READ" else "WRITE"), .word (detectorWord e.symbol.detector),
    .word e.symbol.length.word, .word e.action.word, wordOrNone (e.disposition.map Disposition.word), .num e.count]

/-- R141: the entries before the one with a number, if there is one. -/
def entriesBefore (log : List LogEntry) (before : Option Int) : Option (List LogEntry) :=
  match before with
  | none => some log
  | some b =>
    if log.any (fun e => (e.seq : Int) == b) then some (log.takeWhile fun e => (e.seq : Int) != b) else none

/-- R141: CUELOG (DEDUCED, log entry 19). -/
def doCuelog (n : Option Int) (before : Option Int) (s : State) : State × Reply :=
  match entriesBefore s.cue.log before with
  | none => refuse .range "CUELOG" s
  | some es =>
    let k := (clamp 1 4 (n.getD 4)).toNat
    let es := es.drop (es.length - k)
    accept "CUELOG" (fi es.length :: es.map fun e => { parts := logParts e }) s

/-- R141: CUELOG COUNTS. -/
def doCuelogCounts (s : State) : State × Reply :=
  let c := s.cue.counters
  accept "CUELOG COUNTS"
    [ki "ACTED" c.acted, ki "QUEUED" c.queued, ki "FULL" c.full, ki "NOTED" c.noted, ki "DROPPED" c.dropped,
      ki "ECHO" c.echo, ki "NOISE" c.noise, ki "CROSSTALK" c.crosstalk, ki "WRITES" c.writes,
      ki "NEXTSEQ" s.cue.nextSeq] s

end Sys2Proof.Machine
end

