-- ==== Sys2Proof/Machine/Engine.lean ====
section
/-! DEFINITION. The show engine (chapter 08): the show states, the entry of a step and its phases, holding and resuming, the
taking of triggers (R191), the step list and the messages. -/

namespace Sys2Proof.Machine

/-! ## Words -/

/-- R164: the show states. -/
def ShowState.word : ShowState → String
  | .empty => "EMPTY" | .ready => "READY" | .running => "RUNNING" | .held => "HELD" | .ended => "ENDED"

/-- The hold causes in the order of the state table. -/
def Cause.all : List Cause :=
  [.request, .jam, .slideStuck, .noZero, .trayOut, .lampOpen, .lampShort, .shiftFail, .heatTrip, .supplyLow]

/-- R164: the hold causes. -/
def Cause.word : Cause → String
  | .request => "REQUEST" | .jam => "JAM" | .slideStuck => "SLIDE_STUCK" | .noZero => "NO_ZERO"
  | .trayOut => "TRAY_OUT" | .lampOpen => "LAMP_OPEN" | .lampShort => "LAMP_SHORT" | .shiftFail => "SHIFT_FAIL"
  | .heatTrip => "HEAT_TRIP" | .supplyLow => "SUPPLY_LOW"

/-- R170: the entry reasons. -/
def EntryReason.word : EntryReason → String
  | .run => "RUN" | .next => "NEXT" | .back => "BACK" | .jump => "JUMP"

/-- R185: the phases. -/
def StepPhase.word : StepPhase → String
  | .fadingOut => "FADING_OUT" | .changing => "CHANGING" | .fadingIn => "FADING_IN" | .settled => "SETTLED"

/-- R185: what is deferred. -/
def Deferred.word : Deferred → String
  | .none => "NONE" | .goto => "GOTO" | .fadeIn => "FADE_IN"

/-! ## The execution record -/

/-- Changes the execution record, if there is one. -/
def Engine.onExec (f : Execution → Execution) (e : Engine) : Engine := { e with execution := e.execution.map f }

/-- Changes the execution record of the engine. -/
def State.onExec (f : Execution → Execution) (s : State) : State := s.onEngine (Engine.onExec f)

/-- R161: the step of a number. -/
def Engine.stepAt (e : Engine) (n : Nat) : Option Step := if n = 0 then none else e.steps[n - 1]?

/-- Changes the step of a number. -/
def Engine.changeStep (n : Nat) (f : Step → Step) (e : Engine) : Engine :=
  { e with steps := e.steps.modify (n - 1) f }

/-- The step in progress, with the defaults of a step where the list has none. -/
def Engine.present (e : Engine) (x : Execution) : Step := (e.stepAt x.step).getD Step.default

/-! ## Requests to other blocks -/

/-- R173 to R175: a lamp ramp of the step; it is awaited. -/
def sendRamp (level duration : Nat) (s : State) : State :=
  rampRequest level duration .show (s.onExec fun x => { x with rampAwaited := true })

/-- R171: a fade of the step, 0 while the catch-up flag is set. -/
def fadeTime (x : Execution) (ms : Nat) : Nat := if x.catchUp then 0 else ms

/-- R173 to R175: the ramp to the show level over the fade-in time. -/
def sendFadeIn (x : Execution) (s : State) : State :=
  sendRamp s.engine.level (fadeTime x (s.engine.present x).fadeIn) s

/-- R170, R173, R174: the change to the absolute target; a refusal is handed back (DEDUCED, log entry 20). -/
def sendChange (x : Execution) (s : State) : State :=
  match x.target with
  | none => s
  | some slot =>
    let s := s.onExec fun x => { x with changeAwaited := true }
    match changerRequest ⟨slot, .show, false, x.catchUp⟩ s with
    | (s, none) => s
    | (s, some why) => s.emit (.changeRefused why slot)

/-- R172: the report of a tape action that did not arrive. -/
def reportTape (n : Nat) (word : String) (s : State) : State := s.report .show [fw "TAPE", fi n, fw word]

/-- R172: the RESTART locate: it is sent, or its refusal sets the tape. -/
def sendRestart (n : Nat) (s : State) : State :=
  match locateRequest 0 true .show (s.onExec fun x => { x with tape := .locating }) with
  | (s, true) => s
  | (s, false) =>
    if s.supplyLow then reportTape n "SUPPLY" (s.onExec fun x => { x with tape := .owed })
    else reportTape n "REFUSED" (s.onExec fun x => { x with tape := .ready })

/-- R172: a transport command of a step. -/
def sendTape (n : Nat) (c : TapeCommand) (s : State) : State :=
  match tapeCommand c s with
  | (s, true) => s
  | (s, false) => reportTape n "REFUSED" s

/-- R172: the sound and the tape action of a step. -/
def sendSoundAndTape (n : Nat) (st : Step) (s : State) : State :=
  let s :=
    match st.sound with
    | some (volume, fade) => volRequest volume fade .show s
    | none => s
  match st.tape with
  | none => s
  | some .play => sendTape n .play s
  | some .pause => sendTape n .pause s
  | some .stop => sendTape n .stop s
  | some .restart => sendRestart n s

/-! ## Entering a step -/

/-- R170: the absolute target of a step. -/
def stepTarget (st : Step) (reason : EntryReason) (c : Changer) : Option Nat :=
  match st.slide with
  | none => none
  | some (.slot n) => some n
  | some (.offset k) =>
    match reason, st.reached with
    | .back, some n => some n
    | _, _ => some (c.relative k)

/-- R173, R174, R175: the first phase of a step and its requests. -/
def startPhase (st : Step) (x : Execution) (s : State) : State :=
  match x.target, st.style with
  | none, _ => sendFadeIn x (s.onExec fun x => { x with phase := .fadingIn })
  | some _, .fade => sendRamp 0 (fadeTime x st.fadeOut) (s.onExec fun x => { x with phase := .fadingOut })
  | some _, .cut => sendFadeIn x (sendChange x (s.onExec fun x => { x with phase := .changing }))

/-- R170, R172: a step is entered; `word` is the reason as the report gives it. -/
def enterStep (n : Nat) (reason : EntryReason) (word : String) (s : State) : State :=
  let st := (s.engine.stepAt n).getD Step.default
  let catchUp := reason != .run && decide (s.triggers.catchUp ≤ s.triggers.nextCount)
  let x : Execution :=
    { step := n, reason := reason, target := stepTarget st reason s.changer, phase := .changing, rampAwaited := false,
      changeAwaited := false, tape := .none, deferred := .none, catchUp := catchUp, dwell := none, dwellRuns := false }
  let s := s.onEngine fun e => { e with execution := some x, level := st.level.getD e.level }
  let s := s.report .show ([fw "STEP", fi n, fw word, { parts := [numOrNone (x.target.map Int.ofNat)] }] ++
    (if catchUp then [fw "CATCHUP"] else []))
  startPhase st x (sendSoundAndTape n st s)

/-! ## Settling -/

/-- R161, R177: the dwell of an advance, in milliseconds. -/
def Advance.dwellMs : Advance → Option Nat
  | .dwell t | .cueOrDwell t => some (t * 100)
  | .cue | .key | .line => none

/-- R177: nothing holds the step back from settling. -/
def Execution.canSettle (x : Execution) : Bool :=
  !x.rampAwaited && !x.changeAwaited && (x.tape == .none || x.tape == .ready) && x.deferred == .none &&
    (x.phase == .changing || x.phase == .fadingIn)

/-- R177, R179: the step settles when nothing is awaited; the trigger queue is told. -/
def trySettle (s : State) : State :=
  match s.engine.execution with
  | none => s
  | some x =>
    if !x.canSettle then s
    else
      let dwell := (s.engine.present x).advance.dwellMs
      let running := s.engine.state == .running
      let s := s.onExec fun x =>
        { x with phase := .settled, dwell := dwell, dwellRuns := dwell.isSome && running }
      (s.report .show [fw "SETTLED", fi x.step]).emit .offerHead

/-! ## Show states -/

/-- R164: the show state changes, with its report; the trigger queue is told. -/
def setShow (new : ShowState) (s : State) : State :=
  let s := s.onEngine fun e => { e with state := new }
  let fields := if new = .held then [{ parts := s.engine.causes.map fun c => Atom.word c.word }] else []
  queueSeesShow new (s.report .show (fw new.word :: fields))

/-- R178: the report of the causes while HELD. -/
def reportHeld (s : State) : State :=
  s.report .show [fw "HELD", { parts := s.engine.causes.map fun c => Atom.word c.word }]

/-- R178: the show becomes HELD. -/
def becomeHeld (s : State) : State :=
  (showHolds (setShow .held s)).onExec fun x => { x with dwellRuns := false }

/-- R180: the changer holds a SHOW target at the step's absolute target. -/
def Changer.holds (c : Changer) (slot : Nat) : Bool :=
  let is (t : Option Target) : Bool := (t.map fun t => t.origin == .show && t.slot == slot).getD false
  is c.inFlight || is c.pendingTarget

/-- R180, steps 2 and 3: the deferred request is sent, or a change that the changer no longer holds is sent again
(DEDUCED, log entry 20). -/
def sendDeferred (s : State) : State :=
  match s.engine.execution with
  | none => s
  | some x =>
    match x.deferred with
    | .goto => sendChange x (s.onExec fun x => { x with deferred := .none, phase := .changing })
    | .fadeIn => sendFadeIn x (s.onExec fun x => { x with deferred := .none, phase := .fadingIn })
    | .none =>
      match x.target with
      | some slot => if x.changeAwaited && !s.changer.holds slot then sendChange x s else s
      | none => s

/-- R172, R177, R180 step 4: an OWED locate is sent again. Where it is refused for good the tape is READY, and a step that
awaits nothing else settles. -/
def sendOwed (s : State) : State :=
  match s.engine.execution with
  | some x => if x.tape = .owed then trySettle (sendRestart x.step s) else s
  | none => s

/-- R180: the show resumes. -/
def resumeShow (s : State) : State :=
  let s := setShow .running s
  let s := showReleases (tapeSeesRunning s)
  let s := sendOwed (sendDeferred s)
  let s := s.onExec fun x => { x with dwellRuns := x.phase == .settled && x.dwell.isSome }
  s.emit .offerHead

/-- R178: a set of causes in the order of the state table. -/
def inOrder (cs : List Cause) : List Cause := Cause.all.filter (· ∈ cs)

/-- R178: the hold-cause set becomes another one: HELD, RUNNING again, or the causes reported anew. -/
def setCauses (cs : List Cause) (s : State) : State :=
  let cs := inOrder cs
  if cs = s.engine.causes then s
  else
    let s := s.onEngine fun e => { e with causes := cs }
    match s.engine.state with
    | .running => if cs = [] then s else becomeHeld s
    | .held => if cs = [] then resumeShow s else reportHeld s
    | .empty | .ready | .ended => s

/-- R178: REQUEST enters the set. -/
def addRequest (s : State) : State := setCauses (.request :: s.engine.causes) s

/-- R178: a latch, or SUPPLY_LOW, enters the set. -/
def causeEnters (kind : FaultKind) (byItself : Bool) (s : State) : State :=
  match causeOf kind with
  | none => s
  | some c => setCauses ((if s.showBusy && !byItself then [Cause.request] else []) ++ c :: s.engine.causes) s

/-- R178: a latch, or SUPPLY_LOW, leaves the set. -/
def causeLeaves (kind : FaultKind) (s : State) : State :=
  match causeOf kind with
  | none => s
  | some c => setCauses (s.engine.causes.filter (· ≠ c)) s

/-- R166, R168: the transport STOP and the end ramps. -/
def sendEnd (s : State) : State :=
  let s := (tapeCommand .stop s).1
  let s := rampRequest 0 Config.endRamp .show s
  volRequest 0 Config.endRamp .show s

/-- R165: a RUN of the line or of the SHOW key. The answer is false when it is refused with STATE. -/
def runShow (s : State) : State × Bool :=
  match s.engine.state with
  | .empty | .running | .held => (s, false)
  | .ready | .ended =>
    if s.engine.causes ≠ [] then (s, false)
    else
      let s := s.onEngine fun e =>
        { e with steps := e.steps.map fun st => { st with reached := none }, level := 1000 }
      (enterStep 1 .run "RUN" (tapeSeesRunning (setShow .running s)), true)

/-- R166: a STOP of the line or of the STOP key. REQUEST leaves the set in HELD without another *SHOW HELD,causes, whatever
causes are left: the report of the state that follows is *SHOW READY (DESIGN CHOICE, log entry 44). -/
def stopShow (s : State) : State × Bool :=
  if !s.showBusy then (s, false)
  else
    let held := s.engine.state == .held
    let s := s.onEngine fun e => { e with causes := e.causes.filter (· ≠ .request) }
    let s := if held then showReleases s else s
    let s := s.onEngine fun e => { e with execution := none }
    (sendEnd (setShow .ready s), true)

/-- R169: a HOLD of the line or of the SHOW key. -/
def holdShow (s : State) : State × Bool := if s.showBusy then (addRequest s, true) else (s, false)

/-- R169: a RESUME of the line or of the SHOW key. -/
def resumeRequest (s : State) : State × Bool :=
  if s.engine.state = .held ∧ (s.engine.causes.all fun c => c == .request || c == .supplyLow) = true then
    (setCauses (s.engine.causes.filter (· ≠ .request)) s, true)
  else (s, false)

/-- R168: the show ends. -/
def endShow (s : State) : State :=
  sendEnd (setShow .ended (s.onEngine fun e => { e with execution := none }))

/-! ## Completions -/

/-- R173, R179: the completion event of a lamp ramp. -/
def engineSeesRamp (origin : Option RampOrigin) (s : State) : State :=
  match s.engine.execution with
  | none => s
  | some x =>
    if origin ≠ some .show ∨ x.rampAwaited = false then s
    else
      let s := s.onExec fun x => { x with rampAwaited := false }
      if x.phase = .fadingOut then
        if s.engine.state = .held then s.onExec fun x => { x with deferred := .goto }
        else sendChange x (s.onExec fun x => { x with phase := .changing })
      else trySettle s

/-- R173, R174, R179: the change of the step is done; the step goes on by its style. A CUT step whose ramp is done and whose
tape is not keeps the phase CHANGING until it settles (DESIGN CHOICE, log entry 41). -/
def changeIsDone (x : Execution) (s : State) : State :=
  let s := s.onExec fun x => { x with changeAwaited := false }
  match (s.engine.present x).style with
  | .fade =>
    if s.engine.state = .held then s.onExec fun x => { x with deferred := .fadeIn }
    else sendFadeIn x (s.onExec fun x => { x with phase := .fadingIn })
  | .cut => if x.rampAwaited then s.onExec fun x => { x with phase := .fadingIn } else trySettle s

/-- R176: the completion event of a change. -/
def engineSeesChange (slot : Nat) (origin : Origin) (s : State) : State :=
  match s.engine.execution with
  | none => s
  | some x =>
    if x.changeAwaited ∧ origin = .show ∧ x.target = some slot then
      changeIsDone x (s.onEngine (Engine.changeStep x.step fun st => { st with reached := some slot }))
    else s

/-- R176: a change refused by the changer or handed back with the tray (DEDUCED, log entry 20). -/
def engineSeesRefusal (why : RefusalWord) (slot : Nat) (s : State) : State :=
  match s.engine.execution with
  | none => s
  | some x =>
    if x.changeAwaited ∧ x.target = some slot then
      let s := s.report .show [fw "CHANGE", fi x.step, fw "REFUSED", fw why.word]
      if why = .range then changeIsDone x s else addRequest s
    else s

/-- R172: the completion event of a locate of origin SHOW. -/
def engineSeesLocate (outcome : LocateOutcome) (s : State) : State :=
  match s.engine.execution with
  | none => s
  | some x =>
    if x.tape ≠ .locating then s
    else
      let tape (t : TapeWait) := s.onExec fun x => { x with tape := t }
      match outcome with
      | .arrived => trySettle (tape .ready)
      | .supply => reportTape x.step outcome.word (tape .owed)
      | .command | .endOfTape | .out => trySettle (reportTape x.step outcome.word (tape .ready))

/-- R177: the dwell timer runs out: an arrival of kind NEXT, source DWELL (DESIGN CHOICE, log entry 4). -/
def dwellEnds (s : State) : State :=
  match s.engine.execution with
  | none => s
  | some x =>
    if x.dwell.isNone ∨ x.dwellRuns = false then s
    else
      match judge .dwell (s.onExec fun x => { x with dwell := none, dwellRuns := false }) with
      | (s, .act, _) => (enterRecord .dwell .next none s).1
      | (s, _, _) => s

/-! ## Taking a trigger -/

/-- R192: an advance accepts a NEXT of a source. -/
def Advance.accepts (a : Advance) (source : Source) : Bool :=
  match source, a with
  | .line, _ => true
  | .cue, .cue | .cue, .cueOrDwell _ => true
  | .remote, .key | .wired, .key => true
  | .dwell, .dwell _ | .dwell, .cueOrDwell _ => true
  | _, _ => false

/-- R191: the judgement of a record taken at a step. -/
def triggerUsed (x : Execution) (st : Step) (r : Trigger) : Bool :=
  match r.kind with
  | .next => st.advance.accepts r.source
  | .back => decide (1 < x.step)
  | .jump _ => true

/-- R167, R168: a trigger handed over enters a step, or ends the show. -/
def useTrigger (x : Execution) (r : Trigger) (s : State) : State :=
  match r.kind with
  | .next =>
    if x.step < s.engine.steps.length then enterStep (x.step + 1) .next "NEXT" s
    else if s.engine.loop then enterStep 1 .next "LOOP" s
    else endShow s
  | .back => enterStep (x.step - 1) .back "BACK" s
  | .jump n => enterStep n .jump "JUMP" s

/-- R191: the report of a record taken. -/
def reportTrigger (word : String) (r : Trigger) (s : State) : State :=
  s.report .show [fw "TRIG", fw word, fi r.seq, fw r.source.word, fw r.kind.word]

/-- R191: the head record is handed over while the show is RUNNING with its step SETTLED, and unused records are
discarded, at most `fuel` of them. -/
def takeTriggers : Nat → State → State
  | 0, s => s
  | fuel + 1, s =>
    match s.engine.execution, s.triggers.queue with
    | some x, r :: rest =>
      if s.engine.state = .running ∧ x.phase = .settled then
        let s := s.onTriggers fun t =>
          { t with queue := rest, counters := { t.counters with taken := wrapInc t.counters.taken } }
        if triggerUsed x (s.engine.present x) r then useTrigger x r (reviewHold (reportTrigger "TAKEN" r s))
        else
          let s := s.onTriggers (Triggers.tally fun c => { c with unused := wrapInc c.unused })
          takeTriggers fuel (reviewHold (reportTrigger "UNUSED" r s))
      else s
    | _, _ => s

/-- R191: an event at which the head record may be handed over. -/
def offerHead (s : State) : State := takeTriggers s.triggers.count s

/-! ## The step list -/

/-- R163: the show state follows an edit. -/
def afterEdit (s : State) : State :=
  match s.engine.state, s.engine.steps with
  | .empty, _ :: _ => setShow .ready s
  | .ready, [] | .ended, [] => setShow .empty s
  | _, _ => s

/-- R182: the name of a field of STEPDEF. -/
def fieldName : StepField → String
  | .slot _ | .offset _ | .slideWord _ => "SL"
  | .style _ => "ST"
  | .fades _ _ => "FD"
  | .level _ | .levelWord _ => "LV"
  | .sound _ _ | .soundWord _ => "SN"
  | .tape _ => "TP"
  | .advance _ _ => "AD"
  | .unknown name => name

/-- R182: an absolute slot outside 0 to 139. -/
def slotOutside : StepField → Bool
  | .slot n => outside 0 Config.maxStepSlot n
  | _ => false

/-- R182: a field whose name is not in the list. -/
def fieldUnknown : StepField → Bool
  | .unknown _ => true
  | _ => false

/-- R182: DWELL or CUE_OR_DWELL without a time, or CUE, KEY or LINE with one. -/
def advanceMalformed : StepField → Bool
  | .advance w t =>
    if w = "DWELL" ∨ w = "CUE_OR_DWELL" then t.isNone
    else if w = "CUE" ∨ w = "KEY" ∨ w = "LINE" then t.isSome
    else false
  | _ => false

/-- R182: a keyword outside its field's list. -/
def keywordOutside : StepField → Bool
  | .slideWord w | .levelWord w | .soundWord w => w != "NONE"
  | .style w => w != "CUT" && w != "FADE"
  | .tape w => !(["PLAY", "PAUSE", "STOP", "RESTART", "NONE"].contains w)
  | .advance w _ => !(["CUE", "KEY", "LINE", "DWELL", "CUE_OR_DWELL"].contains w)
  | .slot _ | .offset _ | .fades _ _ | .level _ | .sound _ _ | .unknown _ => false

/-- R182: the refusal of a STEPDEF, if there is one, by the first check that fails (DEDUCED, log entry 21). -/
def stepdefRefusal (n : Int) (keep : Bool) (fields : List StepField) (s : State) : Option RefusalWord :=
  let count : Int := s.engine.steps.length
  if s.showBusy && (decide (n ≤ count) || keep) then some .state
  else if outside 1 (count + 1) n || (keep && n == count + 1) || fields.any slotOutside then some .range
  else if n == count + 1 && decide ((Config.maxSteps : Int) ≤ count) then some .full
  else if fields.any fieldUnknown then some .unknown
  else if !(fields.map fieldName).Nodup || fields.any advanceMalformed then some .syntaxErr
  else if fields.any keywordOutside then some .range
  else none

/-- R182: a time as stored. -/
def stepTime (n : Int) : Nat := tenMs (clamp 0 9900 n).toNat

/-- R182: an advance as stored. -/
def advanceOf (w : String) (tenths : Option Nat) : Advance :=
  let t := (clamp 1 9999 (tenths.getD 0)).toNat
  if w = "KEY" then .key else if w = "LINE" then .line else if w = "DWELL" then .dwell t
  else if w = "CUE_OR_DWELL" then .cueOrDwell t else .cue

/-- R182: a tape action as stored. -/
def stepTapeOf (w : String) : Option StepTape :=
  if w = "PLAY" then some .play else if w = "PAUSE" then some .pause else if w = "STOP" then some .stop
  else if w = "RESTART" then some .restart else none

/-- R182: a named field takes its value. -/
def applyField (st : Step) : StepField → Step
  | .slot n => { st with slide := some (.slot n.toNat) }
  | .offset k => { st with slide := some (.offset (clamp (-9) 9 k)) }
  | .slideWord _ => { st with slide := none }
  | .style w => { st with style := if w = "CUT" then .cut else .fade }
  | .fades out into => { st with fadeOut := stepTime out, fadeIn := stepTime into }
  | .level n => { st with level := some (clamp 0 1000 n).toNat }
  | .levelWord _ => { st with level := none }
  | .sound v f => { st with sound := some ((clamp 0 255 v).toNat, stepTime f) }
  | .soundWord _ => { st with sound := none }
  | .tape w => { st with tape := stepTapeOf w }
  | .advance w t => { st with advance := advanceOf w t }
  | .unknown _ => st

/-- R182: a field with a clamped part. -/
def fieldClamped : StepField → Bool
  | .offset k => outside (-9) 9 k
  | .fades out into => outside 0 9900 out || outside 0 9900 into
  | .level n => outside 0 1000 n
  | .sound v f => outside 0 255 v || outside 0 9900 f
  | .advance _ (some t) => outside 1 9999 t
  | .slot _ | .slideWord _ | .style _ | .levelWord _ | .soundWord _ | .tape _ | .advance _ none | .unknown _ => false

/-- R184: the advance as given. -/
def advanceParts : Advance → List Atom
  | .cue => [.word "CUE"] | .key => [.word "KEY"] | .line => [.word "LINE"]
  | .dwell t => [.word "DWELL", .tenths t] | .cueOrDwell t => [.word "CUE_OR_DWELL", .tenths t]

/-- R184: the tape action as given. -/
def StepTape.word : StepTape → String
  | .play => "PLAY" | .pause => "PAUSE" | .stop => "STOP" | .restart => "RESTART"

/-- R184: the style as given. -/
def Style.word : Style → String
  | .cut => "CUT" | .fade => "FADE"

/-- R184: the slide as given. -/
def slideAtom : Option SlideField → Atom
  | none => .word "NONE"
  | some (.slot n) => .num n
  | some (.offset k) => .signed k

/-- R184: the sound as given. -/
def soundParts : Option (Nat × Nat) → List Atom
  | none => [.word "NONE"]
  | some (v, f) => [.num v, .num f]

/-- R182, R184: the fields of a step, `marked` naming the clamped ones. -/
def stepFields (st : Step) (marked : String → Bool) : List Field :=
  let f (name : String) (parts : List Atom) : Field := { kv name parts with clamped := marked name }
  [f "SL" [slideAtom st.slide], f "ST" [.word st.style.word], f "FD" [.num st.fadeOut, .num st.fadeIn],
    f "LV" [numOrNone (st.level.map Int.ofNat)], f "SN" (soundParts st.sound),
    f "TP" [wordOrNone (st.tape.map StepTape.word)], f "AD" (advanceParts st.advance),
    kv "REACHED" [numOrNone (st.reached.map Int.ofNat)]]

/-- R163: the list with a step put at a place: replaced, or appended at the end (DEDUCED, log entry 20). -/
def putStep (n : Nat) (st : Step) (steps : List Step) : List Step :=
  if n = steps.length + 1 then steps ++ [st] else steps.set (n - 1) st

/-- R182: STEPDEF. -/
def doStepdef (n : Int) (keep : Bool) (fields : List StepField) (s : State) : State × Reply :=
  match stepdefRefusal n keep fields s with
  | some why => refuse why "STEPDEF" s
  | none =>
    let base := if keep then (s.engine.stepAt n.toNat).getD Step.default else Step.default
    let st := fields.foldl applyField { base with reached := none }
    let s := afterEdit (s.onEngine fun e => { e with steps := putStep n.toNat st e.steps })
    let marked (name : String) : Bool := fields.any fun f => fieldName f == name && fieldClamped f
    accept "STEPDEF" (fi n :: ki "COUNT" s.engine.steps.length :: stepFields st marked) s

/-- R183: STEPDEL. -/
def doStepdel (n : Int) (s : State) : State × Reply :=
  if s.showBusy then refuse .state "STEPDEL" s
  else if outside 1 s.engine.steps.length n then refuse .range "STEPDEL" s
  else
    let s := afterEdit (s.onEngine fun e => { e with steps := e.steps.take (n.toNat - 1) })
    accept "STEPDEL" [fi n, ki "COUNT" s.engine.steps.length] s

/-- R184: STEPASK. -/
def doStepask (n : Int) (s : State) : State × Reply :=
  if outside 1 s.engine.steps.length n then refuse .range "STEPASK" s
  else
    match s.engine.stepAt n.toNat with
    | none => refuse .range "STEPASK" s
    | some st => accept "STEPASK" (fi n :: stepFields st fun _ => false) s

/-! ## SHOW -/

/-- R185: what the step waits for. -/
def awaitWords (x : Execution) : List String :=
  (if x.rampAwaited then ["RAMP"] else []) ++ (if x.changeAwaited then ["CHANGE"] else []) ++
    (if x.tape = .locating ∨ x.tape = .owed then ["TAPE"] else [])

/-- R185: SHOW STATUS (DEDUCED, log entry 21). -/
def doShowStatus (s : State) : State × Reply :=
  let e := s.engine
  let x := e.execution
  accept "SHOW STATUS"
    [kw "STATE" e.state.word, ki "COUNT" e.steps.length, kv "STEP" [numOrNone (x.map fun x => (x.step : Int))],
      kv "REASON" [wordOrNone (x.map fun x => x.reason.word)], kv "PHASE" [wordOrNone (x.map fun x => x.phase.word)],
      kv "TARGET" [numOrNone (x.bind fun x => x.target.map Int.ofNat)],
      kv "AWAIT" (wordsOrNone ((x.map awaitWords).getD [])),
      kv "DEFERRED" [wordOrNone (x.map fun x => x.deferred.word)],
      kv "CATCHUP" [wordOrNone (x.map fun x => onOff x.catchUp)],
      kv "DWELL" [numOrNone (x.bind fun x => x.dwell.map Int.ofNat)], ki "LEVEL" e.level,
      kv "CAUSES" (wordsOrNone (e.causes.map Cause.word)), kw "LOOP" (onOff e.loop)] s

end Sys2Proof.Machine
end

