-- ==== Sys2Proof/Machine/Keys.lean ====
section
/-! DEFINITION. The key receiver (chapter 07): the infrared frame decoder, the key state, what each key does, digit entry, the
wired keys, the focus motor, and its messages. -/

namespace Sys2Proof.Machine

/-! ## Focus -/

/-- R155: a run ends: the motor stops, and the rest time counts from there when it was driven. -/
def Keys.stopFocus (k : Keys) : Keys :=
  match k.focus with
  | none => k
  | some r => { k with focus := none, focusRest := if r.driving then 0 else k.focusRest }

/-- R155, R156: a run in progress ends with a report. -/
def endFocus (fields : FocusDir → List Field) (s : State) : State :=
  match s.keys.focus with
  | none => s
  | some r => (s.onKeys Keys.stopFocus).report .key (fw "FOCUS" :: fields r.dir)

/-- R155: the report of an end. -/
def endWith (reason : String) (dir : FocusDir) : List Field := [fw "END", fw dir.word, fw reason]

/-- R155: a run with its motor off starts, or waits for the rest time. -/
def Keys.startOrWait (r : FocusRun) (k : Keys) : Keys :=
  if Config.focusRest ≤ k.focusRest then { k with focus := some { r with driving := true, blanking := some 0 } }
  else { k with focus := some { r with driving := false, blanking := none } }

/-- R155: an accepted focus request replaces any run in progress. -/
def Keys.startFocus (dir : FocusDir) (origin : FocusOrigin) (requested : Option Nat) (k : Keys) : Keys :=
  let r : FocusRun := ⟨dir, origin, false, 0, requested, none⟩
  match k.focus with
  | none => k.startOrWait r
  | some old =>
    if !old.driving then k.startOrWait r
    else if old.dir = dir then { k with focus := some { r with driving := true, blanking := old.blanking } }
    else { k with focus := some r, focusRest := 0 }

/-- R156: the end of travel. -/
def focusLimit (s : State) : State := endFocus (fun dir => [fw "LIMIT", fw dir.word]) s

/-- R156: the focus current is judged outside the blanking time of a driven run. -/
def judgeFocus (s : State) : State :=
  match s.keys.focus with
  | none => s
  | some r => if r.driving ∧ r.blanking = none ∧ s.pins.focusOver = true then focusLimit s else s

/-- R156: the focus motor current crosses the limit. -/
def focusCurrentMoves (high : Bool) (s : State) : State := judgeFocus (s.onPins fun p => { p with focusOver := high })

/-- R156: the blanking time ends. -/
def focusBlankingEnds (s : State) : State :=
  match s.keys.focus with
  | none => s
  | some r =>
    if r.blanking.isNone then s else judgeFocus (s.onKeys fun k => { k with focus := some { r with blanking := none } })

/-- R155: the rest time reaches 30 ms: a waiting run starts. -/
def focusRestEnds (s : State) : State :=
  let driving := (s.keys.focus.map FocusRun.driving).getD false
  if driving then s
  else
    s.onKeys fun k =>
      let k := { k with focusRest := Config.focusRest }
      match k.focus with
      | some r => k.startOrWait r
      | none => k

/-- R155: the driven time reaches the requested time or the run limit (DEDUCED, log entry 24). -/
def focusRunEnds (s : State) : State :=
  match s.keys.focus with
  | none => s
  | some r => if !r.driving then s else endFocus (endWith (if r.requested.isSome then "DONE" else "RUNLIMIT")) s

/-- R156: SUPPLY_LOW is raised. -/
def focusSupplyLow (s : State) : State := endFocus (endWith "SUPPLY") s

/-! ## Reports of keys -/

/-- R147: *KEY key,source,outcome. -/
def reportKey (key : Key) (source : Source) (outcome : List Field) (s : State) : State :=
  s.report .key (fw key.word :: fw source.word :: outcome)

/-- R146: a key is ignored, with a reason where its rule names one (DEDUCED, log entry 24). -/
def ignoreKey (key : Key) (source : Source) (reason : Option String) (s : State) : State :=
  let s := s.onKeys fun k => { k with ignored := satInc Config.max16 k.ignored }
  reportKey key source (fw "IGNORED" :: (match reason with | some r => [fw r] | none => [])) s

/-- R147: the outcome of a request that a block took or refused, with the fields that follow it
(DEDUCED, log entry 24). -/
def reportTaken (key : Key) (source : Source) (refusal : Option RefusalWord) (more : List Field) (s : State) : State :=
  match refusal with
  | none => reportKey key source (fw "ACTED" :: more) s
  | some why => reportKey key source (fw "REFUSED" :: fw why.word :: more) s

/-- R147: the outcome of a trigger. -/
def reportQueued (key : Key) (source : Source) (r : State × Bool) (more : List Field) : State :=
  reportKey key source (fw (if r.2 then "QUEUED" else "FULL") :: more) r.1

/-- The origin of a changer request of a key. -/
def originOf : Source → Origin
  | .wired => .wired
  | .line | .remote | .cue | .dwell => .remote

/-! ## What a key does -/

/-- R148: the slide change of FORWARD (+1) and REVERSE (−1). -/
def keyMoves (key : Key) (source : Source) (k : Int) (s : State) : State :=
  match changerRequest ⟨s.changer.relative k, originOf source, false, false⟩ s with
  | (s, refusal) => reportTaken key source refusal [] s

/-- R148: FORWARD and REVERSE on ACT. -/
def slideKey (key : Key) (source : Source) (mode : Mode) (k : Int) (kind : TriggerKind) (action : CueAction)
    (len : LengthClass) (s : State) : State :=
  match mode with
  | .manual => keyMoves key source k s
  | .show | .held => reportQueued key source (enterRecord source kind (some (.keyCode key.code)) s) []
  | .program =>
    match keyWrite len action s with
    | (s, some reason) => ignoreKey key source (some reason) s
    | (s, none) => keyMoves key source k s

/-- R149, R150: the outcome of a show request of a key. -/
def reportShowKey (key : Key) (source : Source) (r : State × Bool) : State :=
  reportTaken key source (if r.2 then none else some .state) [] r.1

/-- R149: the SHOW key on ACT. -/
def showKey (source : Source) (mode : Mode) (s : State) : State :=
  match mode with
  | .manual => reportShowKey .show source (runShow s)
  | .show => reportShowKey .show source (holdShow s)
  | .held => reportShowKey .show source (resumeRequest s)
  | .program => ignoreKey .show source none s

/-- R150: the STOP key on ACT. -/
def stopKey (source : Source) (mode : Mode) (s : State) : State :=
  match mode with
  | .show | .held => reportShowKey .stop source (stopShow s)
  | .manual | .program => ignoreKey .stop source none s

/-- R153: GO on ACT with the number `n` (DEDUCED, log entry 24). -/
def goKey (source : Source) (mode : Mode) (n : Nat) (s : State) : State :=
  match mode with
  | .manual | .program =>
    if s.changer.size ≤ n then ignoreKey .go source (some "RANGE") s
    else
      match changerRequest ⟨n, originOf source, false, false⟩ s with
      | (s, refusal) => reportTaken .go source refusal [fi n] s
  | .show | .held =>
    if outside 1 s.engine.steps.length n then ignoreKey .go source (some "RANGE") s
    else reportQueued .go source (enterRecord source (.jump n) (some (.keyCode Key.go.code)) s) [fi n]

/-- R147: a key passes the permission check; `act` is what it does on ACT. -/
def checkKey (key : Key) (source : Source) (act : Mode → State → State) (s : State) : State :=
  match judge source s with
  | (s, .act, mode) => act mode s
  | (s, .note, _) => reportKey key source [fw "NOTED"] s
  | (s, .drop, _) => reportKey key source [fw "DROPPED"] s

/-- R147, R148: the FORWARD key of a source. -/
def forwardKey (source : Source) (s : State) : State :=
  checkKey .forward source (fun mode s => slideKey .forward source mode 1 .next .next s.keys.progNext s) s

/-- R147, R148: the REVERSE key of a source. -/
def reverseKey (source : Source) (s : State) : State :=
  checkKey .reverse source (fun mode s => slideKey .reverse source mode (-1) .back .back s.keys.progBack s) s

/-! ## Digit entry -/

/-- R152: the digits in the order typed. -/
def digitText (ds : List (Fin 10)) : String := ds.foldl (fun w d => w ++ toString d.val) ""

/-- R153: the entry read as a decimal number. -/
def digitNumber (ds : List (Fin 10)) : Nat := ds.foldl (fun n d => 10 * n + d.val) 0

/-- R152: a digit key. -/
def digitKey (d : Fin 10) (s : State) : State :=
  if s.keys.digits.length < 3 then
    let s := s.onKeys fun k => { k with digits := k.digits ++ [d], entryTimer := 0 }
    s.report .key [fw "DIGITS", fw (digitText s.keys.digits)]
  else ignoreKey (.digit d) .remote (some "FULL") s

/-- R152: the entry timer reaches 4000 ms (DESIGN CHOICE, log entry 4). It stops at 0 (DEDUCED, log entry 47). -/
def digitsExpire (s : State) : State :=
  if s.keys.digits = [] then s
  else (s.onKeys fun k => { k with digits := [], entryTimer := 0 }).report .key [fw "DIGITS", fw "EXPIRED"]

/-- R153: GO commits the digit entry. The entry timer stops at 0 (DEDUCED, log entry 47). -/
def commitDigits (s : State) : State :=
  if s.keys.digits = [] then ignoreKey .go .remote (some "EMPTY") s
  else
    let n := digitNumber s.keys.digits
    let s := s.onKeys fun k => { k with digits := [], entryTimer := 0 }
    checkKey .go .remote (fun mode s => goKey .remote mode n s) s

/-! ## The key state -/

/-- R146, R155: a press of a focus key. -/
def focusKey (key : Key) (dir : FocusDir) (s : State) : State :=
  if s.supplyLow then ignoreKey key .remote (some "SUPPLY") s else s.onKeys (Keys.startFocus dir .key none)

/-- R146: a press acts by its key. -/
def keyActs (key : Key) (s : State) : State :=
  match key with
  | .focusIn => focusKey .focusIn .inward s
  | .focusOut => focusKey .focusOut .outward s
  | .mute => reportKey .mute .remote [fw "ACTED"] (setMute (!s.tape.mute) s)
  | .lamp =>
    if s.mode = .manual then reportKey .lamp .remote [fw "ACTED"] (toggleLamp s) else ignoreKey .lamp .remote none s
  | .digit d => digitKey d s
  | .forward => forwardKey .remote s
  | .reverse => reverseKey .remote s
  | .show => checkKey .show .remote (showKey .remote) s
  | .stop => checkKey .stop .remote (stopKey .remote) s
  | .go => commitDigits s

/-- R145, R155: releasing a focus key ends its own run. -/
def endKeyRun (dir : FocusDir) (s : State) : State :=
  match s.keys.focus with
  | some r => if r.origin = .key ∧ r.dir = dir then endFocus (endWith "RELEASE") s else s
  | none => s

/-- R145: the held key is released. The release timer stands at 0 in IDLE (DESIGN CHOICE, log entry 42). -/
def releaseKey (s : State) : State :=
  match s.keys.held with
  | none => s
  | some key =>
    let s := s.onKeys fun k => { k with held := none, releaseTimer := 0 }
    match key with
    | .focusIn => endKeyRun .inward s
    | .focusOut => endKeyRun .outward s
    | .forward | .reverse | .lamp | .show | .stop | .go | .mute | .digit _ => s

/-- R145: a press of a key. -/
def pressKey (key : Key) (s : State) : State :=
  keyActs key ((releaseKey s).onKeys fun k => { k with held := some key, releaseTimer := 0 })

/-- R145: a repeat. -/
def repeatKey (s : State) : State :=
  s.onKeys fun k => if k.held.isSome then { k with releaseTimer := 0 } else k

/-! ## Infrared frames -/

/-- R142: a duration in microseconds lies in a band, inclusive. -/
def inBand (lo hi us : Nat) : Bool := decide (lo ≤ us) && decide (us ≤ hi)
/-- R142: the leader band. -/
def leaderBand (us : Nat) : Bool := inBand 1800 3000 us
/-- R142: the gap of a data frame. -/
def dataGapBand (us : Nat) : Bool := inBand 900 1500 us
/-- R142: the gap of a repeat frame. -/
def repeatGapBand (us : Nat) : Bool := inBand 450 750 us
/-- R142: a bit mark, a trailing mark, and the space of a 0. -/
def shortBand (us : Nat) : Bool := inBand 375 625 us
/-- R142: the space of a 1. -/
def longBand (us : Nat) : Bool := inBand 1125 1875 us

/-- R17: the number that bits spell, least significant first. -/
def bitsToNat : List Bool → Nat
  | [] => 0
  | b :: bs => (if b then 1 else 0) + 2 * bitsToNat bs

/-- R144: a completed data frame. -/
def dataFrame (w : IrWord) (s : State) : State :=
  let v := w.toNat
  let address := v % 16
  let code := v / 16 % 64
  let check := v / 1024
  if check ≠ (code + 3 * address) % 64 then s.onKeys fun k => { k with invalid := satInc Config.max16 k.invalid }
  else if s.keys.address.isSome ∧ s.keys.address ≠ some address then
    s.onKeys fun k => { k with foreign := satInc Config.max16 k.foreign }
  else
    match Key.ofCode code with
    | none => releaseKey (s.onKeys fun k => { k with unassigned := satInc Config.max16 k.unassigned })
    | some key => pressKey key s

/-- Sets the frame decoder. -/
def setDecoder (d : Decoder) (s : State) : State := s.onKeys fun k => { k with decoder := d }

/-- R143: the frame in progress is invalid; `leader` when the failing duration is a mark in the leader band, which leaves the
decoder in GAP with the kind DATA (DESIGN CHOICE, log entry 43). -/
def frameInvalid (leader : Bool) (s : State) : State :=
  (setDecoder (if leader then ⟨.gap, [], .data, false⟩ else .waiting) s).onKeys fun k =>
    { k with invalid := satInc Config.max16 k.invalid }

/-- R142: the frame in progress is complete. -/
def frameCompletes (d : Decoder) (s : State) : State :=
  let s := setDecoder .waiting s
  match d.kind with
  | .data => dataFrame (BitVec.ofNat 16 (bitsToNat d.bits)) s
  | .repeated => repeatKey s

/-- R142: a bit is added; after the sixteenth the trailing mark is expected. -/
def addBit (d : Decoder) (b : Bool) : Decoder :=
  let bits := d.bits ++ [b]
  if 16 ≤ bits.length then ⟨.trailer, bits, .data, false⟩ else ⟨.bits, bits, .data, true⟩

/-- R142: a mark ends (DESIGN CHOICE, log entry 10). The kind that the decoder holds in GAP, before the space tells it, is DATA
(DESIGN CHOICE, log entry 43). -/
def markEnds (us : Nat) (s : State) : State :=
  let d := s.keys.decoder
  match d.phase with
  | .waiting | .leader => if leaderBand us then setDecoder ⟨.gap, [], .data, false⟩ s else s
  | .gap => frameInvalid (leaderBand us) s
  | .bits =>
    if d.markNext && shortBand us then setDecoder { d with markNext := false } s else frameInvalid (leaderBand us) s
  | .trailer => if shortBand us then frameCompletes d s else frameInvalid (leaderBand us) s

/-- R142: a space ends (DESIGN CHOICE, log entry 10). -/
def spaceEnds (us : Nat) (s : State) : State :=
  let d := s.keys.decoder
  match d.phase with
  | .waiting | .leader => s
  | .gap =>
    if dataGapBand us then setDecoder ⟨.bits, [], .data, true⟩ s
    else if repeatGapBand us then setDecoder ⟨.trailer, [], .repeated, false⟩ s
    else frameInvalid false s
  | .bits =>
    if d.markNext then frameInvalid false s
    else if shortBand us then setDecoder (addBit d false) s
    else if longBand us then setDecoder (addBit d true) s
    else frameInvalid false s
  | .trailer => frameInvalid false s

/-- R143: a space that still runs has lasted `us` (DESIGN CHOICE, log entry 10). -/
def spaceRunsOn (us : Nat) (s : State) : State :=
  match s.keys.decoder.phase with
  | .gap => if 1500 < us then frameInvalid false s else s
  | .bits => if 1875 < us then frameInvalid false s else s
  | .waiting | .leader | .trailer => s

/-- R142, R143: one measured duration. -/
def irDuration (s : State) (g : IrSegment) : State :=
  match g with
  | .mark us => markEnds us s
  | .space us => spaceEnds us s
  | .spaceRuns us => spaceRunsOn us s

/-- R17: the durations of a data frame in their order. -/
def dataSegments (f : IrDataTiming) : List IrSegment :=
  .mark f.leader :: .space f.gap :: (f.bits.flatMap fun b => [.mark b.1, .space b.2]) ++ [.mark f.trailer]

/-- R17: the durations of a repeat frame in their order. -/
def repeatSegments (f : IrRepeatTiming) : List IrSegment := [.mark f.leader, .space f.gap, .mark f.trailer]

/-! ## Wired keys -/

/-- Changes a wired input. -/
def Keys.changeWired (key : WiredKey) (f : WiredInput → WiredInput) (k : Keys) : Keys :=
  match key with
  | .fwd => { k with fwd := f k.fwd }
  | .rev => { k with rev := f k.rev }

/-- A wired input. -/
def Keys.wired (k : Keys) : WiredKey → WiredInput
  | .fwd => k.fwd
  | .rev => k.rev

/-- The level of a wired input. -/
def Pins.setWired (key : WiredKey) (closed : Bool) (p : Pins) : Pins :=
  match key with
  | .fwd => { p with wiredFwd := closed }
  | .rev => { p with wiredRev := closed }

/-- R154: a wired input changes: the debounce time starts, or is dropped at the return to the old level. -/
def wiredMoves (key : WiredKey) (closed : Bool) (s : State) : State :=
  (s.onPins (Pins.setWired key closed)).onKeys (Keys.changeWired key fun w =>
    { w with debounce := if closed = w.closed then none else some (w.debounce.getD 0) })

/-- R154: a new level has lasted 30 ms. -/
def wiredSettles (key : WiredKey) (s : State) : State :=
  let w := s.keys.wired key
  if w.debounce.isNone then s
  else
    let s := s.onKeys (Keys.changeWired key fun w => { closed := !w.closed, debounce := none })
    if w.closed then s
    else
      match key with
      | .fwd => forwardKey .wired s
      | .rev => reverseKey .wired s

/-! ## Messages -/

/-- R158: the address as KEYADDR gives it. -/
def addressAtom : Option Nat → Atom
  | none => .word "ANY"
  | some n => .num n

/-- The reply to KEYADDR. -/
def keyaddrReply (s : State) : State × Reply := accept "KEYADDR" [{ parts := [addressAtom s.keys.address] }] s

/-- R158: KEYADDR. -/
def doKeyaddr (addr : Option KeyAddrArg) (s : State) : State × Reply :=
  match addr with
  | none => keyaddrReply s
  | some .any => keyaddrReply (s.onKeys fun k => { k with address := none })
  | some (.num n) =>
    if outside 0 15 n then refuse .range "KEYADDR" s
    else keyaddrReply (s.onKeys fun k => { k with address := some n.toNat })

/-- R159: FOCUS IN,ms and FOCUS OUT,ms. -/
def doFocus (dir : FocusDir) (ms : Int) (s : State) : State × Reply :=
  if s.supplyLow then refuse .state "FOCUS" s
  else
    let t := clamp 20 2000 ms
    accept "FOCUS" [fw dir.word, fc t (outside 20 2000 ms)] (s.onKeys (Keys.startFocus dir .line (some t.toNat)))

/-- R159: FOCUS STOP. -/
def doFocusStop (s : State) : State × Reply := accept "FOCUS" [fw "STOP"] (endFocus (endWith "STOPPED") s)

/-- R160: a focus run as ASK KEYS gives it. -/
def focusParts : Option FocusRun → List Atom
  | none => [.word "NONE"]
  | some r =>
    [.word r.dir.word, .word (match r.origin with | .key => "KEY" | .line => "LINE"),
      .word (if r.driving then "DRIVING" else "WAITING")]

/-- R160: OPEN or CLOSED. -/
def wiredWord (w : WiredInput) : String := if w.closed then "CLOSED" else "OPEN"

/-- R160: ASK KEYS. -/
def doAskKeys (s : State) : State × Reply :=
  let k := s.keys
  accept "ASK KEYS"
    [kv "ADDR" [addressAtom k.address], kw "KEY" ((k.held.map Key.word).getD "IDLE"),
      kw "DIGITS" (if k.digits = [] then "NONE" else digitText k.digits), ki "ENTRYAGE" k.entryTimer,
      kw "WFWD" (wiredWord k.fwd), kw "WREV" (wiredWord k.rev), kv "FOCUS" (focusParts k.focus),
      kv "FOCUSTIME" [numOrNone (k.focus.map fun r => (r.driven : Int))], kw "PROGNEXT" k.progNext.word,
      kw "PROGBACK" k.progBack.word, ki "INVALID" k.invalid, ki "FOREIGN" k.foreign, ki "UNASSIGNED" k.unassigned,
      ki "IGNORED" k.ignored] s

end Sys2Proof.Machine
end

