-- ==== Sys2Proof/Machine/Cascade.lean ====
section
/-! DEFINITION. What a block does with what another block tells it, CLEAR (R204), and the supply monitor (R207). A telling is
received once the block that sent it has finished; the tellings that follow from it are received before those that waited
behind it. -/

namespace Sys2Proof.Machine

/-! ## Clearing latches -/

/-- R204: the block that holds a kind's protective action ends it. -/
def endAction (k : FaultKind) (s : State) : State :=
  match k with
  | .jam | .slideStuck | .noZero => changerCleared k s
  | .lampShort => lampShortCleared s
  | .shiftFail => lampShiftCleared s
  | .heatTrip => heatTripCleared s
  | .trayOut | .lampOpen | .fanStall | .heatWarn | .sensorBad | .supplyLow | .cueStuck => s

/-- R203, R204: CLEAR of one record. The fault line is evaluated at the change of its latch, so that after the last named
record it stands as the records do. -/
def clearKind (k : FaultKind) (s : State) : State :=
  let r := s.faults.record k
  if r.latched = false ∨ r.present = true then s
  else
    let s := s.onFaults (Faults.change k fun r => { r with latched := false })
    causeLeaves k (endAction k (evaluateFaultLine (reportFault k [fw "CLEARED"] s)))

/-- R204: the kinds that CLEAR names. -/
def namedKinds : Option FaultKind → List FaultKind
  | none => FaultKind.all
  | some k => [k]

/-- R204: a record that stays latched at CLEAR. -/
def staysLatched (s : State) (k : FaultKind) : Bool := (s.faults.record k).latched && (s.faults.record k).present

/-- R204: CLEAR kind and CLEAR ALL. The records are cleared one after another, each with what follows from it
(DEDUCED, log entry 25). -/
def doClear (kind : Option FaultKind) (s : State) : State × Reply :=
  let still := (namedKinds kind).filter (staysLatched s)
  let s := (namedKinds kind).foldl (fun s k => s.emit (.clearKind k)) s
  accept "CLEAR" (fw ((kind.map FaultKind.word).getD "ALL") ::
    (if still = [] then [] else [kv "STILL" (still.map fun k => .word k.word)])) s

/-! ## Tellings -/

/-- What a block does with what it is told (DEDUCED, log entry 2). -/
def receive (sig : Signal) (s : State) : State :=
  match sig with
  | .changeDone slot origin => engineSeesChange slot origin s
  | .changeRefused why slot => engineSeesRefusal why slot s
  | .rampDone _ origin => engineSeesRamp origin s
  | .locateDone outcome _ => engineSeesLocate outcome s
  | .tapeMoved old new => cueSeesTape old new s
  | .causeIn kind byItself => causeEnters kind byItself s
  | .causeOut kind => causeLeaves kind s
  | .offerHead => offerHead s
  | .reviewHold => reviewHold s
  | .clearKind kind => clearKind kind s
  | .settle => settleNext s
  | .closeBurst d => closeClassifier s d
  | .writeEnds => abandonWrite s

/-- The tellings that wait are received, at most `fuel` of them (DEDUCED, log entry 2). -/
def drainAll : Nat → State → State
  | 0, s => s
  | fuel + 1, s =>
    match s.signals with
    | [] => s
    | sig :: rest =>
      let s := receive sig { s with signals := [] }
      drainAll fuel { s with signals := s.signals ++ rest }

/-- The tellings that wait are received, and none waits afterwards. The bound is far above what one command can cause
(log entry 2). -/
def drain (s : State) : State := { drainAll 1000 s with signals := [] }

/-! ## The show requests of the line -/

/-- R185: the reply to a show request gives the show state after the request with all that the request leads to, a refusal
that the changer hands back among it (R176). -/
def showReply (word : String) (r : State × Bool) : State × Reply :=
  if r.2 then
    let s := drain r.1
    accept "SHOW" [fw word, fw s.engine.state.word] s
  else refuse .state "SHOW" r.1

/-- R165: SHOW RUN. -/
def doShowRun (s : State) : State × Reply := showReply "RUN" (runShow s)
/-- R166: SHOW STOP. -/
def doShowStop (s : State) : State × Reply := showReply "STOP" (stopShow s)
/-- R169: SHOW HOLD. -/
def doShowHold (s : State) : State × Reply := showReply "HOLD" (holdShow s)
/-- R169: SHOW RESUME. -/
def doShowResume (s : State) : State × Reply := showReply "RESUME" (resumeRequest s)

/-! ## The supply monitor -/

/-- R207: SUPPLY_LOW is raised: the fault list, then each block of the power stage (DEDUCED, log entry 25). -/
def raiseSupplyLow (s : State) : State :=
  let s := tellPresent .supplyLow none s
  let s := changerSupplyLow (lampSupplyLow s)
  abandonWrite (focusSupplyLow (tapeSupplyLow s))

/-- R207: SUPPLY_LOW goes (DEDUCED, log entry 25). -/
def supplyReturns (s : State) : State :=
  let s := tellGone .supplyLow s
  tapeSupplyGood (changerSupplyGood (lampSupplyGood s))

/-- R207: the monitor enters a state, with its timer. -/
def setSupply (st : SupplyState) (timer : Option Nat) (s : State) : State :=
  s.onFaults fun f => { f with supply := st, supplyTimer := timer }

/-- R207: an edge of the comparator. -/
def comparatorMoves (good : Bool) (s : State) : State :=
  let s := s.onPins fun p => { p with supplyGood := good }
  match s.faults.supply, good with
  | .good, false => setSupply .deglitch (some 0) s
  | .deglitch, true => setSupply .good none s
  | .low, true => setSupply .recovering (some 0) s
  | .recovering, false => setSupply .low none s
  | .good, true | .deglitch, false | .low, false | .recovering, true => s

/-- R207: the deglitch time ends. -/
def supplyDeglitchEnds (s : State) : State :=
  if s.faults.supply = .deglitch then raiseSupplyLow (setSupply .low none s) else s

/-- R207: the retry time ends. -/
def supplyRetryEnds (s : State) : State :=
  if s.faults.supply = .recovering then supplyReturns (setSupply .good none s) else s

end Sys2Proof.Machine
end

