-- ==== Sys2Proof/Machine/Settings.lean ====
section
/-! DEFINITION. The settings of the ten blocks, SET and ASK (R12, R13, R21, R70, R78, R157, R181, R196), ASK LINE and
REPORT (R13, R14). -/

namespace Sys2Proof.Machine

/-! ## What a setting takes -/

/-- The range of a numeric setting, to whose limits a value is clamped; `none` for a keyword setting. -/
def settingRange : Setting → Option (Int × Int)
  | .settle => some (0, 2000)
  | .retries => some (0, 5)
  | .keepWarm => some (0, 399)
  | .dwellLimit => some (10, 600)
  | .ambient => some (0, 400)
  | .watts => some (100, 400)
  | .gain => some (1, 255)
  | .coolAt _ => some (1, 255)
  | .fanUp _ => some (100, 2000)
  | .fanDrive _ => some (0, 4095)
  | .warnAt => some (500, 1500)
  | .tripAt => some (600, 2000)
  | .afterRun => some (10, 600)
  | .warmUp => some (200, 3000)
  | .catchUp => some (1, 7)
  | .holdAt => some (2, 8)
  | .releaseAt => some (0, 5)
  | .tray | .skipZero | .guard | .progNext | .progBack | .loop | .tapeHold => none

/-- The keywords of a keyword setting. -/
def settingWords : Setting → List String
  | .tray => ["T80", "T140"]
  | .skipZero | .guard | .loop | .tapeHold => ["ON", "OFF"]
  | .progNext | .progBack => ["SHORT", "LONG"]
  | .settle | .retries | .keepWarm | .dwellLimit | .ambient | .watts | .gain | .coolAt _ | .fanUp _ | .fanDrive _
  | .warnAt | .tripAt | .afterRun | .warmUp | .catchUp | .holdAt | .releaseAt => []

/-- The value a setting holds. -/
def settingValue (s : State) : Setting → SetValue
  | .tray => .word (if s.changer.size = 140 then "T140" else "T80")
  | .settle => .num s.changer.settle
  | .retries => .num s.changer.retriesMax
  | .skipZero => .word (onOff s.changer.skipZero)
  | .keepWarm => .num s.lamp.keepWarm
  | .dwellLimit => .num s.lamp.dwellLimit
  | .guard => .word (onOff s.lamp.guardOn)
  | .ambient => .num s.heat.set.ambient
  | .watts => .num s.heat.set.watts
  | .gain => .num s.heat.set.gain
  | .coolAt k => .num s.heat.set.cool[k]
  | .fanUp k => .num s.heat.set.fanUp[k]
  | .fanDrive k => .num s.heat.set.fanDrive[k]
  | .warnAt => .num s.heat.set.warnAt
  | .tripAt => .num s.heat.set.tripAt
  | .afterRun => .num s.heat.set.afterRun
  | .warmUp => .num s.heat.set.warmUp
  | .progNext => .word s.keys.progNext.word
  | .progBack => .word s.keys.progBack.word
  | .loop => .word (onOff s.engine.loop)
  | .catchUp => .num s.triggers.catchUp
  | .tapeHold => .word (onOff s.triggers.tapeHold)
  | .holdAt => .num s.triggers.holdAt
  | .releaseAt => .num s.triggers.releaseAt

/-! ## Refusals -/

/-- R78: the four thresholds rise by at least 50. -/
def fanUpOrdered (u : Vector Int 4) : Bool :=
  decide (u[0] + 50 ≤ u[1]) && decide (u[1] + 50 ≤ u[2]) && decide (u[2] + 50 ≤ u[3])

/-- R78, R196: the refusal with RANGE of a clamped value that would break an order. -/
def breaksOrder (s : State) (name : Setting) (n : Int) : Bool :=
  match name with
  | .fanUp k => !fanUpOrdered (s.heat.set.fanUp.set k n)
  | .warnAt => decide (s.heat.set.tripAt < n + 100)
  | .tripAt => decide (n < s.heat.set.warnAt + 100)
  | .holdAt => decide (n ≤ (s.triggers.releaseAt : Int))
  | .releaseAt => decide ((s.triggers.holdAt : Int) ≤ n)
  | .tray | .settle | .retries | .skipZero | .keepWarm | .dwellLimit | .guard | .ambient | .watts | .gain | .coolAt _
  | .fanDrive _ | .afterRun | .warmUp | .progNext | .progBack | .loop | .catchUp | .tapeHold => false

/-- R21: SET TRAY is refused with STATE. -/
def trayShut (s : State) : Bool :=
  s.showBusy ||
    (match s.changer.state with
      | .noTray | .unhomed | .idle => false
      | .lifting | .rotating | .dropping | .settling | .homing | .backoff | .jammed | .halted => true)

/-! ## Writing -/

/-- Changes the settings of the heat and power unit. -/
def onHeatSet (f : HeatSettings → HeatSettings) (s : State) : State := s.onHeat fun h => { h with set := f h.set }

/-- R78: FANDRIVEk acts at once on the fan drive when k is the present step. -/
def setFanDrive (k : Fin 4) (n : Nat) (s : State) : State :=
  (onHeatSet (fun g => { g with fanDrive := g.fanDrive.set k n }) s).onHeat fun h =>
    { h with fanDuty := fanDutyOf h.set h.fan }

/-- A numeric setting takes a value that has been clamped. -/
def writeNum (name : Setting) (n : Int) (s : State) : State :=
  match name with
  | .settle => s.onChanger fun c => { c with settle := n.toNat }
  | .retries => s.onChanger fun c => { c with retriesMax := n.toNat }
  | .keepWarm => s.onLamp fun l => { l with keepWarm := n.toNat }
  | .dwellLimit => s.onLamp fun l => { l with dwellLimit := n.toNat }
  | .ambient => onHeatSet (fun g => { g with ambient := n }) s
  | .watts => onHeatSet (fun g => { g with watts := n }) s
  | .gain => onHeatSet (fun g => { g with gain := n }) s
  | .coolAt k => onHeatSet (fun g => { g with cool := g.cool.set k n }) s
  | .fanUp k => onHeatSet (fun g => { g with fanUp := g.fanUp.set k n }) s
  | .fanDrive k => setFanDrive k n.toNat s
  | .warnAt => onHeatSet (fun g => { g with warnAt := n }) s
  | .tripAt => onHeatSet (fun g => { g with tripAt := n }) s
  | .afterRun => onHeatSet (fun g => { g with afterRun := n.toNat }) s
  | .warmUp => onHeatSet (fun g => { g with warmUp := n.toNat }) s
  | .catchUp => s.onTriggers fun t => { t with catchUp := n.toNat }
  | .holdAt => reviewHold (s.onTriggers fun t => { t with holdAt := n.toNat })
  | .releaseAt => reviewHold (s.onTriggers fun t => { t with releaseAt := n.toNat })
  | .tray | .skipZero | .guard | .progNext | .progBack | .loop | .tapeHold => s

/-- R21: the tray size changes; a tray that is present is no longer homed (DEDUCED, log entry 23). -/
def setTraySize (n : Nat) (s : State) : State :=
  s.onChanger fun c =>
    if c.trayPresent then { c with size := n, status := .unhomed, slot := 0, state := .unhomed }
    else { c with size := n }

/-- A length class from its keyword. -/
def lengthWord (w : String) : LengthClass := if w = "LONG" then .long else .short

/-- A keyword setting takes one of its keywords. -/
def writeWord (name : Setting) (w : String) (s : State) : State :=
  let on := w == "ON"
  match name with
  | .tray => setTraySize (if w = "T140" then 140 else 80) s
  | .skipZero => s.onChanger fun c => { c with skipZero := on }
  | .guard => setGuard on s
  | .progNext => s.onKeys fun k => { k with progNext := lengthWord w }
  | .progBack => s.onKeys fun k => { k with progBack := lengthWord w }
  | .loop => s.onEngine fun e => { e with loop := on }
  | .tapeHold => reviewHold (s.onTriggers fun t => { t with tapeHold := on })
  | .settle | .retries | .keepWarm | .dwellLimit | .ambient | .watts | .gain | .coolAt _ | .fanUp _ | .fanDrive _
  | .warnAt | .tripAt | .afterRun | .warmUp | .catchUp | .holdAt | .releaseAt => s

/-! ## SET and ASK -/

/-- R78: WARMUP is truncated after clamping. -/
def stored (name : Setting) (n : Int) : Int := if name = .warmUp then tenMs n.toNat else n

/-- R12: SET of a numeric setting; a value already held changes nothing (DEDUCED, log entry 23). -/
def setNum (name : Setting) (lo hi n : Int) (s : State) : State × Reply :=
  let v := stored name (clamp lo hi n)
  if breaksOrder s name v then refuse .range "SET" s
  else
    accept "SET" [fw name.word, fc v (outside lo hi n)]
      (if settingValue s name = .num v then s else writeNum name v s)

/-- R12: SET of a keyword setting; a value already held changes nothing (DEDUCED, log entry 23). -/
def setWord (name : Setting) (w : String) (s : State) : State × Reply :=
  if name = .tray ∧ trayShut s = true then refuse .state "SET" s
  else if w ∉ settingWords name then refuse .range "SET" s
  else
    accept "SET" [fw name.word, fw w] (if settingValue s name = .word w then s else writeWord name w s)

/-- R12: SET name,value. A number given to a keyword setting, or a keyword to a numeric one, is a fault of form
(DEDUCED, log entry 23). -/
def doSet (name : Setting) (value : SetValue) (s : State) : State × Reply :=
  match value, settingRange name with
  | .num n, some (lo, hi) => setNum name lo hi n s
  | .word w, none => setWord name w s
  | .num _, none | .word _, some _ => refuse .syntaxErr "SET" s

/-- The value of a setting as a field. -/
def valueField : SetValue → Field
  | .num n => fi n
  | .word w => fw w

/-- R13: ASK of a setting. -/
def doAskSetting (name : Setting) (s : State) : State × Reply :=
  accept "ASK" [fw name.word, valueField (settingValue s name)] s

/-! ## The control line's own messages -/

/-- R13: ASK LINE. -/
def doAskLine (s : State) : State × Reply :=
  let l := s.line
  accept "ASK LINE"
    [ki "BAUD" l.baud.rate, ki "RX" l.buffer.length, ki "TXQ" l.queue.length,
      kv "MASK" (wordsOrNone (l.mask.map ReportClass.word)), ki "LOSTLINES" l.totalLines,
      ki "LOSTREPORTS" l.totalReports] s

/-- R14: the classes that REPORT leaves enabled, in class order. -/
def maskAfter (sel : ReportSel) (mask : List ReportClass) : List ReportClass :=
  match sel with
  | .keep => mask
  | .all => ReportClass.all
  | .none => []
  | .classes cs => ReportClass.all.filter (· ∈ cs)

/-- R14: REPORT. -/
def doReport (sel : ReportSel) (s : State) : State × Reply :=
  let s := s.onLine fun l => { l with mask := maskAfter sel l.mask }
  accept "REPORT" (if s.line.mask = [] then [fw "NONE"] else s.line.mask.map fun c => fw c.word) s

/-- R15: RESET. -/
def doReset (s : State) : State × Reply := accept "RESET" [] (s.onLine fun l => { l with resetPending := true })

end Sys2Proof.Machine
end

