-- ==== Sys2Proof/Machine/LineIf.lean ====
section
/-! DEFINITION. The control line interface (chapter 01): the handing of a request to the block that owns its verb, the
taking of a line, the receiver, the soft reset, and the end of a line at the transmitter. -/

namespace Sys2Proof.Machine

/-! ## Handing a request to its block -/

/-- R5: a request reaches the block that owns its verb; the block's effect on the part, and its reply. -/
def handle (r : Request) (s : State) : State × Reply :=
  match r with
  | .set name value => doSet name value s
  | .askSetting name => doAskSetting name s
  | .askLine => doAskLine s
  | .report sel => doReport sel s
  | .reset => doReset s
  | .goto slot => doGoto slot s
  | .move k => doMove k s
  | .park => doPark s
  | .home => doHome s
  | .askSlide => doAskSlide s
  | .lamp level fade => doLamp level fade s
  | .curveLoad i duty => doCurveLoad i duty s
  | .curveRead i => doCurveRead i s
  | .lampmodShift => doLampmodShift s
  | .lampmodAuto on => doLampmodAuto on s
  | .lampmodReplace pos => doLampmodReplace pos s
  | .lampmodRemove pos => doLampmodRemove pos s
  | .askLamp => doAskLamp s
  | .powerOn => doPowerOn s
  | .powerOff => doPowerOff s
  | .askHeat => doAskHeat s
  | .tapePlay => doTape .play s
  | .tapePause => doTape .pause s
  | .tapeStop => doTape .stop s
  | .tapeFwd => doTape .fwd s
  | .tapeRew => doTape .rew s
  | .tapeCuerec => doTape .cuerec s
  | .locate count play => doLocate count play s
  | .zero => doZero s
  | .vol level fade => doVol level fade s
  | .muteOn => doMute true s
  | .muteOff => doMute false s
  | .askTape => doAskTape s
  | .tone d items => doTone d items s
  | .cuemapSet d len action => doCuemapSet d len action s
  | .cuemapRead d len => doCuemapRead d len s
  | .cuewrite d len => doCuewrite d len s
  | .cuelog n before => doCuelog n before s
  | .cuelogCounts => doCuelogCounts s
  | .keyaddr addr => doKeyaddr addr s
  | .focusIn ms => doFocus .inward ms s
  | .focusOut ms => doFocus .outward ms s
  | .focusStop => doFocusStop s
  | .askKeys => doAskKeys s
  | .stepdef n keep fields => doStepdef n keep fields s
  | .stepdel n => doStepdel n s
  | .stepask n => doStepask n s
  | .showRun => doShowRun s
  | .showStop => doShowStop s
  | .showHold => doShowHold s
  | .showResume => doShowResume s
  | .showStatus => doShowStatus s
  | .next => doTrigger "NEXT" .next s
  | .back => doTrigger "BACK" .back s
  | .jump n => doJump n s
  | .permitSet source mode value => doPermitSet source mode value s
  | .permitRead source mode => doPermitRead source mode s
  | .permitStatus => doPermitStatus s
  | .clear kind => doClear kind s
  | .faultmodeSet kind mode => doFaultmodeSet kind mode s
  | .faultmodeRead kind => doFaultmodeRead kind s
  | .askFaults => doAskFaults s

/-! ## Taking a line -/

/-- R4: the parser can take a line now. -/
def Line.canTake (l : Line) : Bool := l.slot.isNone && !l.resetPending && !l.buffer.isEmpty

/-- R4: a line is taken: its effect with all that follows from it, then its reply in the slot, then the choice of an idle
transmitter. The line has left the buffer (DEDUCED, log entry 29). -/
def takeLine (x : RxLine) (s : State) : State :=
  let s := s.onLine fun l => { l with taking := true }
  let r :=
    match readLine x with
    | .request r => handle r s
    | .refused why what => (s, .refused why what)
  (drain r.1).onLine fun l => Line.choose { l with slot := some r.2, taking := false }

/-- R4: lines are taken one after another while the parser can take one, at most `fuel` of them
(DESIGN CHOICE, log entry 5). -/
def takeAll : Nat → State → State
  | 0, s => s
  | fuel + 1, s =>
    match s.line.buffer with
    | [] => s
    | x :: rest =>
      if s.line.canTake then takeAll fuel (takeLine x (s.onLine fun l => { l with buffer := rest })) else s

/-- R4: the lines that can be taken are taken. The buffer never holds more than two. -/
def takeWaiting (s : State) : State := takeAll (Config.bufferPlaces + 1) s

/-- R3: a completed line is offered to the receive buffer: it enters the last place, or is discarded
(DESIGN CHOICE, log entry 5). -/
def offerLine (x : RxLine) (s : State) : State :=
  if s.line.buffer.length < Config.bufferPlaces then
    takeWaiting (s.onLine fun l => { l with buffer := l.buffer ++ [x] })
  else s.onLine Line.discardLine

/-! ## The receiver -/

/-- R2: a lowercase letter is folded to its capital. -/
def foldChar (n : Nat) : Nat := if 97 ≤ n ∧ n ≤ 122 then n - 32 else n

/-- R2: a printable character is appended, or marks the line overlong. -/
def Receiver.append (n : Nat) (r : Receiver) : Receiver :=
  if r.count < Config.lineLength then { r with chars := r.chars ++ [Char.ofNat n], count := r.count + 1 }
  else { r with overlong := true }

/-- R2: any other character, or one with a framing error, marks the line garbled and counts toward the 72. -/
def Receiver.garble (r : Receiver) : Receiver :=
  if r.count < Config.lineLength then { r with garbled := true, count := r.count + 1 }
  else { r with garbled := true, overlong := true }

/-- R2: what a completed line is offered as; an empty line is dropped. -/
def Receiver.line (r : Receiver) : Option RxLine :=
  if r.overlong then some (.bad .overlong)
  else if r.garbled then some (.bad .garbled)
  else if trim r.chars = [] then none
  else some (.text (trim r.chars))

/-- Sets the receiver. -/
def setReceiver (r : Receiver) (s : State) : State := s.onLine fun l => { l with receiver := r }

/-- R2: a carriage return completes the line. -/
def lineCompletes (s : State) : State :=
  let r := s.line.receiver
  let s := setReceiver .empty s
  if r.resync then s
  else
    match r.line with
    | some x => offerLine x s
    | none => s

/-- R2: a received character. -/
def receiveChar (c : RxChar) (s : State) : State :=
  let r := s.line.receiver
  match c with
  | .framingError => if r.resync then s else setReceiver r.garble s
  | .byte b =>
    let n := b.toNat
    if n = 13 then lineCompletes s
    else if r.resync ∨ n = 10 then s
    else if 32 ≤ n ∧ n ≤ 126 then setReceiver (r.append (foldChar n)) s
    else setReceiver r.garble s

/-! ## Reset -/

/-- R11: the interface at a soft reset (DEDUCED, log entry 7). -/
def Line.softReset (l : Line) : Line :=
  { l with
    receiver := { Receiver.empty with resync := decide (l.receiver.count ≠ 0) }
    buffer := [], slot := none, resetPending := false, queue := [], mask := ReportClass.all, pendingLines := 0
    pendingReports := 0, totalLines := 0, totalReports := 0, transmitter := some (.start false), taking := false }

/-- R208: the fault list at a soft reset; the supply monitor keeps its state and its running timer. -/
def Faults.softReset (f : Faults) : Faults := { f with records := defaultRecords, asserted := false }

/-- R208: the detail of a LAMP_OPEN told after a soft reset: the position in the path when its lamp has failed, else the
first that has (DEDUCED, log entry 13). -/
def failedLamp (l : Lamp) : Option LampPos :=
  match l.path with
  | some pos =>
    if (l.record pos).state = .failed then some pos
    else LampPos.all.find? fun p => (l.record p).state == .failed
  | none => LampPos.all.find? fun p => (l.record p).state == .failed

/-- R208: the lamp controller tells LAMP_OPEN after a soft reset that leaves a record FAILED and none ACTIVE. -/
def retellLamp (s : State) : State :=
  match s.lamp.activePos, failedLamp s.lamp with
  | none, some pos => tellPresent .lampOpen (some (.lamp pos)) s
  | _, _ => s

/-- R208: LOW and RECOVERING raise SUPPLY_LOW anew. -/
def retellSupply (s : State) : State := if s.supplyLow then raiseSupplyLow s else s

/-- R11, R45, R72, R99, R117, R137, R157, R181, R197, R208: the soft reset of every block, then what is told anew
(DEDUCED, log entry 6). -/
def softReset (s : State) : State :=
  let p := s.pins
  let s := { s with
    line := s.line.softReset, faults := s.faults.softReset, changer := s.changer.softReset p
    tape := s.tape.softReset p, cue := .afterReset, keys := .afterReset p, engine := .afterReset
    triggers := .afterReset p, signals := [] }
  let s := s.onLamp (Lamp.softReset p s.changer.occupancy)
  drain (retellSupply (retellLamp (retellHeat (softResetHeat s))))

/-! ## The transmitter -/

/-- R7, R15: the transmitter has sent the last character of its line: the soft reset after =RESET, otherwise the next line
and the lines that may then be taken (DEDUCED, log entry 6). -/
def lineSent (s : State) : State :=
  match s.line.transmitter with
  | none => s
  | some x =>
    if s.line.resetPending ∧ x = .accepted "RESET" [] then softReset s
    else takeWaiting (s.onLine fun l => Line.choose { l with transmitter := none })

end Sys2Proof.Machine
end

