-- ==== Sys2Proof/Machine/Clock.lean ====
section
/-! DEFINITION. The clock of the model: which timer has reached its limit, and one millisecond in which none has. The step
turns to it when no command waits (DESIGN CHOICE, log entry 3). The time that a line takes on the wire is not modelled: the
end of a line, like every pulse and every level of a pin, comes as a command. -/

namespace Sys2Proof.Machine

/-! ## Which timer is due -/

/-- A running timer has reached its limit. -/
def reached (limit : Nat) (t : Option Nat) : Bool :=
  match t with
  | some n => decide (limit ≤ n)
  | none => false

/-- R26, R28, R30, R32: the limit of a phase timeout, while the phase is driven. -/
def phaseLimit : ChangerState → Option Nat
  | .lifting | .dropping => some Config.armTimeout
  | .rotating | .homing => some Config.indexTimeout
  | .noTray | .unhomed | .idle | .settling | .backoff | .jammed | .halted => none

/-- The phase timeout has run out. -/
def phaseDue (c : Changer) : Bool :=
  match phaseLimit c.state with
  | some n => c.driven && reached n c.phaseTimer
  | none => false

/-- R104, R109, R110: the tape is at rest and something waits for that. -/
def restDue (t : Tape) : Bool :=
  t.motor == .off && decide (Config.reverseGuard ≤ t.rest) && (t.guard.isSome || t.locate.isSome)

/-- R123: the window of a detector has ended. -/
def windowDue (s : State) (d : Detector) : Bool :=
  match s.cue.units[d].window with
  | some w => decide (w.start + w.len ≤ s.now)
  | none => false

/-- R155: a waiting focus run can start. -/
def focusRestDue (k : Keys) : Bool :=
  match k.focus with
  | some r => !r.driving && decide (Config.focusRest ≤ k.focusRest)
  | none => false

/-- R155: the limit of a focus run. -/
def FocusRun.limit (r : FocusRun) : Nat := min (r.requested.getD Config.focusLimit) Config.focusLimit

/-- R155: a focus run has run its time. -/
def focusRunDue (k : Keys) : Bool :=
  match k.focus with
  | some r => r.driving && decide (r.limit ≤ r.driven)
  | none => false

/-- R177: the dwell remaining of the step has reached 0. -/
def dwellDue (e : Engine) : Bool :=
  match e.execution with
  | some x => x.dwellRuns && x.dwell == some 0
  | none => false

/-- Every expiry that can be due, in the order in which the model takes those that are due together
(DESIGN CHOICE, log entries 3 and 27). -/
def expiries (s : State) : List (Bool × Instr) :=
  [(s.faults.supply == .deglitch && reached Config.supplyDeglitch s.faults.supplyTimer, .supplyDeglitchEnd),
    (s.faults.supply == .recovering && reached Config.supplyRetry s.faults.supplyTimer, .supplyRetryEnd),
    (reached Config.deadTime s.changer.trayDead, .motorDeadTimeEnd .tray),
    (reached Config.deadTime s.changer.gateDead, .motorDeadTimeEnd .gate),
    (reached Config.motorBlanking s.changer.blanking, .motorBlankingEnd),
    (reached Config.overcurrentDeglitch s.changer.deglitch, .overcurrentDeglitchEnd),
    (phaseDue s.changer, .phaseTimeout),
    (s.changer.state == .backoff && s.changer.driven && reached Config.backoffDrive s.changer.backoffTimer,
      .backoffDriveEnd),
    (s.changer.state == .settling && reached s.changer.settleTime s.changer.settleTimer, .settleEnd),
    (decide (Config.lampUpdate ≤ s.lamp.updateTimer), .lampUpdate),
    (reached Config.openTime s.lamp.openTimer, .openTimerExpiry),
    (match s.lamp.shift with
      | some sh => sh.driven && decide (Config.shiftTimeout ≤ sh.drive)
      | none => false, .shiftTimeout),
    (decide (Config.thermalPeriod ≤ s.heat.periodTimer), .thermalPeriod s.pins.housing),
    (s.heat.rise.isSome && decide (Config.riseStep ≤ s.heat.riseTimer), .riseStep),
    (restDue s.tape, .reverseGuardEnd),
    (s.tape.motor != .off && decide (Config.endOfTape ≤ s.tape.endTimer), .endOfTape),
    (decide (Config.volumeUpdate ≤ s.tape.updateTimer), .volumeUpdate),
    (windowDue s 0, .detectorWindowEnd 0), (windowDue s 1, .detectorWindowEnd 1), (windowDue s 2, .detectorWindowEnd 2),
    (match s.cue.writer with
      | some w => w.remaining == 0
      | none => false, .cueWritten),
    (s.keys.held.isSome && decide (Config.keyRelease ≤ s.keys.releaseTimer), .keyReleaseTimeout),
    (!s.keys.digits.isEmpty && decide (Config.digitExpiry ≤ s.keys.entryTimer), .digitsExpired),
    (reached Config.wiredDebounce s.keys.fwd.debounce, .wiredDebounceEnd .fwd),
    (reached Config.wiredDebounce s.keys.rev.debounce, .wiredDebounceEnd .rev),
    (focusRestDue s.keys, .focusRestEnd),
    (match s.keys.focus with
      | some r => reached Config.focusBlanking r.blanking
      | none => false, .focusBlankingEnd),
    (focusRunDue s.keys, .focusRunEnd),
    (dwellDue s.engine, .dwellExpiry)]

/-- The first expiry that is due (DESIGN CHOICE, log entry 3). -/
def due (s : State) : Option Instr := ((expiries s).find? (·.1)).map (·.2)

/-! ## One millisecond -/

/-- The timers of the changer; the phase timeout, the backoff drive and the settle time stand still in HALTED (R43). -/
def Changer.tick (c : Changer) : Changer :=
  { c with
    trayDead := tickTimer c.trayDead, gateDead := tickTimer c.gateDead, blanking := tickTimer c.blanking
    deglitch := tickTimer c.deglitch
    phaseTimer := if c.driven then tickTimer c.phaseTimer else c.phaseTimer
    backoffTimer := if c.driven then tickTimer c.backoffTimer else c.backoffTimer
    settleTimer := if c.state = .settling then tickTimer c.settleTimer else c.settleTimer }

/-- The timers of the lamp controller. -/
def Lamp.tick (l : Lamp) : Lamp :=
  { l with
    updateTimer := l.updateTimer + 1, openTimer := tickTimer l.openTimer
    shift := l.shift.map fun sh => if sh.driven then { sh with drive := sh.drive + 1 } else sh }

/-- The timers of the heat and power unit. -/
def Heat.tick (h : Heat) : Heat :=
  { h with periodTimer := h.periodTimer + 1, riseTimer := if h.rise.isSome then h.riseTimer + 1 else h.riseTimer }

/-- The timers of the transport. While the motor is driven, the rest time stands still (DESIGN CHOICE, log entry 46). -/
def Tape.tick (t : Tape) : Tape :=
  { t with
    updateTimer := t.updateTimer + 1
    rest := if t.motor = .off then min Config.reverseGuard (t.rest + 1) else t.rest
    endTimer := if t.motor = .off then t.endTimer else t.endTimer + 1 }

/-- The time remaining of the writer. -/
def Cue.tick (c : Cue) : Cue := { c with writer := c.writer.map fun w => { w with remaining := w.remaining - 1 } }

/-- The times of a focus run. -/
def FocusRun.tick (r : FocusRun) : FocusRun :=
  if r.driving then { r with driven := r.driven + 1, blanking := tickTimer r.blanking } else r

/-- The timers of the key receiver. The focus rest time stands still while the focus motor is driven (DESIGN CHOICE, log
entry 46), and the entry timer while the entry is empty (R153). -/
def Keys.tick (k : Keys) : Keys :=
  let driving := (k.focus.map FocusRun.driving).getD false
  { k with
    releaseTimer := if k.held.isSome then k.releaseTimer + 1 else k.releaseTimer
    entryTimer := if k.digits = [] then k.entryTimer else k.entryTimer + 1
    fwd := { k.fwd with debounce := tickTimer k.fwd.debounce }
    rev := { k.rev with debounce := tickTimer k.rev.debounce }
    focus := k.focus.map FocusRun.tick
    focusRest := if driving then k.focusRest else min Config.focusRest (k.focusRest + 1) }

/-- The dwell timer. -/
def Engine.tick (e : Engine) : Engine :=
  e.onExec fun x => if x.dwellRuns then { x with dwell := x.dwell.map (· - 1) } else x

/-- The timer of the supply monitor. -/
def Faults.tick (f : Faults) : Faults := { f with supplyTimer := tickTimer f.supplyTimer }

/-- One millisecond passes in which no timer is due (DESIGN CHOICE, log entry 3). -/
def tick (s : State) : State :=
  { s with
    now := s.now + 4, changer := s.changer.tick, lamp := s.lamp.tick, heat := s.heat.tick, tape := s.tape.tick
    cue := s.cue.tick, keys := s.keys.tick, engine := s.engine.tick, faults := s.faults.tick }

end Sys2Proof.Machine
end

