-- ==== Sys2Proof/Machine/ExecLine.lean ====
section
/-! DEFINITION. The meanings of the commands of the control line interface (chapter 01), one for each row of the opcode
table, and the two forms that every meaning has: a request row offers its line to the receive buffer (R3, R4), and an event
row acts and is followed by all that it leads to in other blocks. -/

namespace Sys2Proof.Machine

/-- The answer of a step. -/
abbrev Answer := Host.Outcome State Fault Refusal

/-- A request of the line arrives complete: it is taken at once, waits, or is lost, as R3 and R4 give
(DESIGN CHOICE, log entry 5). -/
def arrives (r : Request) (s : State) : Answer := .next (offerLine (.request r) s)

/-- An event takes place, with what it leads to in other blocks. -/
def happens (f : State → State) (s : State) : Answer := .next (drain (f s))

/-- R11: HARD_RESET. The dead time of a changer motor that the reset stops runs on (R45)
(DESIGN CHOICE, log entry 1; DEDUCED, log entry 9). -/
def execHardReset (pins : Pins) (s : State) : Answer :=
  .next { State.afterHardReset pins with changer := s.changer.softReset pins, pending := s.pending }

/-- R15: SOFT_RESET (DEDUCED, log entry 6). -/
def execSoftReset (s : State) : Answer := .next (softReset s)

/-- R2: CHARACTER_RECEIVED. -/
def execCharacterReceived (c : RxChar) (s : State) : Answer := .next (receiveChar c s)

/-- R7: TRANSMIT_LINE_END. -/
def execTransmitLineEnd (s : State) : Answer := .next (lineSent s)

/-- R5: LINE_REFUSED_FORM (DESIGN CHOICE, log entry 5). -/
def execLineRefusedForm (fault : LineFault) (s : State) : Answer := .next (offerLine (.bad fault) s)

/-- R12: SET. -/
def execSet (name : Setting) (value : SetValue) (s : State) : Answer := arrives (.set name value) s

/-- R13: ASK_SETTING. -/
def execAskSetting (name : Setting) (s : State) : Answer := arrives (.askSetting name) s

/-- R13: ASK_LINE. -/
def execAskLine (s : State) : Answer := arrives .askLine s

/-- R14: REPORT. -/
def execReport (sel : ReportSel) (s : State) : Answer := arrives (.report sel) s

/-- R15: RESET. -/
def execReset (s : State) : Answer := arrives .reset s

end Sys2Proof.Machine
end

