-- ==== Sys2Proof/Machine/ExecGuard.lean ====
section
/-! DEFINITION. The meanings of the commands of the fault list and the supply monitor (chapter 10), one for each row of the opcode table. -/

namespace Sys2Proof.Machine

/-- R204: CLEAR. -/
def execClear (kind : Option FaultKind) (s : State) : Answer := arrives (.clear kind) s

/-- R205: FAULTMODE_SET. -/
def execFaultmodeSet (kind : FaultKind) (mode : FaultMode) (s : State) : Answer := arrives (.faultmodeSet kind mode) s

/-- R205: FAULTMODE_READ. -/
def execFaultmodeRead (kind : FaultKind) (s : State) : Answer := arrives (.faultmodeRead kind) s

/-- R206: ASK_FAULTS. -/
def execAskFaults (s : State) : Answer := arrives .askFaults s

/-- R207: SUPPLY_COMPARATOR_CHANGE. -/
def execSupplyComparatorChange (good : Bool) (s : State) : Answer := happens (comparatorMoves good) s

/-- R207: SUPPLY_DEGLITCH_END. -/
def execSupplyDeglitchEnd (s : State) : Answer := happens supplyDeglitchEnds s

/-- R207: SUPPLY_RETRY_END. -/
def execSupplyRetryEnd (s : State) : Answer := happens supplyRetryEnds s

end Sys2Proof.Machine
end

