-- ==== Sys2Proof/Machine/ExecLight.lean ====
section
/-! DEFINITION. The meanings of the commands of the lamp controller (chapter 03), one for each row of the opcode table. -/

namespace Sys2Proof.Machine

/-- R73: LAMP. -/
def execLamp (level : Int) (fade : Option Int) (s : State) : Answer := arrives (.lamp level fade) s

/-- R74: CURVE_LOAD. -/
def execCurveLoad (i : Int) (duty : Int) (s : State) : Answer := arrives (.curveLoad i duty) s

/-- R74: CURVE_READ. -/
def execCurveRead (i : Int) (s : State) : Answer := arrives (.curveRead i) s

/-- R75: LAMPMOD_SHIFT. -/
def execLampmodShift (s : State) : Answer := arrives .lampmodShift s

/-- R75: LAMPMOD_AUTO. -/
def execLampmodAuto (on : Bool) (s : State) : Answer := arrives (.lampmodAuto on) s

/-- R76: LAMPMOD_REPLACE. -/
def execLampmodReplace (pos : LampPos) (s : State) : Answer := arrives (.lampmodReplace pos) s

/-- R76: LAMPMOD_REMOVE. -/
def execLampmodRemove (pos : LampPos) (s : State) : Answer := arrives (.lampmodRemove pos) s

/-- R77: ASK_LAMP. -/
def execAskLamp (s : State) : Answer := arrives .askLamp s

/-- R53: LAMP_UPDATE. -/
def execLampUpdate (s : State) : Answer := happens runUpdate s

/-- R64: LAMP_CURRENT_CHANGE. -/
def execLampCurrentChange (current : LampCurrent) (s : State) : Answer := happens (currentMoves current) s

/-- R64: OPEN_TIMER_EXPIRY. -/
def execOpenTimerExpiry (s : State) : Answer := happens lampFails s

/-- R62: SHIFT_SWITCH_CHANGE. -/
def execShiftSwitchChange (position : Option LampPos) (s : State) : Answer := happens (switchMoves position) s

/-- R68: SHIFT_TIMEOUT. -/
def execShiftTimeout (s : State) : Answer := happens shiftFails s

end Sys2Proof.Machine
end

