-- ==== Sys2Proof/Machine/ExecPower.lean ====
section
/-! DEFINITION. The meanings of the commands of the heat and power unit (chapter 04), one for each row of the opcode table. -/

namespace Sys2Proof.Machine

/-- R95: POWER_ON. -/
def execPowerOn (s : State) : Answer := arrives .powerOn s

/-- R96: POWER_OFF. -/
def execPowerOff (s : State) : Answer := arrives .powerOff s

/-- R101: ASK_HEAT. -/
def execAskHeat (s : State) : Answer := arrives .askHeat s

/-- R79: THERMAL_PERIOD. -/
def execThermalPeriod (reading : Int) (s : State) : Answer := happens (runPeriod reading) s

/-- R85: FAN_TACH_PULSE. -/
def execFanTachPulse (s : State) : Answer := happens countTach s

/-- R93: RISE_STEP. -/
def execRiseStep (s : State) : Answer := happens stepRise s

end Sys2Proof.Machine
end

