-- ==== Sys2Proof/Machine/ExecQueue.lean ====
section
/-! DEFINITION. The meanings of the commands of the trigger queue (chapter 09), one for each row of the opcode table. -/

namespace Sys2Proof.Machine

/-- R198: NEXT. -/
def execNext (s : State) : Answer := arrives .next s

/-- R198: BACK. -/
def execBack (s : State) : Answer := arrives .back s

/-- R198: JUMP. -/
def execJump (n : Int) (s : State) : Answer := arrives (.jump n) s

/-- R199: PERMIT_SET. -/
def execPermitSet (source : Source) (mode : Mode) (value : Perm) (s : State) : Answer :=
  arrives (.permitSet source mode value) s

/-- R199: PERMIT_READ. -/
def execPermitRead (source : Source) (mode : Mode) (s : State) : Answer := arrives (.permitRead source mode) s

/-- R199: PERMIT_STATUS. -/
def execPermitStatus (s : State) : Answer := arrives .permitStatus s

end Sys2Proof.Machine
end

