-- ==== Sys2Proof/Machine/ExecRemote.lean ====
section
/-! DEFINITION. The meanings of the commands of the key receiver (chapter 07), one for each row of the opcode table. -/

namespace Sys2Proof.Machine

/-- R158: KEYADDR. -/
def execKeyaddr (addr : Option KeyAddrArg) (s : State) : Answer := arrives (.keyaddr addr) s

/-- R159: FOCUS_IN. -/
def execFocusIn (ms : Int) (s : State) : Answer := arrives (.focusIn ms) s

/-- R159: FOCUS_OUT. -/
def execFocusOut (ms : Int) (s : State) : Answer := arrives (.focusOut ms) s

/-- R159: FOCUS_STOP. -/
def execFocusStop (s : State) : Answer := arrives .focusStop s

/-- R160: ASK_KEYS. -/
def execAskKeys (s : State) : Answer := arrives .askKeys s

/-- R144: IR_DATA_FRAME. -/
def execIrDataFrame (frame : IrDataTiming) (s : State) : Answer :=
  happens (fun s => (dataSegments frame).foldl irDuration s) s

/-- R145: IR_REPEAT_FRAME. -/
def execIrRepeatFrame (frame : IrRepeatTiming) (s : State) : Answer :=
  happens (fun s => (repeatSegments frame).foldl irDuration s) s

/-- R143: IR_FRAME_INVALID. -/
def execIrFrameInvalid (segments : List IrSegment) (s : State) : Answer :=
  happens (fun s => segments.foldl irDuration s) s

/-- R145: KEY_RELEASE_TIMEOUT. -/
def execKeyReleaseTimeout (s : State) : Answer := happens releaseKey s

/-- R152: DIGITS_EXPIRED. -/
def execDigitsExpired (s : State) : Answer := happens digitsExpire s

/-- R154: WIRED_INPUT_CHANGE. -/
def execWiredInputChange (key : WiredKey) (closed : Bool) (s : State) : Answer := happens (wiredMoves key closed) s

/-- R154: WIRED_DEBOUNCE_END. -/
def execWiredDebounceEnd (key : WiredKey) (s : State) : Answer := happens (wiredSettles key) s

/-- R155: FOCUS_REST_END. -/
def execFocusRestEnd (s : State) : Answer := happens focusRestEnds s

/-- R156: FOCUS_BLANKING_END. -/
def execFocusBlankingEnd (s : State) : Answer := happens focusBlankingEnds s

/-- R156: FOCUS_CURRENT_CHANGE. -/
def execFocusCurrentChange (high : Bool) (s : State) : Answer := happens (focusCurrentMoves high) s

/-- R155: FOCUS_RUN_END. -/
def execFocusRunEnd (s : State) : Answer := happens focusRunEnds s

end Sys2Proof.Machine
end

