-- ==== Sys2Proof/Machine/ExecShow.lean ====
section
/-! DEFINITION. The meanings of the commands of the show engine (chapter 08), one for each row of the opcode table. -/

namespace Sys2Proof.Machine

/-- R182: STEPDEF. -/
def execStepdef (n : Int) (keep : Bool) (fields : List StepField) (s : State) : Answer :=
  arrives (.stepdef n keep fields) s

/-- R183: STEPDEL. -/
def execStepdel (n : Int) (s : State) : Answer := arrives (.stepdel n) s

/-- R184: STEPASK. -/
def execStepask (n : Int) (s : State) : Answer := arrives (.stepask n) s

/-- R165: SHOW_RUN. -/
def execShowRun (s : State) : Answer := arrives .showRun s

/-- R166: SHOW_STOP. -/
def execShowStop (s : State) : Answer := arrives .showStop s

/-- R169: SHOW_HOLD. -/
def execShowHold (s : State) : Answer := arrives .showHold s

/-- R169: SHOW_RESUME. -/
def execShowResume (s : State) : Answer := arrives .showResume s

/-- R185: SHOW_STATUS. -/
def execShowStatus (s : State) : Answer := arrives .showStatus s

/-- R177: DWELL_EXPIRY. -/
def execDwellExpiry (s : State) : Answer := happens dwellEnds s

end Sys2Proof.Machine
end

