-- ==== Sys2Proof/Machine/ExecSlide.lean ====
section
/-! DEFINITION. The meanings of the commands of the changer (chapter 02), one for each row of the opcode table. -/

namespace Sys2Proof.Machine

/-- R47: GOTO. -/
def execGoto (slot : Int) (s : State) : Answer := arrives (.goto slot) s

/-- R48: MOVE. -/
def execMove (k : Int) (s : State) : Answer := arrives (.move k) s

/-- R49: PARK. -/
def execPark (s : State) : Answer := arrives .park s

/-- R50: HOME. -/
def execHome (s : State) : Answer := arrives .home s

/-- R51: ASK_SLIDE. -/
def execAskSlide (s : State) : Answer := arrives .askSlide s

/-- R19: INDEX_PULSE. -/
def execIndexPulse (zero : Bool) (s : State) : Answer := happens (indexMoves zero) s

/-- R26: TOP_SWITCH_CHANGE. -/
def execTopSwitchChange (closed : Bool) (s : State) : Answer := happens (topSwitchMoves closed) s

/-- R30: SEAT_SWITCH_CHANGE. -/
def execSeatSwitchChange (closed : Bool) (s : State) : Answer := happens (seatSwitchMoves closed) s

/-- R20: GATE_BARRIER_CHANGE. -/
def execGateBarrierChange (interrupted : Bool) (s : State) : Answer := happens (barrierMoves interrupted) s

/-- R23: MOTOR_DEAD_TIME_END. -/
def execMotorDeadTimeEnd (motor : ChangerMotor) (s : State) : Answer := happens (deadTimeEnds motor) s

/-- R23: MOTOR_BLANKING_END. -/
def execMotorBlankingEnd (s : State) : Answer := happens blankingEnds s

/-- R34: MOTOR_CURRENT_CHANGE. -/
def execMotorCurrentChange (high : Bool) (s : State) : Answer := happens (motorCurrentMoves high) s

/-- R34: OVERCURRENT_DEGLITCH_END. -/
def execOvercurrentDeglitchEnd (s : State) : Answer := happens deglitchEnds s

/-- R34: PHASE_TIMEOUT. -/
def execPhaseTimeout (s : State) : Answer := happens phaseRunsOut s

/-- R35: BACKOFF_DRIVE_END. -/
def execBackoffDriveEnd (s : State) : Answer := happens backoffDriveEnds s

/-- R31: SETTLE_END. -/
def execSettleEnd (s : State) : Answer := happens settleEnds s

/-- R41: TRAY_OUT. -/
def execTrayOut (s : State) : Answer := happens trayRemoved s

/-- R42: TRAY_IN. -/
def execTrayIn (zero : Bool) (s : State) : Answer := happens (trayInserted zero) s

end Sys2Proof.Machine
end

