-- ==== Sys2Proof/Machine/ExecSound.lean ====
section
/-! DEFINITION. The meanings of the commands of the transport controller (chapter 05), one for each row of the opcode table. -/

namespace Sys2Proof.Machine

/-- R107: TAPE_PLAY. -/
def execTapePlay (s : State) : Answer := arrives .tapePlay s

/-- R107: TAPE_PAUSE. -/
def execTapePause (s : State) : Answer := arrives .tapePause s

/-- R107: TAPE_STOP. -/
def execTapeStop (s : State) : Answer := arrives .tapeStop s

/-- R107: TAPE_FWD. -/
def execTapeFwd (s : State) : Answer := arrives .tapeFwd s

/-- R107: TAPE_REW. -/
def execTapeRew (s : State) : Answer := arrives .tapeRew s

/-- R108: TAPE_CUEREC. -/
def execTapeCuerec (s : State) : Answer := arrives .tapeCuerec s

/-- R109: LOCATE. -/
def execLocate (count : Int) (play : Bool) (s : State) : Answer := arrives (.locate count play) s

/-- R103: ZERO. -/
def execZero (s : State) : Answer := arrives .zero s

/-- R120: VOL. -/
def execVol (level : Int) (fade : Option Int) (s : State) : Answer := arrives (.vol level fade) s

/-- R115: MUTE_ON. -/
def execMuteOn (s : State) : Answer := arrives .muteOn s

/-- R115: MUTE_OFF. -/
def execMuteOff (s : State) : Answer := arrives .muteOff s

/-- R121: ASK_TAPE. -/
def execAskTape (s : State) : Answer := arrives .askTape s

/-- R102: TAPE_OUT. -/
def execTapeOut (s : State) : Answer := happens tapeRemoved s

/-- R102: TAPE_IN. -/
def execTapeIn (s : State) : Answer := happens tapeInserted s

/-- R103: TAPE_PULSE. -/
def execTapePulse (s : State) : Answer := happens reelPulse s

/-- R104: REVERSE_GUARD_END. -/
def execReverseGuardEnd (s : State) : Answer := happens restReached s

/-- R105: END_OF_TAPE. -/
def execEndOfTape (s : State) : Answer := happens tapeEnds s

/-- R114: VOLUME_UPDATE. -/
def execVolumeUpdate (s : State) : Answer := happens runVolumeUpdate s

end Sys2Proof.Machine
end

