-- ==== Sys2Proof/Machine/ExecTones.lean ====
section
/-! DEFINITION. The meanings of the commands of the cue unit (chapter 06), one for each row of the opcode table. -/

namespace Sys2Proof.Machine

/-- R138: TONE. -/
def execTone (d : Int) (items : List ToneItem) (s : State) : Answer := arrives (.tone d items) s

/-- R139: CUEMAP_SET. -/
def execCuemapSet (d : Int) (length : LengthClass) (action : CueAction) (s : State) : Answer :=
  arrives (.cuemapSet d length action) s

/-- R139: CUEMAP_READ. -/
def execCuemapRead (d : Int) (length : LengthClass) (s : State) : Answer := arrives (.cuemapRead d length) s

/-- R140: CUEWRITE. -/
def execCuewrite (d : Int) (length : LengthClass) (s : State) : Answer := arrives (.cuewrite d length) s

/-- R141: CUELOG. -/
def execCuelog (n : Option Int) (before : Option Int) (s : State) : Answer := arrives (.cuelog n before) s

/-- R141: CUELOG_COUNTS. -/
def execCuelogCounts (s : State) : Answer := arrives .cuelogCounts s

/-- R123: DETECTOR_WINDOW_END. -/
def execDetectorWindowEnd (d : Detector) (s : State) : Answer := happens (windowEnds d) s

/-- R136: CUE_WRITTEN. -/
def execCueWritten (s : State) : Answer := happens writeCompletes s

/-- R123: RISING_CROSSING. -/
def execRisingCrossing (d : Detector) (s : State) : Answer := happens (countCrossing d) s

end Sys2Proof.Machine
end

