-- ==== Sys2Proof/Machine/Dispatch.lean ====
section
/-! DEFINITION. One arm for each command, each a direct call of its meaning. -/

namespace Sys2Proof.Machine

def exec (i : Instr) (s : State) : Host.Outcome State Fault Refusal :=
  match i with
  | .hardReset pins => Sys2Proof.Machine.execHardReset pins s
  | .softReset => Sys2Proof.Machine.execSoftReset s
  | .characterReceived c => Sys2Proof.Machine.execCharacterReceived c s
  | .transmitLineEnd => Sys2Proof.Machine.execTransmitLineEnd s
  | .lineRefusedForm fault => Sys2Proof.Machine.execLineRefusedForm fault s
  | .set name value => Sys2Proof.Machine.execSet name value s
  | .askSetting name => Sys2Proof.Machine.execAskSetting name s
  | .askLine => Sys2Proof.Machine.execAskLine s
  | .report sel => Sys2Proof.Machine.execReport sel s
  | .reset => Sys2Proof.Machine.execReset s
  | .goto slot => Sys2Proof.Machine.execGoto slot s
  | .move k => Sys2Proof.Machine.execMove k s
  | .park => Sys2Proof.Machine.execPark s
  | .home => Sys2Proof.Machine.execHome s
  | .askSlide => Sys2Proof.Machine.execAskSlide s
  | .indexPulse zero => Sys2Proof.Machine.execIndexPulse zero s
  | .topSwitchChange closed => Sys2Proof.Machine.execTopSwitchChange closed s
  | .seatSwitchChange closed => Sys2Proof.Machine.execSeatSwitchChange closed s
  | .gateBarrierChange interrupted => Sys2Proof.Machine.execGateBarrierChange interrupted s
  | .motorDeadTimeEnd motor => Sys2Proof.Machine.execMotorDeadTimeEnd motor s
  | .motorBlankingEnd => Sys2Proof.Machine.execMotorBlankingEnd s
  | .motorCurrentChange high => Sys2Proof.Machine.execMotorCurrentChange high s
  | .overcurrentDeglitchEnd => Sys2Proof.Machine.execOvercurrentDeglitchEnd s
  | .phaseTimeout => Sys2Proof.Machine.execPhaseTimeout s
  | .backoffDriveEnd => Sys2Proof.Machine.execBackoffDriveEnd s
  | .settleEnd => Sys2Proof.Machine.execSettleEnd s
  | .trayOut => Sys2Proof.Machine.execTrayOut s
  | .trayIn zero => Sys2Proof.Machine.execTrayIn zero s
  | .lamp level fade => Sys2Proof.Machine.execLamp level fade s
  | .curveLoad point duty => Sys2Proof.Machine.execCurveLoad point duty s
  | .curveRead point => Sys2Proof.Machine.execCurveRead point s
  | .lampmodShift => Sys2Proof.Machine.execLampmodShift s
  | .lampmodAuto on => Sys2Proof.Machine.execLampmodAuto on s
  | .lampmodReplace pos => Sys2Proof.Machine.execLampmodReplace pos s
  | .lampmodRemove pos => Sys2Proof.Machine.execLampmodRemove pos s
  | .askLamp => Sys2Proof.Machine.execAskLamp s
  | .lampUpdate => Sys2Proof.Machine.execLampUpdate s
  | .lampCurrentChange current => Sys2Proof.Machine.execLampCurrentChange current s
  | .openTimerExpiry => Sys2Proof.Machine.execOpenTimerExpiry s
  | .shiftSwitchChange position => Sys2Proof.Machine.execShiftSwitchChange position s
  | .shiftTimeout => Sys2Proof.Machine.execShiftTimeout s
  | .powerOn => Sys2Proof.Machine.execPowerOn s
  | .powerOff => Sys2Proof.Machine.execPowerOff s
  | .askHeat => Sys2Proof.Machine.execAskHeat s
  | .thermalPeriod reading => Sys2Proof.Machine.execThermalPeriod reading s
  | .fanTachPulse => Sys2Proof.Machine.execFanTachPulse s
  | .riseStep => Sys2Proof.Machine.execRiseStep s
  | .tapePlay => Sys2Proof.Machine.execTapePlay s
  | .tapePause => Sys2Proof.Machine.execTapePause s
  | .tapeStop => Sys2Proof.Machine.execTapeStop s
  | .tapeFwd => Sys2Proof.Machine.execTapeFwd s
  | .tapeRew => Sys2Proof.Machine.execTapeRew s
  | .tapeCuerec => Sys2Proof.Machine.execTapeCuerec s
  | .locate count play => Sys2Proof.Machine.execLocate count play s
  | .zero => Sys2Proof.Machine.execZero s
  | .vol level fade => Sys2Proof.Machine.execVol level fade s
  | .muteOn => Sys2Proof.Machine.execMuteOn s
  | .muteOff => Sys2Proof.Machine.execMuteOff s
  | .askTape => Sys2Proof.Machine.execAskTape s
  | .tapeOut => Sys2Proof.Machine.execTapeOut s
  | .tapeIn => Sys2Proof.Machine.execTapeIn s
  | .tapePulse => Sys2Proof.Machine.execTapePulse s
  | .reverseGuardEnd => Sys2Proof.Machine.execReverseGuardEnd s
  | .endOfTape => Sys2Proof.Machine.execEndOfTape s
  | .volumeUpdate => Sys2Proof.Machine.execVolumeUpdate s
  | .tone d items => Sys2Proof.Machine.execTone d items s
  | .cuemapSet d length action => Sys2Proof.Machine.execCuemapSet d length action s
  | .cuemapRead d length => Sys2Proof.Machine.execCuemapRead d length s
  | .cuewrite d length => Sys2Proof.Machine.execCuewrite d length s
  | .cuelog n before => Sys2Proof.Machine.execCuelog n before s
  | .cuelogCounts => Sys2Proof.Machine.execCuelogCounts s
  | .detectorWindowEnd d => Sys2Proof.Machine.execDetectorWindowEnd d s
  | .cueWritten => Sys2Proof.Machine.execCueWritten s
  | .keyaddr addr => Sys2Proof.Machine.execKeyaddr addr s
  | .focusIn ms => Sys2Proof.Machine.execFocusIn ms s
  | .focusOut ms => Sys2Proof.Machine.execFocusOut ms s
  | .focusStop => Sys2Proof.Machine.execFocusStop s
  | .askKeys => Sys2Proof.Machine.execAskKeys s
  | .irDataFrame frame => Sys2Proof.Machine.execIrDataFrame frame s
  | .irRepeatFrame frame => Sys2Proof.Machine.execIrRepeatFrame frame s
  | .irFrameInvalid segments => Sys2Proof.Machine.execIrFrameInvalid segments s
  | .keyReleaseTimeout => Sys2Proof.Machine.execKeyReleaseTimeout s
  | .digitsExpired => Sys2Proof.Machine.execDigitsExpired s
  | .wiredInputChange key closed => Sys2Proof.Machine.execWiredInputChange key closed s
  | .wiredDebounceEnd key => Sys2Proof.Machine.execWiredDebounceEnd key s
  | .focusRestEnd => Sys2Proof.Machine.execFocusRestEnd s
  | .focusBlankingEnd => Sys2Proof.Machine.execFocusBlankingEnd s
  | .focusCurrentChange high => Sys2Proof.Machine.execFocusCurrentChange high s
  | .focusRunEnd => Sys2Proof.Machine.execFocusRunEnd s
  | .stepdef n keep fields => Sys2Proof.Machine.execStepdef n keep fields s
  | .stepdel n => Sys2Proof.Machine.execStepdel n s
  | .stepask n => Sys2Proof.Machine.execStepask n s
  | .showRun => Sys2Proof.Machine.execShowRun s
  | .showStop => Sys2Proof.Machine.execShowStop s
  | .showHold => Sys2Proof.Machine.execShowHold s
  | .showResume => Sys2Proof.Machine.execShowResume s
  | .showStatus => Sys2Proof.Machine.execShowStatus s
  | .dwellExpiry => Sys2Proof.Machine.execDwellExpiry s
  | .next => Sys2Proof.Machine.execNext s
  | .back => Sys2Proof.Machine.execBack s
  | .jump n => Sys2Proof.Machine.execJump n s
  | .permitSet source mode value => Sys2Proof.Machine.execPermitSet source mode value s
  | .permitRead source mode => Sys2Proof.Machine.execPermitRead source mode s
  | .permitStatus => Sys2Proof.Machine.execPermitStatus s
  | .clear kind => Sys2Proof.Machine.execClear kind s
  | .faultmodeSet kind mode => Sys2Proof.Machine.execFaultmodeSet kind mode s
  | .faultmodeRead kind => Sys2Proof.Machine.execFaultmodeRead kind s
  | .askFaults => Sys2Proof.Machine.execAskFaults s
  | .supplyComparatorChange good => Sys2Proof.Machine.execSupplyComparatorChange good s
  | .supplyDeglitchEnd => Sys2Proof.Machine.execSupplyDeglitchEnd s
  | .supplyRetryEnd => Sys2Proof.Machine.execSupplyRetryEnd s
  | .risingCrossing d => Sys2Proof.Machine.execRisingCrossing d s

end Sys2Proof.Machine
end

