-- ==== Sys2Proof/Laws/State.lean ====
section
/-! SUPPORT. What each update of the state leaves in each field, true by definition, and when two states are equal. -/

namespace Sys2Proof.Machine

section
variable (f : Pins → Pins) (s : State)
@[simp] theorem State.onPins_pins : (s.onPins f).pins = f s.pins := rfl
@[simp] theorem State.onPins_now : (s.onPins f).now = s.now := rfl
@[simp] theorem State.onPins_line : (s.onPins f).line = s.line := rfl
@[simp] theorem State.onPins_changer : (s.onPins f).changer = s.changer := rfl
@[simp] theorem State.onPins_lamp : (s.onPins f).lamp = s.lamp := rfl
@[simp] theorem State.onPins_heat : (s.onPins f).heat = s.heat := rfl
@[simp] theorem State.onPins_tape : (s.onPins f).tape = s.tape := rfl
@[simp] theorem State.onPins_cue : (s.onPins f).cue = s.cue := rfl
@[simp] theorem State.onPins_keys : (s.onPins f).keys = s.keys := rfl
@[simp] theorem State.onPins_engine : (s.onPins f).engine = s.engine := rfl
@[simp] theorem State.onPins_triggers : (s.onPins f).triggers = s.triggers := rfl
@[simp] theorem State.onPins_faults : (s.onPins f).faults = s.faults := rfl
@[simp] theorem State.onPins_signals : (s.onPins f).signals = s.signals := rfl
@[simp] theorem State.onPins_pending : (s.onPins f).pending = s.pending := rfl
end

section
variable (f : Line → Line) (s : State)
@[simp] theorem State.onLine_pins : (s.onLine f).pins = s.pins := rfl
@[simp] theorem State.onLine_now : (s.onLine f).now = s.now := rfl
@[simp] theorem State.onLine_line : (s.onLine f).line = f s.line := rfl
@[simp] theorem State.onLine_changer : (s.onLine f).changer = s.changer := rfl
@[simp] theorem State.onLine_lamp : (s.onLine f).lamp = s.lamp := rfl
@[simp] theorem State.onLine_heat : (s.onLine f).heat = s.heat := rfl
@[simp] theorem State.onLine_tape : (s.onLine f).tape = s.tape := rfl
@[simp] theorem State.onLine_cue : (s.onLine f).cue = s.cue := rfl
@[simp] theorem State.onLine_keys : (s.onLine f).keys = s.keys := rfl
@[simp] theorem State.onLine_engine : (s.onLine f).engine = s.engine := rfl
@[simp] theorem State.onLine_triggers : (s.onLine f).triggers = s.triggers := rfl
@[simp] theorem State.onLine_faults : (s.onLine f).faults = s.faults := rfl
@[simp] theorem State.onLine_signals : (s.onLine f).signals = s.signals := rfl
@[simp] theorem State.onLine_pending : (s.onLine f).pending = s.pending := rfl
end

section
variable (f : Changer → Changer) (s : State)
@[simp] theorem State.onChanger_pins : (s.onChanger f).pins = s.pins := rfl
@[simp] theorem State.onChanger_now : (s.onChanger f).now = s.now := rfl
@[simp] theorem State.onChanger_line : (s.onChanger f).line = s.line := rfl
@[simp] theorem State.onChanger_changer : (s.onChanger f).changer = f s.changer := rfl
@[simp] theorem State.onChanger_lamp : (s.onChanger f).lamp = s.lamp := rfl
@[simp] theorem State.onChanger_heat : (s.onChanger f).heat = s.heat := rfl
@[simp] theorem State.onChanger_tape : (s.onChanger f).tape = s.tape := rfl
@[simp] theorem State.onChanger_cue : (s.onChanger f).cue = s.cue := rfl
@[simp] theorem State.onChanger_keys : (s.onChanger f).keys = s.keys := rfl
@[simp] theorem State.onChanger_engine : (s.onChanger f).engine = s.engine := rfl
@[simp] theorem State.onChanger_triggers : (s.onChanger f).triggers = s.triggers := rfl
@[simp] theorem State.onChanger_faults : (s.onChanger f).faults = s.faults := rfl
@[simp] theorem State.onChanger_signals : (s.onChanger f).signals = s.signals := rfl
@[simp] theorem State.onChanger_pending : (s.onChanger f).pending = s.pending := rfl
end

section
variable (f : Lamp → Lamp) (s : State)
@[simp] theorem State.onLamp_pins : (s.onLamp f).pins = s.pins := rfl
@[simp] theorem State.onLamp_now : (s.onLamp f).now = s.now := rfl
@[simp] theorem State.onLamp_line : (s.onLamp f).line = s.line := rfl
@[simp] theorem State.onLamp_changer : (s.onLamp f).changer = s.changer := rfl
@[simp] theorem State.onLamp_lamp : (s.onLamp f).lamp = f s.lamp := rfl
@[simp] theorem State.onLamp_heat : (s.onLamp f).heat = s.heat := rfl
@[simp] theorem State.onLamp_tape : (s.onLamp f).tape = s.tape := rfl
@[simp] theorem State.onLamp_cue : (s.onLamp f).cue = s.cue := rfl
@[simp] theorem State.onLamp_keys : (s.onLamp f).keys = s.keys := rfl
@[simp] theorem State.onLamp_engine : (s.onLamp f).engine = s.engine := rfl
@[simp] theorem State.onLamp_triggers : (s.onLamp f).triggers = s.triggers := rfl
@[simp] theorem State.onLamp_faults : (s.onLamp f).faults = s.faults := rfl
@[simp] theorem State.onLamp_signals : (s.onLamp f).signals = s.signals := rfl
@[simp] theorem State.onLamp_pending : (s.onLamp f).pending = s.pending := rfl
end

section
variable (f : Heat → Heat) (s : State)
@[simp] theorem State.onHeat_pins : (s.onHeat f).pins = s.pins := rfl
@[simp] theorem State.onHeat_now : (s.onHeat f).now = s.now := rfl
@[simp] theorem State.onHeat_line : (s.onHeat f).line = s.line := rfl
@[simp] theorem State.onHeat_changer : (s.onHeat f).changer = s.changer := rfl
@[simp] theorem State.onHeat_lamp : (s.onHeat f).lamp = s.lamp := rfl
@[simp] theorem State.onHeat_heat : (s.onHeat f).heat = f s.heat := rfl
@[simp] theorem State.onHeat_tape : (s.onHeat f).tape = s.tape := rfl
@[simp] theorem State.onHeat_cue : (s.onHeat f).cue = s.cue := rfl
@[simp] theorem State.onHeat_keys : (s.onHeat f).keys = s.keys := rfl
@[simp] theorem State.onHeat_engine : (s.onHeat f).engine = s.engine := rfl
@[simp] theorem State.onHeat_triggers : (s.onHeat f).triggers = s.triggers := rfl
@[simp] theorem State.onHeat_faults : (s.onHeat f).faults = s.faults := rfl
@[simp] theorem State.onHeat_signals : (s.onHeat f).signals = s.signals := rfl
@[simp] theorem State.onHeat_pending : (s.onHeat f).pending = s.pending := rfl
end

section
variable (f : Tape → Tape) (s : State)
@[simp] theorem State.onTape_pins : (s.onTape f).pins = s.pins := rfl
@[simp] theorem State.onTape_now : (s.onTape f).now = s.now := rfl
@[simp] theorem State.onTape_line : (s.onTape f).line = s.line := rfl
@[simp] theorem State.onTape_changer : (s.onTape f).changer = s.changer := rfl
@[simp] theorem State.onTape_lamp : (s.onTape f).lamp = s.lamp := rfl
@[simp] theorem State.onTape_heat : (s.onTape f).heat = s.heat := rfl
@[simp] theorem State.onTape_tape : (s.onTape f).tape = f s.tape := rfl
@[simp] theorem State.onTape_cue : (s.onTape f).cue = s.cue := rfl
@[simp] theorem State.onTape_keys : (s.onTape f).keys = s.keys := rfl
@[simp] theorem State.onTape_engine : (s.onTape f).engine = s.engine := rfl
@[simp] theorem State.onTape_triggers : (s.onTape f).triggers = s.triggers := rfl
@[simp] theorem State.onTape_faults : (s.onTape f).faults = s.faults := rfl
@[simp] theorem State.onTape_signals : (s.onTape f).signals = s.signals := rfl
@[simp] theorem State.onTape_pending : (s.onTape f).pending = s.pending := rfl
end

section
variable (f : Cue → Cue) (s : State)
@[simp] theorem State.onCue_pins : (s.onCue f).pins = s.pins := rfl
@[simp] theorem State.onCue_now : (s.onCue f).now = s.now := rfl
@[simp] theorem State.onCue_line : (s.onCue f).line = s.line := rfl
@[simp] theorem State.onCue_changer : (s.onCue f).changer = s.changer := rfl
@[simp] theorem State.onCue_lamp : (s.onCue f).lamp = s.lamp := rfl
@[simp] theorem State.onCue_heat : (s.onCue f).heat = s.heat := rfl
@[simp] theorem State.onCue_tape : (s.onCue f).tape = s.tape := rfl
@[simp] theorem State.onCue_cue : (s.onCue f).cue = f s.cue := rfl
@[simp] theorem State.onCue_keys : (s.onCue f).keys = s.keys := rfl
@[simp] theorem State.onCue_engine : (s.onCue f).engine = s.engine := rfl
@[simp] theorem State.onCue_triggers : (s.onCue f).triggers = s.triggers := rfl
@[simp] theorem State.onCue_faults : (s.onCue f).faults = s.faults := rfl
@[simp] theorem State.onCue_signals : (s.onCue f).signals = s.signals := rfl
@[simp] theorem State.onCue_pending : (s.onCue f).pending = s.pending := rfl
end

section
variable (f : Keys → Keys) (s : State)
@[simp] theorem State.onKeys_pins : (s.onKeys f).pins = s.pins := rfl
@[simp] theorem State.onKeys_now : (s.onKeys f).now = s.now := rfl
@[simp] theorem State.onKeys_line : (s.onKeys f).line = s.line := rfl
@[simp] theorem State.onKeys_changer : (s.onKeys f).changer = s.changer := rfl
@[simp] theorem State.onKeys_lamp : (s.onKeys f).lamp = s.lamp := rfl
@[simp] theorem State.onKeys_heat : (s.onKeys f).heat = s.heat := rfl
@[simp] theorem State.onKeys_tape : (s.onKeys f).tape = s.tape := rfl
@[simp] theorem State.onKeys_cue : (s.onKeys f).cue = s.cue := rfl
@[simp] theorem State.onKeys_keys : (s.onKeys f).keys = f s.keys := rfl
@[simp] theorem State.onKeys_engine : (s.onKeys f).engine = s.engine := rfl
@[simp] theorem State.onKeys_triggers : (s.onKeys f).triggers = s.triggers := rfl
@[simp] theorem State.onKeys_faults : (s.onKeys f).faults = s.faults := rfl
@[simp] theorem State.onKeys_signals : (s.onKeys f).signals = s.signals := rfl
@[simp] theorem State.onKeys_pending : (s.onKeys f).pending = s.pending := rfl
end

section
variable (f : Engine → Engine) (s : State)
@[simp] theorem State.onEngine_pins : (s.onEngine f).pins = s.pins := rfl
@[simp] theorem State.onEngine_now : (s.onEngine f).now = s.now := rfl
@[simp] theorem State.onEngine_line : (s.onEngine f).line = s.line := rfl
@[simp] theorem State.onEngine_changer : (s.onEngine f).changer = s.changer := rfl
@[simp] theorem State.onEngine_lamp : (s.onEngine f).lamp = s.lamp := rfl
@[simp] theorem State.onEngine_heat : (s.onEngine f).heat = s.heat := rfl
@[simp] theorem State.onEngine_tape : (s.onEngine f).tape = s.tape := rfl
@[simp] theorem State.onEngine_cue : (s.onEngine f).cue = s.cue := rfl
@[simp] theorem State.onEngine_keys : (s.onEngine f).keys = s.keys := rfl
@[simp] theorem State.onEngine_engine : (s.onEngine f).engine = f s.engine := rfl
@[simp] theorem State.onEngine_triggers : (s.onEngine f).triggers = s.triggers := rfl
@[simp] theorem State.onEngine_faults : (s.onEngine f).faults = s.faults := rfl
@[simp] theorem State.onEngine_signals : (s.onEngine f).signals = s.signals := rfl
@[simp] theorem State.onEngine_pending : (s.onEngine f).pending = s.pending := rfl
end

section
variable (f : Triggers → Triggers) (s : State)
@[simp] theorem State.onTriggers_pins : (s.onTriggers f).pins = s.pins := rfl
@[simp] theorem State.onTriggers_now : (s.onTriggers f).now = s.now := rfl
@[simp] theorem State.onTriggers_line : (s.onTriggers f).line = s.line := rfl
@[simp] theorem State.onTriggers_changer : (s.onTriggers f).changer = s.changer := rfl
@[simp] theorem State.onTriggers_lamp : (s.onTriggers f).lamp = s.lamp := rfl
@[simp] theorem State.onTriggers_heat : (s.onTriggers f).heat = s.heat := rfl
@[simp] theorem State.onTriggers_tape : (s.onTriggers f).tape = s.tape := rfl
@[simp] theorem State.onTriggers_cue : (s.onTriggers f).cue = s.cue := rfl
@[simp] theorem State.onTriggers_keys : (s.onTriggers f).keys = s.keys := rfl
@[simp] theorem State.onTriggers_engine : (s.onTriggers f).engine = s.engine := rfl
@[simp] theorem State.onTriggers_triggers : (s.onTriggers f).triggers = f s.triggers := rfl
@[simp] theorem State.onTriggers_faults : (s.onTriggers f).faults = s.faults := rfl
@[simp] theorem State.onTriggers_signals : (s.onTriggers f).signals = s.signals := rfl
@[simp] theorem State.onTriggers_pending : (s.onTriggers f).pending = s.pending := rfl
end

section
variable (f : Faults → Faults) (s : State)
@[simp] theorem State.onFaults_pins : (s.onFaults f).pins = s.pins := rfl
@[simp] theorem State.onFaults_now : (s.onFaults f).now = s.now := rfl
@[simp] theorem State.onFaults_line : (s.onFaults f).line = s.line := rfl
@[simp] theorem State.onFaults_changer : (s.onFaults f).changer = s.changer := rfl
@[simp] theorem State.onFaults_lamp : (s.onFaults f).lamp = s.lamp := rfl
@[simp] theorem State.onFaults_heat : (s.onFaults f).heat = s.heat := rfl
@[simp] theorem State.onFaults_tape : (s.onFaults f).tape = s.tape := rfl
@[simp] theorem State.onFaults_cue : (s.onFaults f).cue = s.cue := rfl
@[simp] theorem State.onFaults_keys : (s.onFaults f).keys = s.keys := rfl
@[simp] theorem State.onFaults_engine : (s.onFaults f).engine = s.engine := rfl
@[simp] theorem State.onFaults_triggers : (s.onFaults f).triggers = s.triggers := rfl
@[simp] theorem State.onFaults_faults : (s.onFaults f).faults = f s.faults := rfl
@[simp] theorem State.onFaults_signals : (s.onFaults f).signals = s.signals := rfl
@[simp] theorem State.onFaults_pending : (s.onFaults f).pending = s.pending := rfl
end

section
variable (sig : Signal) (s : State)
@[simp] theorem State.emit_pins : (s.emit sig).pins = s.pins := rfl
@[simp] theorem State.emit_now : (s.emit sig).now = s.now := rfl
@[simp] theorem State.emit_line : (s.emit sig).line = s.line := rfl
@[simp] theorem State.emit_changer : (s.emit sig).changer = s.changer := rfl
@[simp] theorem State.emit_lamp : (s.emit sig).lamp = s.lamp := rfl
@[simp] theorem State.emit_heat : (s.emit sig).heat = s.heat := rfl
@[simp] theorem State.emit_tape : (s.emit sig).tape = s.tape := rfl
@[simp] theorem State.emit_cue : (s.emit sig).cue = s.cue := rfl
@[simp] theorem State.emit_keys : (s.emit sig).keys = s.keys := rfl
@[simp] theorem State.emit_engine : (s.emit sig).engine = s.engine := rfl
@[simp] theorem State.emit_triggers : (s.emit sig).triggers = s.triggers := rfl
@[simp] theorem State.emit_faults : (s.emit sig).faults = s.faults := rfl
@[simp] theorem State.emit_signals : (s.emit sig).signals = s.signals ++ [sig] := rfl
@[simp] theorem State.emit_pending : (s.emit sig).pending = s.pending := rfl
end

section
variable (cls : ReportClass) (fields : List Field) (s : State)
@[simp] theorem State.report_pins : (s.report cls fields).pins = s.pins := rfl
@[simp] theorem State.report_now : (s.report cls fields).now = s.now := rfl
@[simp] theorem State.report_line : (s.report cls fields).line = s.line.offer cls fields := rfl
@[simp] theorem State.report_changer : (s.report cls fields).changer = s.changer := rfl
@[simp] theorem State.report_lamp : (s.report cls fields).lamp = s.lamp := rfl
@[simp] theorem State.report_heat : (s.report cls fields).heat = s.heat := rfl
@[simp] theorem State.report_tape : (s.report cls fields).tape = s.tape := rfl
@[simp] theorem State.report_cue : (s.report cls fields).cue = s.cue := rfl
@[simp] theorem State.report_keys : (s.report cls fields).keys = s.keys := rfl
@[simp] theorem State.report_engine : (s.report cls fields).engine = s.engine := rfl
@[simp] theorem State.report_triggers : (s.report cls fields).triggers = s.triggers := rfl
@[simp] theorem State.report_faults : (s.report cls fields).faults = s.faults := rfl
@[simp] theorem State.report_signals : (s.report cls fields).signals = s.signals := rfl
@[simp] theorem State.report_pending : (s.report cls fields).pending = s.pending := rfl
end

/-- States with equal fields are equal. -/
theorem State.eq_of_fields {s t : State} (pins : s.pins = t.pins) (now : s.now = t.now) (line : s.line = t.line)
    (changer : s.changer = t.changer) (lamp : s.lamp = t.lamp) (heat : s.heat = t.heat) (tape : s.tape = t.tape)
    (cue : s.cue = t.cue) (keys : s.keys = t.keys) (engine : s.engine = t.engine) (triggers : s.triggers = t.triggers)
    (faults : s.faults = t.faults) (signals : s.signals = t.signals) (pending : s.pending = t.pending) : s = t := by
  cases s; cases t; simp_all

/-- The state with an empty list of tellings, where it is empty already. -/
@[simp] theorem State.signals_nil {s : State} (h : s.signals = []) : { s with signals := [] } = s := by
  cases s; simp_all

end Sys2Proof.Machine
end

