-- ==== Sys2Proof/Safety.lean ====
section
/-! DEFINITION. What holds of the part between commands: the line is free to take a request, what a hold, a resumption, an
abandoned burst and a step of the show leave, the invariants that every step keeps, and the shedding of the power stage. -/

namespace Sys2Proof.Machine

/-! ## The line is free -/

/-- Between commands no line is being taken and no telling waits (the model's own fields). -/
abbrev Between (s : State) : Prop := s.line.taking = false ∧ s.signals = []

/-- R4: a line that completes now is taken at once. -/
abbrev LineFree (s : State) : Prop :=
  s.line.slot = none ∧ s.line.resetPending = false ∧ s.line.buffer = [] ∧ Between s

/-- R7: a reply has been placed in the slot, and an idle transmitter has made its choice. -/
def State.answered (s : State) (r : Reply) : State := s.onLine fun l => Line.choose { l with slot := some r }

/-- R4: the state in which a line is being taken: an idle transmitter waits for the reply (the model's own mark). -/
def State.busyLine (s : State) : State := s.onLine fun l => { l with taking := true }

/-- R4, R6, R7: a line that is taken at once: its effect, in which no report reaches an idle transmitter, then its reply in
the slot and the choice of an idle transmitter. -/
def State.takes (effect : State → State) (reply : Reply) (s : State) : State :=
  (effect s.busyLine).onLine fun l => Line.choose { l with slot := some reply, taking := false }

/-! ## The changer at rest -/

/-- The changer rests at a known slot with its arm seated, no change in flight, and its gate motor free to start. -/
abbrev SeatedAtRest (s : State) : Prop :=
  s.changer.state = .idle ∧ s.changer.status = .known ∧ s.changer.inFlight = none ∧ s.changer.pendingTarget = none ∧
    s.changer.gateDrive = none ∧ s.changer.gateDead = none ∧ s.pins.topSwitch = false ∧ s.pins.seatSwitch = true ∧
    s.changer.arm = .seated ∧ s.changer.occupancy = occupancyOf .seated s.pins.barrier

/-- R25, R26: a change to a target begins with its LIFT: the gate motor drives up, and the phase timeout and the blanking
time start. -/
def Changer.liftFor (t : Target) (c : Changer) : Changer :=
  { c with
    state := .lifting, inFlight := some t, retries := 0, homes := false, keepCount := false, retryPhase := none
    homingCount := 0, phaseTimer := some 0, gateDrive := some .up, blanking := some 0, deglitch := none
    startDue := false }

/-- The arm rests at its LIFTED switch, with the gate motor off and nothing being retried: the tray may turn. -/
abbrev LiftedAtWork (s : State) : Prop :=
  s.pins.topSwitch = true ∧ s.pins.seatSwitch = false ∧ s.changer.arm = .lifted ∧ s.changer.occupancy = .empty ∧
    s.changer.gateDrive = none ∧ s.changer.retryPhase = none

/-! ## A step of the show -/

/-- R52: the lamp ramp of a step: from the present ramp value to a level, over a whole number of tens of milliseconds. -/
def Lamp.rampsTo (level duration : Nat) (l : Lamp) : Lamp :=
  { l with
    ramp := ⟨l.value, level, duration / 10 * 10, 0, some .show, true⟩
    requested := level
    lastLit := if 0 < level then level else l.lastLit }

/-- R170: the execution record of a step just entered, with nothing awaited yet. -/
def Execution.entered (step : Nat) (reason : EntryReason) (target : Option Nat) (phase : StepPhase) : Execution :=
  { step := step, reason := reason, target := target, phase := phase, rampAwaited := false, changeAwaited := false
    tape := .none, deferred := .none, catchUp := false, dwell := none, dwellRuns := false }

/-- R175: a step with no slide, no sound and no tape action, whose fade-in takes time. -/
abbrev PlainStep (st : Step) : Prop := st.slide = none ∧ st.sound = none ∧ st.tape = none ∧ 10 ≤ st.fadeIn

/-- R177: nothing but the lamp ramp holds the step back from settling. -/
abbrev AwaitsOnlyItsRamp (x : Execution) : Prop :=
  x.changeAwaited = false ∧ (x.tape = .none ∨ x.tape = .ready) ∧ x.deferred = .none

/-! ## The cue unit -/

/-- R125, R126: no burst is in progress and no result waits to settle. -/
abbrev CueQuiet (c : Cue) : Prop := ∀ d : Fin 3, c.units[d].classifier = .quiet ∧ c.units[d].awaiting = []

/-- R129: the cue unit `c'` is `c` with its detection ended while it was quiet: no window runs, and only raw HIT windows that
are no longer needed may have been forgotten. -/
abbrev DetectionEnded (c c' : Cue) : Prop :=
  c' = { c with detecting := false, units := c'.units } ∧
    ∀ d : Fin 3, c'.units[d] =
      { c.units[d] with window := none, hopLong := false, hitWindows := c'.units[d].hitWindows }

/-- R136: the cue unit after a burst in progress, if there is one, has been abandoned at an instant. -/
def Cue.abandoned (now : Nat) (c : Cue) : Cue :=
  match c.writer with
  | none => c
  | some w => { c with
      writer := none
      units := c.units.set w.symbol.detector { c.units[w.symbol.detector] with lastWritten := some now } }

/-- R136: *CUE WRITE,ABANDONED,symbol,ms, with the milliseconds of the burst that were written. -/
def Writing.abandonedFields (w : Writing) : List Field :=
  [fw "WRITE", fw "ABANDONED", fw (detectorWord w.symbol.detector), fw w.symbol.length.word,
    fi ((match w.symbol.length with | .short => 120 | .long => 400) - w.remaining : Nat)]

/-! ## Holding and resuming the show -/

/-- R178: *SHOW HELD,causes. -/
def heldFields (cs : List Cause) : List Field := [fw "HELD", { parts := cs.map fun c => Atom.word c.word }]

/-- R113, R178, R179: the show becomes HELD by a set of causes: its report, the dwell stopped, the pause reason SHOW and the
hold fade. -/
def State.heldFor (cs : List Cause) (s : State) : State :=
  { s.report .show (heldFields cs) with
    engine := { s.engine with
      state := .held, causes := cs, execution := s.engine.execution.map fun x => { x with dwellRuns := false } }
    tape := { s.tape with
      reasons := { s.tape.reasons with byShow := true }, resume := s.tape.ramp.target
      ramp := ⟨s.tape.value, 0, 500, 0, .hold, true⟩ }
    triggers := { s.triggers with toldShow := .held } }

/-- R112: a tape at rest in a hold pause plays again. -/
def Tape.playsAgain (t : Tape) : Tape :=
  { t with
    state := .playing, motor := .play, lastDir := .forward, endTimer := 0, holdPause := false
    delivered := if t.mute then 0 else t.value }

/-- R112, R113, R180: the show resumes with nothing to send: its report, the dwell running again, the pause reason SHOW gone, a
tape that SHOW alone held playing again, and the resume fade. The cue unit, which listens again with the tape, stands
apart; for the guard see log entry 36. -/
def State.runsAgain (s : State) : State :=
  let plays := s.tape.state = .paused ∧ s.tape.holdPause = true ∧ s.tape.reasons = ⟨false, true, false⟩
  let tape : Tape := { s.tape with
    guard := s.tape.guardAtRun, reasons := { s.tape.reasons with byShow := false }
    ramp := ⟨s.tape.value, s.tape.resume, 500, 0, .hold, true⟩ }
  let told : State := s.report .show [fw "RUNNING"]
  { (if plays then told.report .tape [fw "PLAYING"] else told) with
    engine := { s.engine with
      state := .running, causes := []
      execution := s.engine.execution.map fun x => { x with dwellRuns := x.phase == .settled && x.dwell.isSome } }
    tape := if plays then tape.playsAgain else tape
    triggers := { s.triggers with toldShow := .running, toldTape := if plays then .playing else s.triggers.toldTape } }

/-- R194: the trigger queue's hold neither falls due nor ends when the show becomes HELD. -/
abbrev QueueHoldStays (t : Triggers) : Prop :=
  t.hold = false ∨ (t.tapeHold = true ∧ t.releaseAt < t.queue.length)

/-- R180, R191: the step in progress has nothing put off, and no record that a resumed show would hand over. -/
abbrev NothingPutOff (s : State) : Prop :=
  ∃ x, s.engine.execution = some x ∧ x.deferred = .none ∧ x.changeAwaited = false ∧ x.tape ≠ .owed ∧
    (x.phase ≠ .settled ∨ s.triggers.queue = [])

/-! ## Invariants -/

/-- R2, R3, R9: the receiver, the buffer and the queue keep their sizes, and the counts their ceiling. -/
abbrev LineBounded (l : Line) : Prop :=
  l.receiver.count ≤ Config.lineLength ∧ l.buffer.length ≤ Config.bufferPlaces ∧ l.queue.length ≤ Config.reportPlaces ∧
    l.pendingLines ≤ Config.max16 ∧ l.pendingReports ≤ Config.max16 ∧ l.totalLines ≤ Config.max16 ∧
    l.totalReports ≤ Config.max16

/-- R4, R7: an idle transmitter has nothing to send, and a line waits only while it cannot be taken. -/
abbrev LineServed (l : Line) : Prop :=
  (l.transmitter = none → l.slot = none ∧ l.queue = []) ∧ (l.buffer ≠ [] → l.slot ≠ none ∨ l.resetPending = true)

/-- The invariant of the control line interface. -/
abbrev LineOk (s : State) : Prop := Between s ∧ LineBounded s.line ∧ LineServed s.line

/-- R61, R62: a lamp record is ACTIVE only at the position in the light path, so at most one is. -/
abbrev ActiveAtPath (l : Lamp) : Prop :=
  (l.primary.state = .active → l.path = some .primary) ∧ (l.spare.state = .active → l.path = some .spare)

/-- R59: where a row of the table makes the applied duty 0, it is 0. -/
abbrev DarkIsDark (s : State) : Prop := lampDark s = true → s.lamp.duty = 0

/-- R56: while GUARD is ON and occupancy is not SLIDE, the guard and the delivered level are 0 and no recovery runs. -/
abbrev GuardedIsDark (s : State) : Prop :=
  s.lamp.guardOn = true → s.changer.occupancy ≠ .slide →
    s.lamp.guard = 0 ∧ s.lamp.level = 0 ∧ s.lamp.recovery = none

/-- The invariant of the lamp. -/
abbrev LampOk (s : State) : Prop := ActiveAtPath s.lamp ∧ DarkIsDark s ∧ GuardedIsDark s

/-- R20: the gate record follows the switches, the barrier and the gate motor's drive. -/
abbrev GateFollows (s : State) : Prop :=
  s.changer.arm = armOf s.pins.topSwitch s.pins.seatSwitch s.changer.gateDrive.isSome ∧
    s.changer.occupancy = occupancyOf s.changer.arm s.pins.barrier

/-- R23, R24: one motor at a time, the tray motor only with the arm LIFTED; a motor is driven only when the state of the
changer calls for that motor, and not in its own dead time. -/
abbrev MotorsDisciplined (c : Changer) : Prop :=
  (c.trayDrive.isSome = true →
    c.gateDrive = none ∧ c.arm = .lifted ∧ c.wanted.map Drive.motor = some .tray ∧ c.trayDead = none) ∧
  (c.gateDrive.isSome = true → c.trayDrive = none ∧ c.wanted.map Drive.motor = some .gate ∧ c.gateDead = none)

/-- R41, R43: NO_TRAY is the state, or the state that HALTED interrupted, only without a tray. -/
abbrev NoTrayMeansNone (c : Changer) : Prop := c.heldOrState = .noTray → c.trayPresent = false

/-- R23: a start waits only where the state calls for a drive. -/
abbrev StartsAreWanted (c : Changer) : Prop := c.startDue = true → c.wanted.isSome = true

/-- The invariant of the changer. -/
abbrev ChangerOk (s : State) : Prop :=
  GateFollows s ∧ MotorsDisciplined s.changer ∧ NoTrayMeansNone s.changer ∧ StartsAreWanted s.changer

/-- R115: the delivered volume is 0 unless the tape is heard and the mute is OFF. -/
abbrev SilentIsSilent (t : Tape) : Prop := t.delivered ≠ 0 → t.mute = false ∧ t.state.listening = true

/-- R103, R104: the counter keeps its limits, the rest time holds at 300 ms, a driven motor belongs to its state, and what
waits in the guard is a state that the tape is driven in. -/
abbrev TransportOk (t : Tape) : Prop :=
  -Config.tapeLimit ≤ t.counter ∧ t.counter ≤ Config.tapeLimit ∧ t.rest ≤ Config.reverseGuard ∧
    (t.motor = .play ↔ t.state.listening = true) ∧ (t.holdPause = true → t.state = .paused) ∧
    (t.locate.isSome = true ↔ t.state = .locating) ∧ (t.guard.isSome = true → t.state = .stopped ∧ t.motor = .off) ∧
    (t.guard.all fun st => driveOf st != .off) = true ∧ (t.present = false ↔ t.state = .noTape) ∧
    (t.state = .noTape → t.motor = .off)

/-- The invariant of the transport controller. -/
abbrev TapeOk (s : State) : Prop := SilentIsSilent s.tape ∧ TransportOk s.tape

/-- R43: the changer is HALTED, JAMMED or NO_TRAY, with its motors off. -/
abbrev ChangerStopped (c : Changer) : Prop :=
  (c.state = .halted ∨ c.state = .jammed ∨ c.state = .noTray) ∧ c.trayDrive = none ∧ c.gateDrive = none

/-- R116: the tape is at rest, no start waits, and SUPPLY is a pause reason. -/
abbrev TapeStopped (t : Tape) : Prop :=
  t.motor = .off ∧ t.state.listening = false ∧ t.guard = none ∧ t.locate = none ∧ t.reasons.bySupply = true

/-- R64, R69: the lamp is dark, its shift motor stands, and no open timer runs. -/
abbrev LampShed (l : Lamp) : Prop :=
  l.duty = 0 ∧ l.openTimer = none ∧ (l.shift.all fun sh => !sh.driven) = true

/-- R207: while SUPPLY_LOW is active every load of the power stage is shed. -/
abbrev PowerStageShed (s : State) : Prop :=
  s.supplyLow = true →
    LampShed s.lamp ∧ ChangerStopped s.changer ∧ TapeStopped s.tape ∧ s.keys.focus = none ∧ s.cue.writer = none

/-- The invariant of the power stage, with those of the blocks that it feeds. -/
abbrev PowerOk (s : State) : Prop := ChangerOk s ∧ TapeOk s ∧ PowerStageShed s

/-- R186: the queue holds at most 8 records, and every record that entered was taken, was flushed or is present. -/
abbrev QueueOk (s : State) : Prop :=
  s.triggers.queue.length ≤ Config.queuePlaces ∧
    s.triggers.counters.entered =
      (s.triggers.counters.taken + s.triggers.counters.flushed + s.triggers.queue.length) % Config.wrap32 ∧
    s.triggers.toldShow = s.engine.state ∧ s.triggers.toldTape = s.tape.state

/-- R108, R187: while the show is RUNNING or HELD the transport is not in CUE_RECORD. That no start of CUE_RECORD waits in the
guard then either is the model's choice (log entry 36): the rules speak of the state CUE_RECORD alone. -/
abbrev NoRecordingInAShow (s : State) : Prop :=
  s.engine.state.inShow = true → s.tape.state ≠ .cueRecord ∧ s.tape.guard ≠ some .cueRecord

/-- R203: the fault line is asserted while any record is active and released while none is. -/
abbrev FaultLineOk (s : State) : Prop := s.faults.asserted = s.faults.anyActive

/-- R161, R164, R178: the list holds at most 120 steps and is empty only when the show is EMPTY; a step is in progress
exactly while the show is RUNNING or HELD; a held show has a cause and a running one has none. -/
abbrev ShowOk (e : Engine) : Prop :=
  e.steps.length ≤ Config.maxSteps ∧ (e.steps = [] ↔ e.state = .empty) ∧
    (e.execution.isSome = true ↔ e.state.inShow = true) ∧ (e.state = .held → e.causes ≠ []) ∧
    (e.state = .running → e.causes = []) ∧ e.causes = Cause.all.filter (· ∈ e.causes)

/-- R81, R83, R85: the estimate lies in 0 to 2500, the counts of judged periods and of pulses hold at their ceilings, and the
fan is driven with the duty of its step. -/
abbrev HeatOk (h : Heat) : Prop := 0 ≤ h.estimate ∧ h.estimate ≤ 2500 ∧ h.bad ≤ 3 ∧ h.good ≤ 2 ∧ h.tachNow ≤ 255 ∧ h.fanDuty = fanDutyOf h.set h.fan

/-- R134: the cue log is a ring of 32 entries. -/
abbrev CueLogOk (c : Cue) : Prop := c.log.length ≤ Config.cueLogPlaces ∧ c.nextSeq ≤ Config.max16

/-- R74: the points of the curve do not fall and end at or below 4095. -/
abbrev CurveRises (p : Vector Nat 11) : Prop :=
  p[0] ≤ p[1] ∧ p[1] ≤ p[2] ∧ p[2] ≤ p[3] ∧ p[3] ≤ p[4] ∧ p[4] ≤ p[5] ∧ p[5] ≤ p[6] ∧ p[6] ≤ p[7] ∧ p[7] ≤ p[8] ∧
    p[8] ≤ p[9] ∧ p[9] ≤ p[10] ∧ p[10] ≤ 4095

end Sys2Proof.Machine
end

