-- ==== Sys2Proof/Laws/Line.lean ====
section
/-! SUPPORT. What the operations of the control line interface can do: the offering of a report, the transmitter's choice, the
taking of a line, and the receiving of no telling. -/

namespace Sys2Proof.Machine

/-! ## The transmitter's choice -/

/-- R7: a transmitter that sends a line makes no choice. -/
@[simp] theorem Line.choose_of_sending {l : Line} {x : OutLine} (h : l.transmitter = some x) : l.choose = l := by
  simp [Line.choose, h]

/-- R7: a reply goes before every report. -/
theorem Line.choose_of_reply {l : Line} {r : OutLine} (h : l.transmitter = none) (hs : l.slot = some r) :
    l.choose = { l with transmitter := some r, slot := none } := by
  simp [Line.choose, h, hs]

/-- R7, R10: with no reply, the oldest report is chosen, and the place it frees may take a *LOST line. -/
theorem Line.choose_of_report {l : Line} {q : OutLine} {rest : List OutLine} (h : l.transmitter = none)
    (hs : l.slot = none) (hq : l.queue = q :: rest) :
    l.choose = Line.fillFreed { l with transmitter := some q, queue := rest } := by
  simp [Line.choose, h, hs, hq]

/-- R7: with nothing to send, the transmitter stays idle. -/
theorem Line.choose_of_nothing {l : Line} (h : l.transmitter = none) (hs : l.slot = none) (hq : l.queue = []) :
    l.choose = l := by
  simp [Line.choose, h, hs, hq]

/-- R10: the filling of a freed place leaves everything but the queue and the two pending counts. -/
@[simp] theorem Line.fillFreed_buffer (l : Line) : l.fillFreed.buffer = l.buffer := by
  unfold Line.fillFreed; split <;> (try split) <;> rfl
@[simp] theorem Line.fillFreed_slot (l : Line) : l.fillFreed.slot = l.slot := by
  unfold Line.fillFreed; split <;> (try split) <;> rfl
@[simp] theorem Line.fillFreed_transmitter (l : Line) : l.fillFreed.transmitter = l.transmitter := by
  unfold Line.fillFreed; split <;> (try split) <;> rfl
@[simp] theorem Line.fillFreed_taking (l : Line) : l.fillFreed.taking = l.taking := by
  unfold Line.fillFreed; split <;> (try split) <;> rfl
@[simp] theorem Line.fillFreed_resetPending (l : Line) : l.fillFreed.resetPending = l.resetPending := by
  unfold Line.fillFreed; split <;> (try split) <;> rfl
@[simp] theorem Line.fillFreed_receiver (l : Line) : l.fillFreed.receiver = l.receiver := by
  unfold Line.fillFreed; split <;> (try split) <;> rfl
@[simp] theorem Line.fillFreed_mask (l : Line) : l.fillFreed.mask = l.mask := by
  unfold Line.fillFreed; split <;> (try split) <;> rfl

/-- R7: the choice leaves the receive buffer, the receiver, the mask and the pending reset. -/
@[simp] theorem Line.choose_buffer (l : Line) : l.choose.buffer = l.buffer := by
  unfold Line.choose; split <;> simp
@[simp] theorem Line.choose_taking (l : Line) : l.choose.taking = l.taking := by
  unfold Line.choose; split <;> simp
@[simp] theorem Line.choose_resetPending (l : Line) : l.choose.resetPending = l.resetPending := by
  unfold Line.choose; split <;> simp
@[simp] theorem Line.choose_receiver (l : Line) : l.choose.receiver = l.receiver := by
  unfold Line.choose; split <;> simp
@[simp] theorem Line.choose_mask (l : Line) : l.choose.mask = l.mask := by
  unfold Line.choose; split <;> simp

/-! ## The offering of a report -/

/-- R8: a report of a disabled class is dropped. -/
@[simp] theorem Line.offer_disabled {l : Line} {cls : ReportClass} {fields : List Field} (h : cls ∉ l.mask) :
    l.offer cls fields = l := by
  simp [Line.offer, h]

/-- R9: a report of an enabled class enters a queue with a free place at its tail. -/
theorem Line.offer_enters {l : Line} {cls : ReportClass} {fields : List Field} (h : cls ∈ l.mask)
    (hq : l.queue.length < Config.reportPlaces) :
    l.offer cls fields = Line.chooseUnlessTaking { l with queue := l.queue ++ [.report cls fields] } := by
  simp [Line.offer, h, hq]

/-- R9: a report that finds no free place is discarded and counted. -/
theorem Line.offer_lost {l : Line} {cls : ReportClass} {fields : List Field} (h : cls ∈ l.mask)
    (hq : Config.reportPlaces ≤ l.queue.length) :
    l.offer cls fields =
      { l with
        pendingReports := satInc Config.max16 l.pendingReports, totalReports := satInc Config.max16 l.totalReports } := by
  simp [Line.offer, h, Nat.not_lt.mpr hq]

/-- R9: the choice that a report brings about leaves the receive buffer and the pending reset. -/
@[simp] theorem Line.chooseUnlessTaking_buffer (l : Line) : l.chooseUnlessTaking.buffer = l.buffer := by
  unfold Line.chooseUnlessTaking; split <;> simp
@[simp] theorem Line.chooseUnlessTaking_taking (l : Line) : l.chooseUnlessTaking.taking = l.taking := by
  unfold Line.chooseUnlessTaking; split <;> simp
@[simp] theorem Line.chooseUnlessTaking_resetPending (l : Line) : l.chooseUnlessTaking.resetPending = l.resetPending := by
  unfold Line.chooseUnlessTaking; split <;> simp
@[simp] theorem Line.chooseUnlessTaking_receiver (l : Line) : l.chooseUnlessTaking.receiver = l.receiver := by
  unfold Line.chooseUnlessTaking; split <;> simp
@[simp] theorem Line.chooseUnlessTaking_mask (l : Line) : l.chooseUnlessTaking.mask = l.mask := by
  unfold Line.chooseUnlessTaking; split <;> simp
@[simp] theorem Line.offer_buffer (cls : ReportClass) (fields : List Field) (l : Line) :
    (l.offer cls fields).buffer = l.buffer := by
  unfold Line.offer; split <;> (try split) <;> simp
@[simp] theorem Line.offer_taking (cls : ReportClass) (fields : List Field) (l : Line) :
    (l.offer cls fields).taking = l.taking := by
  unfold Line.offer; split <;> (try split) <;> simp
@[simp] theorem Line.offer_resetPending (cls : ReportClass) (fields : List Field) (l : Line) :
    (l.offer cls fields).resetPending = l.resetPending := by
  unfold Line.offer; split <;> (try split) <;> simp
@[simp] theorem Line.offer_receiver (cls : ReportClass) (fields : List Field) (l : Line) :
    (l.offer cls fields).receiver = l.receiver := by
  unfold Line.offer; split <;> (try split) <;> simp
@[simp] theorem Line.offer_mask (cls : ReportClass) (fields : List Field) (l : Line) :
    (l.offer cls fields).mask = l.mask := by
  unfold Line.offer; split <;> (try split) <;> simp

/-- R4: while a line is being taken, a report that is offered leaves the reply slot and the transmitter. -/
theorem Line.offer_while_taking {l : Line} (cls : ReportClass) (fields : List Field) (h : l.taking = true) :
    (l.offer cls fields).slot = l.slot ∧ (l.offer cls fields).transmitter = l.transmitter := by
  unfold Line.offer Line.chooseUnlessTaking; split <;> (try split) <;> simp_all

/-! ## Tellings -/

/-- Where no telling waits, none is received. -/
@[simp] theorem drain_of_quiet {s : State} (h : s.signals = []) : drain s = s := by
  cases s; simp_all [drain, drainAll]

/-- After the receiving of tellings none waits. -/
@[simp] theorem drain_signals (s : State) : (drain s).signals = [] := rfl

/-- A telling that waits alone, and whose receiver tells nothing further. -/
theorem drain_one {s : State} {sig : Signal} (h : s.signals = [sig])
    (ht : (receive sig { s with signals := [] }).signals = []) : drain s = receive sig { s with signals := [] } := by
  have h1 : drainAll 1000 s = receive sig { s with signals := [] } := by
    rw [drainAll.eq_2, h]
    simp only [ht, List.append_nil]
    rw [show (999 : Nat) = 998 + 1 from rfl, drainAll.eq_2, State.signals_nil ht, ht]
  simp [drain, h1, ht]

/-- An event that tells no other block anything. -/
theorem happens_of_quiet {f : State → State} {s : State} (h : (f s).signals = []) : happens f s = .next (f s) := by
  simp [happens, h]

/-! ## The taking of a line -/

/-- R4: a line that finds the parser free and the buffer empty is taken at once, and the buffer is empty afterwards. -/
theorem offerLine_of_free {x : RxLine} {s : State} (h : LineFree s) (hb : (takeLine x s).line.buffer = []) :
    offerLine x s = takeLine x s := by
  obtain ⟨hs, hr, hbuf, _⟩ := h
  have h0 : (s.onLine fun l => { l with buffer := l.buffer ++ [x] }).onLine (fun l => { l with buffer := [] }) = s := by
    apply State.eq_of_fields <;> simp
    cases hl : s.line; simp_all
  simp [offerLine, hbuf, Config.bufferPlaces, takeWaiting, takeAll, Line.canTake, hs, hr, h0, hb]

/-- R4, R7: what a line does that is taken, where nothing is told to other blocks. -/
theorem takeLine_of_quiet {r : Request} {s : State} (h : (handle r s.busyLine).1.signals = []) :
    takeLine (.request r) s = s.takes (fun s => (handle r s).1) (handle r s.busyLine).2 := by
  simp only [takeLine, readLine, State.takes]
  rw [show (s.onLine fun l => { l with taking := true }) = s.busyLine from rfl, drain_of_quiet h]

/-- R4: a request that arrives at a free line, where nothing is told to other blocks. -/
theorem arrives_of_free {r : Request} {s : State} (h : LineFree s) (hq : (handle r s.busyLine).1.signals = [])
    (hb : (handle r s.busyLine).1.line.buffer = []) :
    arrives r s = .next (s.takes (fun s => (handle r s).1) (handle r s.busyLine).2) := by
  rw [arrives, offerLine_of_free h, takeLine_of_quiet hq]
  rw [takeLine_of_quiet hq]; simp [State.takes, hb]

/-- R4, R6: a request whose effect is nothing: only its reply is placed. -/
theorem State.takes_nothing {s : State} (h : LineFree s) (reply : Reply) : s.takes id reply = s.answered reply := by
  obtain ⟨_, _, _, ht, _⟩ := h
  apply State.eq_of_fields <;> simp [State.takes, State.answered, State.busyLine, ← ht]

/-- R4, R6: a request that arrives at a free line and changes nothing: a refusal, or a reading. -/
theorem arrives_of_reading {r : Request} {reply : Reply} {s : State} (h : LineFree s)
    (hr : handle r s.busyLine = (s.busyLine, reply)) : arrives r s = .next (s.answered reply) := by
  have hq : (handle r s.busyLine).1.signals = [] := by rw [hr]; exact h.2.2.2.2
  have hb : (handle r s.busyLine).1.line.buffer = [] := by rw [hr]; exact h.2.2.1
  rw [arrives_of_free h hq hb, hr, ← State.takes_nothing h]
  simp [State.takes, hr]

/-- R4: a request that arrives at a free line and has the effect `f`, told to no other block; `f` may offer reports. -/
theorem arrives_of_effect {r : Request} {reply : Reply} {s : State} {f : State → State} (h : LineFree s)
    (hr : handle r s.busyLine = (f s.busyLine, reply)) (hq : (f s.busyLine).signals = [])
    (hb : (f s.busyLine).line.buffer = []) : arrives r s = .next (s.takes f reply) := by
  rw [arrives_of_free h (by rw [hr]; exact hq) (by rw [hr]; exact hb)]
  simp [State.takes, hr]

/-- R4: a request that arrives at a free line and leads to the state `t`, no report having been offered. -/
theorem arrives_of_silent {r : Request} {reply : Reply} {s t : State} (h : LineFree s)
    (hr : handle r s.busyLine = (t.busyLine, reply)) (ht : Between t) (hb : t.line.buffer = []) :
    arrives r s = .next (t.answered reply) := by
  rw [arrives_of_effect (f := fun _ => t.busyLine) h hr ht.2 hb]
  congr 1
  have := ht.1
  apply State.eq_of_fields <;> simp [State.takes, State.answered, State.busyLine, ← this]

end Sys2Proof.Machine
end

