-- ==== Sys2Proof/WellFormed.lean ====
section
/-! DEFINITION. Which commands can be spelled or can come about: the request of a request row and the row of a request, and
the checks on the operands of each row. `exec` has a meaning for every command, well formed or not. -/

namespace Sys2Proof

open Sys2Proof.Machine

/-! ## Request rows -/

/-- The request that a request row of the table stands for; none for an event row. -/
def Instr.asRequest : Instr → Option Request
  | .set name value => some (.set name value)
  | .askSetting name => some (.askSetting name)
  | .askLine => some .askLine
  | .report sel => some (.report sel)
  | .reset => some .reset
  | .goto slot => some (.goto slot)
  | .move k => some (.move k)
  | .park => some .park
  | .home => some .home
  | .askSlide => some .askSlide
  | .lamp level fade => some (.lamp level fade)
  | .curveLoad i duty => some (.curveLoad i duty)
  | .curveRead i => some (.curveRead i)
  | .lampmodShift => some .lampmodShift
  | .lampmodAuto on => some (.lampmodAuto on)
  | .lampmodReplace pos => some (.lampmodReplace pos)
  | .lampmodRemove pos => some (.lampmodRemove pos)
  | .askLamp => some .askLamp
  | .powerOn => some .powerOn
  | .powerOff => some .powerOff
  | .askHeat => some .askHeat
  | .tapePlay => some .tapePlay
  | .tapePause => some .tapePause
  | .tapeStop => some .tapeStop
  | .tapeFwd => some .tapeFwd
  | .tapeRew => some .tapeRew
  | .tapeCuerec => some .tapeCuerec
  | .locate count play => some (.locate count play)
  | .zero => some .zero
  | .vol level fade => some (.vol level fade)
  | .muteOn => some .muteOn
  | .muteOff => some .muteOff
  | .askTape => some .askTape
  | .tone d items => some (.tone d items)
  | .cuemapSet d length action => some (.cuemapSet d length action)
  | .cuemapRead d length => some (.cuemapRead d length)
  | .cuewrite d length => some (.cuewrite d length)
  | .cuelog n before => some (.cuelog n before)
  | .cuelogCounts => some .cuelogCounts
  | .keyaddr addr => some (.keyaddr addr)
  | .focusIn ms => some (.focusIn ms)
  | .focusOut ms => some (.focusOut ms)
  | .focusStop => some .focusStop
  | .askKeys => some .askKeys
  | .stepdef n keep fields => some (.stepdef n keep fields)
  | .stepdel n => some (.stepdel n)
  | .stepask n => some (.stepask n)
  | .showRun => some .showRun
  | .showStop => some .showStop
  | .showHold => some .showHold
  | .showResume => some .showResume
  | .showStatus => some .showStatus
  | .next => some .next
  | .back => some .back
  | .jump n => some (.jump n)
  | .permitSet source mode value => some (.permitSet source mode value)
  | .permitRead source mode => some (.permitRead source mode)
  | .permitStatus => some .permitStatus
  | .clear kind => some (.clear kind)
  | .faultmodeSet kind mode => some (.faultmodeSet kind mode)
  | .faultmodeRead kind => some (.faultmodeRead kind)
  | .askFaults => some .askFaults
  | .hardReset _ | .softReset | .characterReceived _ | .transmitLineEnd | .lineRefusedForm _ | .indexPulse _
  | .topSwitchChange _ | .seatSwitchChange _ | .gateBarrierChange _ | .motorDeadTimeEnd _ | .motorBlankingEnd
  | .motorCurrentChange _ | .overcurrentDeglitchEnd | .phaseTimeout | .backoffDriveEnd | .settleEnd | .trayOut
  | .trayIn _ | .lampUpdate | .lampCurrentChange _ | .openTimerExpiry | .shiftSwitchChange _ | .shiftTimeout
  | .thermalPeriod _ | .fanTachPulse | .riseStep | .tapeOut | .tapeIn | .tapePulse | .reverseGuardEnd | .endOfTape
  | .volumeUpdate | .detectorWindowEnd _ | .cueWritten | .irDataFrame _ | .irRepeatFrame _ | .irFrameInvalid _
  | .keyReleaseTimeout | .digitsExpired | .wiredInputChange _ _ | .wiredDebounceEnd _ | .focusRestEnd
  | .focusBlankingEnd | .focusCurrentChange _ | .focusRunEnd | .dwellExpiry | .supplyComparatorChange _
  | .supplyDeglitchEnd | .supplyRetryEnd | .risingCrossing _ => none

/-- The row of the table that a request has. -/
def Request.row : Request → Instr
  | .set name value => .set name value
  | .askSetting name => .askSetting name
  | .askLine => .askLine
  | .report sel => .report sel
  | .reset => .reset
  | .goto slot => .goto slot
  | .move k => .move k
  | .park => .park
  | .home => .home
  | .askSlide => .askSlide
  | .lamp level fade => .lamp level fade
  | .curveLoad i duty => .curveLoad i duty
  | .curveRead i => .curveRead i
  | .lampmodShift => .lampmodShift
  | .lampmodAuto on => .lampmodAuto on
  | .lampmodReplace pos => .lampmodReplace pos
  | .lampmodRemove pos => .lampmodRemove pos
  | .askLamp => .askLamp
  | .powerOn => .powerOn
  | .powerOff => .powerOff
  | .askHeat => .askHeat
  | .tapePlay => .tapePlay
  | .tapePause => .tapePause
  | .tapeStop => .tapeStop
  | .tapeFwd => .tapeFwd
  | .tapeRew => .tapeRew
  | .tapeCuerec => .tapeCuerec
  | .locate count play => .locate count play
  | .zero => .zero
  | .vol level fade => .vol level fade
  | .muteOn => .muteOn
  | .muteOff => .muteOff
  | .askTape => .askTape
  | .tone d items => .tone d items
  | .cuemapSet d length action => .cuemapSet d length action
  | .cuemapRead d length => .cuemapRead d length
  | .cuewrite d length => .cuewrite d length
  | .cuelog n before => .cuelog n before
  | .cuelogCounts => .cuelogCounts
  | .keyaddr addr => .keyaddr addr
  | .focusIn ms => .focusIn ms
  | .focusOut ms => .focusOut ms
  | .focusStop => .focusStop
  | .askKeys => .askKeys
  | .stepdef n keep fields => .stepdef n keep fields
  | .stepdel n => .stepdel n
  | .stepask n => .stepask n
  | .showRun => .showRun
  | .showStop => .showStop
  | .showHold => .showHold
  | .showResume => .showResume
  | .showStatus => .showStatus
  | .next => .next
  | .back => .back
  | .jump n => .jump n
  | .permitSet source mode value => .permitSet source mode value
  | .permitRead source mode => .permitRead source mode
  | .permitStatus => .permitStatus
  | .clear kind => .clear kind
  | .faultmodeSet kind mode => .faultmodeSet kind mode
  | .faultmodeRead kind => .faultmodeRead kind
  | .askFaults => .askFaults

/-! ## Checks of operands -/

/-- R16: a number has at most six digits. -/
def sixDigits (n : Int) : Bool := decide (-999999 ≤ n) && decide (n ≤ 999999)

/-- R16: an optional number has at most six digits. -/
def sixDigitsOpt (n : Option Int) : Bool := n.all sixDigits

/-- R16: a keyword: a letter, then letters, digits or underscores, at most twelve characters in all. -/
def keywordShape (w : String) : Bool :=
  match w.toList with
  | [] => false
  | c :: cs => isLetter c && cs.all isWordChar && decide (cs.length < 12)

/-- R12: the value of a SET is a number or a keyword. -/
def SetValue.wellFormed : SetValue → Bool
  | .num n => sixDigits n
  | .word w => keywordShape w

/-- R14: a REPORT that names classes names at least one. -/
def ReportSel.wellFormed : ReportSel → Bool
  | .classes cs => !cs.isEmpty
  | .keep | .all | .none => true

/-- R138: an item of TONE. -/
def ToneItem.wellFormed : ToneItem → Bool
  | .input w | .hop w => keywordShape w
  | .freq n | .win n | .tol n => sixDigits n

/-- R158: the operand of KEYADDR. -/
def KeyAddrArg.wellFormed : KeyAddrArg → Bool
  | .num n => sixDigits n
  | .any => true

/-- R182: the names of the fields of STEPDEF. -/
def stepNames : List String := ["SL", "ST", "FD", "LV", "SN", "TP", "AD"]

/-- R182: a field of STEPDEF: an absolute slot is unsigned, DWELL and CUE_OR_DWELL carry a time and CUE, KEY and LINE none,
and a name that is not in the list is a keyword. -/
def StepField.wellFormed : StepField → Bool
  | .slot n => decide (0 ≤ n) && sixDigits n
  | .offset k => sixDigits k
  | .slideWord w | .style w | .levelWord w | .soundWord w | .tape w => keywordShape w
  | .fades out into => sixDigits out && sixDigits into
  | .level n => sixDigits n
  | .sound volume fade => sixDigits volume && sixDigits fade
  | .advance w none => keywordShape w && !(["DWELL", "CUE_OR_DWELL"].contains w)
  | .advance w (some t) => keywordShape w && !(["CUE", "KEY", "LINE"].contains w) && decide (t ≤ 9999999)
  | .unknown name => keywordShape name && !stepNames.contains name

/-- R5: why a line is refused; an unknown verb is one to twelve letters and no verb of the part. -/
def LineFault.wellFormed : LineFault → Bool
  | .unknownVerb w =>
    !w.toList.isEmpty && decide (w.toList.length ≤ 12) && w.toList.all isLetter && (verbs.find? fun v => v.1 == w).isNone
  | .overlong | .garbled | .noVerb => true

/-- A duration lies within 25 % of its nominal value, in microseconds (R142). -/
def within (nominal us : Nat) : Bool := decide (3 * nominal ≤ 4 * us) && decide (4 * us ≤ 5 * nominal)

/-- R17, R142: the durations of a data frame with its sixteen bits. -/
def IrDataTiming.wellFormed (f : IrDataTiming) : Bool :=
  within 2400 f.leader && within 1200 f.gap && decide (f.bits.length = 16) &&
    (f.bits.all fun b => within 500 b.1 && (within 500 b.2 || within 1500 b.2)) && within 500 f.trailer

/-- R17, R142: the durations of a repeat frame. -/
def IrRepeatTiming.wellFormed (f : IrRepeatTiming) : Bool :=
  within 2400 f.leader && within 600 f.gap && within 500 f.trailer

/-- R143: an invalid frame begins with an accepted leader mark. -/
def beginsWithLeader : List IrSegment → Bool
  | .mark us :: _ => within 2400 us
  | _ => false

/-- R5, R16: the operands of a request are in the form of its verb. -/
def Request.wellFormed : Request → Bool
  | .set _ value => value.wellFormed
  | .report sel => sel.wellFormed
  | .goto slot => decide (0 ≤ slot) && sixDigits slot
  | .move k => sixDigits k
  | .lamp n m | .vol n m => sixDigits n && sixDigitsOpt m
  | .curveLoad i duty => sixDigits i && sixDigits duty
  | .curveRead n | .focusIn n | .focusOut n | .stepdel n | .stepask n | .jump n => sixDigits n
  | .locate count _ => sixDigits count
  | .tone d items => sixDigits d && items.all ToneItem.wellFormed
  | .cuemapSet d _ _ | .cuemapRead d _ | .cuewrite d _ => sixDigits d
  | .cuelog n before => sixDigitsOpt n && sixDigitsOpt before
  | .keyaddr addr => addr.all KeyAddrArg.wellFormed
  | .stepdef n _ fields => sixDigits n && fields.all StepField.wellFormed
  | .askSetting _ | .askLine | .reset | .park | .home | .askSlide | .lampmodShift | .lampmodAuto _ | .lampmodReplace _
  | .lampmodRemove _ | .askLamp | .powerOn | .powerOff | .askHeat | .tapePlay | .tapePause | .tapeStop | .tapeFwd
  | .tapeRew | .tapeCuerec | .zero | .muteOn | .muteOff | .askTape | .cuelogCounts | .focusStop | .askKeys | .showRun
  | .showStop | .showHold | .showResume | .showStatus | .next | .back | .permitSet _ _ _ | .permitRead _ _
  | .permitStatus | .clear _ | .faultmodeSet _ _ | .faultmodeRead _ | .askFaults => true

/-- The operands of an event are what the event can bring. -/
def Instr.eventWellFormed : Instr → Bool
  | .lineRefusedForm fault => fault.wellFormed
  | .irDataFrame frame => frame.wellFormed
  | .irRepeatFrame frame => frame.wellFormed
  | .irFrameInvalid segments => beginsWithLeader segments
  | .hardReset _ | .softReset | .characterReceived _ | .transmitLineEnd | .indexPulse _ | .topSwitchChange _
  | .seatSwitchChange _ | .gateBarrierChange _ | .motorDeadTimeEnd _ | .motorBlankingEnd | .motorCurrentChange _
  | .overcurrentDeglitchEnd | .phaseTimeout | .backoffDriveEnd | .settleEnd | .trayOut | .trayIn _ | .lampUpdate
  | .lampCurrentChange _ | .openTimerExpiry | .shiftSwitchChange _ | .shiftTimeout | .thermalPeriod _ | .fanTachPulse
  | .riseStep | .tapeOut | .tapeIn | .tapePulse | .reverseGuardEnd | .endOfTape | .volumeUpdate
  | .detectorWindowEnd _ | .cueWritten | .keyReleaseTimeout | .digitsExpired | .wiredInputChange _ _
  | .wiredDebounceEnd _ | .focusRestEnd | .focusBlankingEnd | .focusCurrentChange _ | .focusRunEnd | .dwellExpiry
  | .supplyComparatorChange _ | .supplyDeglitchEnd | .supplyRetryEnd | .risingCrossing _ | .set _ _ | .askSetting _
  | .askLine | .report _ | .reset | .goto _ | .move _ | .park | .home | .askSlide | .lamp _ _ | .curveLoad _ _
  | .curveRead _ | .lampmodShift | .lampmodAuto _ | .lampmodReplace _ | .lampmodRemove _ | .askLamp | .powerOn
  | .powerOff | .askHeat | .tapePlay | .tapePause | .tapeStop | .tapeFwd | .tapeRew | .tapeCuerec | .locate _ _
  | .zero | .vol _ _ | .muteOn | .muteOff | .askTape | .tone _ _ | .cuemapSet _ _ _ | .cuemapRead _ _ | .cuewrite _ _
  | .cuelog _ _ | .cuelogCounts | .keyaddr _ | .focusIn _ | .focusOut _ | .focusStop | .askKeys | .stepdef _ _ _
  | .stepdel _ | .stepask _ | .showRun | .showStop | .showHold | .showResume | .showStatus | .next | .back | .jump _
  | .permitSet _ _ _ | .permitRead _ _ | .permitStatus | .clear _ | .faultmodeSet _ _ | .faultmodeRead _ | .askFaults => true

/-- A command is well formed. -/
def Instr.wellFormed (i : Instr) : Bool :=
  match i.asRequest with
  | some r => r.wellFormed
  | none => i.eventWellFormed

end Sys2Proof
end

