-- ==== Sys2Proof/Certificates/Slice0/Obligations.lean ====
section
/-! DEFINITION. The statements for the provers. A statement about a request row takes a line that is free (`LineFree`): what
happens to a line that is not is said by `ALineIsAssembledAndRead`. A statement about an event takes a state between commands
(`Between`). What a request sends is written with `State.answered` (a reply and nothing else) and `State.takes` (an effect,
then its reply). Where a statement starts a motor and leaves its rest time as it stands, that is the model's choice (log
entry 46). -/

open Sys2Proof Sys2Proof.Machine

/-- The step takes the command at the front of the queue, the form of a block; with no command waiting it takes the first
expiry that is due, or else lets one millisecond pass (DESIGN CHOICE, log entry 3). -/
def Obligations.StepRunsTheFrontCommand : Prop :=
  (∀ (c : Instr) (rest : List Instr) (s : State),
     step { s with pending := c :: rest } = exec c { s with pending := rest }) ∧
  (∀ s : State, s.pending = [] →
     (∀ i, due s = some i → step s = exec i s) ∧ (due s = none → step s = .next (tick s)))

/-- R112, R113, R178 to R180, R194, R201, R202, R204, R207, with R36, R41, R64 to R66 and R68: the hold causes of the show.
What follows from a telling is received after the block that told it has finished (log entry 2); the order of the blocks at
the supply's events is log entry 25; that a timer row acts whatever time has passed is log entry 4; a start of CUE_RECORD
that waits in the guard at RUNNING is log entry 36; the form of the detail is log entry 29; the rest time that stands still
under a motor that starts is log entry 46. The order RAISED, LATCHED, *SLIDE JAMMED, *FAULT JAM,GONE of a jam is the model's
reading (DEDUCED, log entry 16), and so is that of RAISED, LATCHED, *LAMP SHIFT,FAILED (DEDUCED, log entry 13). -/
def Obligations.ACauseHoldsTheShow : Prop :=
  (∀ (s : State) (k : FaultKind) (c : Cause) (detail : Option FaultDetail), causeOf k = some c →
     (s.faults.record k).latched = false →
     let mode := (s.faults.record k).mode
     let byItself := decide (k = .supplyLow ∨ (k = .heatTrip ∧ (mode = .retrySlow ∨ mode = .retryFast)))
     (setLatch k s).signals = s.signals ++ [.causeIn k byItself] ∧
     (setLatch k s).line = s.line.offer .fault [fw k.word, fw "LATCHED"] ∧
     (mode = .latch ∨
         (k = .supplyLow ∧ mode = .retry) ∨ (k = .heatTrip ∧ (mode = .retrySlow ∨ mode = .retryFast)) →
       (tellPresent k detail s).signals = s.signals ++ [.causeIn k byItself])) ∧
  (∀ (s : State) (k : FaultKind) (c : Cause) (byItself : Bool), Between s → causeOf k = some c →
     s.engine.causes = Cause.all.filter (· ∈ s.engine.causes) →
     let entered := drain (s.emit (.causeIn k byItself))
     let cs := Cause.all.filter (· ∈ (if byItself then [] else [Cause.request]) ++ c :: s.engine.causes)
     (s.engine.state = .running → s.engine.causes = [] → QueueHoldStays s.triggers → entered = s.heldFor cs) ∧
     (s.engine.state = .held → cs ≠ s.engine.causes →
       entered = { s.report .show (heldFields cs) with engine := { s.engine with causes := cs } }) ∧
     (s.engine.state = .held → cs = s.engine.causes → entered = s) ∧
     (s.engine.state ≠ .running → s.engine.state ≠ .held →
       entered = s.onEngine fun e => { e with causes := Cause.all.filter (· ∈ c :: e.causes) })) ∧
  (∀ (s : State) (k : FaultKind) (c : Cause), Between s → causeOf k = some c →
     s.engine.causes = Cause.all.filter (· ∈ s.engine.causes) →
     let left := drain (s.emit (.causeOut k))
     let cs := s.engine.causes.filter (· ≠ c)
     (s.engine.state = .held → c ∈ s.engine.causes → cs ≠ [] →
       left = { s.report .show (heldFields cs) with engine := { s.engine with causes := cs } }) ∧
     (s.engine.state = .held → s.engine.causes = [c] → NothingPutOff s → s.triggers.hold = false →
       s.triggers.tapeHold = false ∨ s.triggers.queue.length < s.triggers.holdAt → s.tape.state ≠ .cueRecord →
       (s.tape.state = .paused → s.tape.motor = .off ∧ s.cue.detecting = false) →
       left = { s.runsAgain with cue := left.cue } ∧
       (s.runsAgain.tape.state = s.tape.state → left.cue = s.cue) ∧
       (s.runsAgain.tape.state ≠ s.tape.state → left.cue.detecting = true)) ∧
     (s.engine.state ≠ .running → s.engine.state ≠ .held →
       left = s.onEngine fun e => { e with causes := e.causes.filter (· ≠ c) })) ∧
  (∀ s : State, Between s → QueueHoldStays s.triggers → s.engine.causes = Cause.all.filter (· ∈ s.engine.causes) →
     (s.engine.state = .running ∧ s.engine.causes = []) ∨ s.engine.state = .held →
     let enters (k : FaultKind) (c : Cause) : Prop :=
       (s.faults.record k).latched = false ∧ c ∉ s.engine.causes
     let shown (k : FaultKind) (c : Cause) (detail : Atom) (more : List (ReportClass × List Field)) (s : State) : State :=
       let told := more.foldl (fun s r => s.report r.1 r.2) ((s.report .fault [fw k.word, fw "RAISED", { parts := [detail] },
         fi (min 255 ((s.faults.record k).count + 1) : Nat)]).report .fault [fw k.word, fw "LATCHED"])
       let cs := Cause.all.filter (· ∈ (if k = .supplyLow then [] else [Cause.request]) ++ c :: s.engine.causes)
       if s.engine.state = .running then told.heldFor cs
       else { told.report .show (heldFields cs) with engine := { s.engine with causes := cs } }
     let told (k : FaultKind) (t : State) : Prop :=
       (t.faults.record k).present = true ∧ (t.faults.record k).latched = true ∧ t.faults.asserted = true
     (enters .lampShort .lampShort → 0 < s.lamp.duty → (s.faults.record .lampShort).mode = .latch →
       ∃ t, exec (.lampCurrentChange .aboveShort) s = .next t ∧
         t = { shown .lampShort .lampShort (wordOrNone (s.lamp.path.map LampPos.word))
             [(.lamp, [fw "SHORT", fw (posWord s.lamp.path)])] s with
           pins := { s.pins with lampCurrent := .aboveShort }
           lamp := { s.lamp with level := s.lamp.leastLevel, duty := 0, shortHold := true, openTimer := none }
           faults := t.faults } ∧ told .lampShort t) ∧
     (∀ pos, enters .lampOpen .lampOpen → s.lamp.openTimer ≠ none → s.lamp.path = some pos →
       (s.lamp.record pos).state = .active → (s.lamp.record pos.other).state ≠ .active → s.lamp.shift = none →
       s.lamp.autoShift = false ∨ (s.lamp.record pos.other).state ≠ .good → (s.faults.record .lampOpen).mode = .latch →
       ∃ t, exec .openTimerExpiry s = .next t ∧
         t = { shown .lampOpen .lampOpen (.word pos.word) [] (s.report .lamp [fw "FAILED", fw pos.word]) with
           lamp := { Lamp.changeRecord pos (fun r => { r with state := .failed }) s.lamp with
             openTimer := none, level := s.lamp.leastLevel, duty := 0 }
           faults := t.faults } ∧ told .lampOpen t) ∧
     (∀ sh, enters .shiftFail .shiftFail → s.lamp.shift = some sh → sh.driven = true → s.lamp.path = none →
       s.lamp.primary.state ≠ .active → s.lamp.spare.state ≠ .active → (s.faults.record .shiftFail).mode = .latch →
       ∃ t, exec .shiftTimeout s = .next t ∧
         t = { shown .shiftFail .shiftFail (.word sh.target.word) [(.lamp, [fw "SHIFT", fw "FAILED"])] s with
           lamp := { s.lamp with shift := none, shiftHold := true }
           faults := t.faults } ∧ told .shiftFail t) ∧
     (∀ (i : Instr) (phase : Phase), enters .jam .jam → ChangerOk s →
       (s.changer.state, phase) ∈
         [(ChangerState.lifting, Phase.lift), (.rotating, .rotate), (.dropping, .drop), (.homing, .homing)] →
       (s.changer.trayDrive.isSome = true ∨ s.changer.gateDrive.isSome = true) →
       (i = .overcurrentDeglitchEnd ∧ s.changer.deglitch ≠ none) ∨ i = .phaseTimeout →
       (s.faults.record .jam).mode = .latch →
       ∃ t, exec i s = .next t ∧
         t = { shown .jam .jam (.pair phase.word s.changer.slot)
             [(.slide, [fw "JAMMED", fw phase.word, fi s.changer.slot]), (.fault, [fw "JAM", fw "GONE"])] s with
           changer := { s.changer with
             state := .jammed, arm := armOf s.pins.topSwitch s.pins.seatSwitch false, jam := some (.jam, phase)
             inFlight := none, pendingTarget := none, retryPhase := none, phaseTimer := none, backoffTimer := none
             settleTimer := none, trayDrive := none, gateDrive := none
             trayDead := if s.changer.trayDrive.isSome then some 0 else s.changer.trayDead
             gateDead := if s.changer.gateDrive.isSome then some 0 else s.changer.gateDead
             startDue := false, blanking := none, deglitch := none }
           faults := t.faults } ∧
         (t.faults.record .jam).present = false ∧ (t.faults.record .jam).latched = true ∧ t.faults.asserted = true) ∧
     (enters .trayOut .trayOut → s.engine.state = .running → (s.faults.record .trayOut).mode = .latch →
       s.changer.trayPresent = true → s.changer.inFlight = none → s.changer.state = .idle ∨ s.changer.state = .unhomed →
       ∃ t, exec .trayOut s = .next t ∧
         t = { shown .trayOut .trayOut (.word "NONE") [] (s.report .slide [fw "TRAY", fw "OUT"]) with
           pins := { s.pins with trayIn := false }
           changer := { s.changer with trayPresent := false, status := .unhomed, slot := 0, state := .noTray }
           faults := t.faults } ∧ (t.faults.record .trayOut).present = true ∧ (t.faults.record .trayOut).latched = true) ∧
     (enters .supplyLow .supplyLow → s.faults.supply = .deglitch → s.changer.state = .idle ∨ s.changer.state = .unhomed →
       s.changer.trayDrive = none → s.changer.gateDrive = none → GateFollows s →
       s.tape.state = .stopped ∨ s.tape.state = .paused → s.tape.motor = .off → s.tape.guard = none →
       s.keys.focus = none → s.cue.writer = none → s.lamp.shift = none → (s.faults.record .supplyLow).mode = .retry →
       ∃ t, exec .supplyDeglitchEnd s = .next t ∧
         t = { shown .supplyLow .supplyLow (.word "NONE") [(.slide, [fw "HALTED"])]
             (s.onTape fun t => { t with reasons := { t.reasons with bySupply := true } }) with
           changer := { s.changer with
             state := .halted, held := some s.changer.state, startDue := false, blanking := none, deglitch := none }
           lamp := { s.lamp with level := s.lamp.leastLevel, duty := 0, openTimer := none }
           faults := t.faults } ∧ t.faults.supply = .low ∧ told .supplyLow t)) ∧
  (∀ s : State, s.engine.state = .held →
     (Between s → s.faults.supply = .recovering → s.changer.state = .halted → s.changer.held = some .idle →
       s.changer.inFlight = none → s.lamp.shift = none → s.heat.state ≠ .on →
       (s.faults.record .supplyLow).present = true → (s.faults.record .supplyLow).latched = true →
       s.tape.reasons.byShow = true →
       let good : State := { (s.report .fault [fw "SUPPLY_LOW", fw "RELEASED"]).report .slide [fw "RESUMED"] with
         changer := { s.changer with state := .idle, held := none }
         tape := { s.tape with reasons := { s.tape.reasons with bySupply := false } } }
       let released (t : State) : Prop := t.faults.supply = .good ∧ (t.faults.record .supplyLow).present = false ∧
         (t.faults.record .supplyLow).latched = false
       (s.engine.causes = [.request, .supplyLow] →
         ∃ t, exec .supplyRetryEnd s = .next t ∧
           t = { good.report .show (heldFields [.request]) with
             engine := { s.engine with causes := [.request] }, faults := t.faults } ∧ released t) ∧
       (s.engine.causes = [.supplyLow] → NothingPutOff s → s.triggers.hold = false →
         s.triggers.tapeHold = false ∨ s.triggers.queue.length < s.triggers.holdAt → s.tape.state ≠ .cueRecord →
         (s.tape.state = .paused → s.tape.motor = .off ∧ s.cue.detecting = false) →
         ∃ t, exec .supplyRetryEnd s = .next t ∧ t = { good.runsAgain with cue := t.cue, faults := t.faults } ∧
           (good.runsAgain.tape.state = s.tape.state → t.cue = s.cue) ∧
           (good.runsAgain.tape.state ≠ s.tape.state → t.cue.detecting = true) ∧ released t)) ∧
     (∀ k c, LineFree s → causeOf k = some c →
       k = .lampOpen ∨ k = .trayOut ∨ (k = .lampShort ∧ s.lamp.shortHold = false) ∨
         (k ∈ [FaultKind.jam, .slideStuck, .noZero] ∧ s.changer.state ≠ .jammed) →
       (s.faults.record k).latched = true → (s.faults.record k).present = false → s.engine.causes = [.request, c] →
       ∃ t, exec (.clear (some k)) s = .next t ∧
         t = { s.takes (fun s => (s.report .fault [fw k.word, fw "CLEARED"]).report .show (heldFields [.request]))
             (.accepted "CLEAR" [fw k.word]) with
           engine := { s.engine with causes := [.request] }, faults := t.faults } ∧
         t.faults.record k = { s.faults.record k with latched := false }))

/-- No command of the part stops it: chapter 95 gives every row an effect in every state. -/
def Obligations.EveryCommandCompletes : Prop :=
  ∀ (c : Instr) (s : State), ∃ t, exec c s = .next t ∧ t.pending = s.pending

/-- R4, R6, R7: one line, one reply, whatever reports the request causes. That a request row stands for the completed line
of its request is log entry 5. -/
def Obligations.EveryRequestIsAnsweredOnce : Prop :=
  ∀ (r : Request) (s : State), LineFree s →
    ∃ t, exec r.row s = .next t ∧ t.line.buffer = [] ∧ t.line.receiver = s.line.receiver ∧ t.line.baud = s.line.baud ∧
      Between t ∧
      (∀ x, s.line.transmitter = some x →
        t.line.transmitter = some x ∧ t.line.slot = some (handle r s.busyLine).2) ∧
      (s.line.transmitter = none → t.line.transmitter = some (handle r s.busyLine).2 ∧ t.line.slot = none)

/-- R2, R3, R5, R10: the way of a line through the receiver and the buffer; a request row offers its line to the buffer (log
entry 5). -/
def Obligations.ALineIsAssembledAndRead : Prop :=
  (∀ (r : Request) (s : State), s.line.slot ≠ none ∨ s.line.resetPending = true →
     (s.line.buffer.length < 2 →
       exec r.row s = .next (s.onLine fun l => { l with buffer := l.buffer ++ [.request r] })) ∧
     (2 ≤ s.line.buffer.length →
       (16 ≤ s.line.queue.length →
         exec r.row s = .next (s.onLine fun l =>
           { l with pendingLines := min 65535 (l.pendingLines + 1), totalLines := min 65535 (l.totalLines + 1) })) ∧
       (s.line.queue.length < 16 → s.line.transmitter ≠ none →
         exec r.row s = .next (s.onLine fun l =>
           { l with
             pendingLines := 0, totalLines := min 65535 (l.totalLines + 1)
             queue := l.queue ++ [.lostLine (min 65535 (l.pendingLines + 1))] })))) ∧
  (∀ (b : Byte) (s : State), s.line.receiver.resync = false →
     (32 ≤ b.toNat → b.toNat ≤ 126 →
       (s.line.receiver.count < 72 →
         exec (.characterReceived (.byte b)) s = .next (s.onLine fun l =>
           { l with receiver := { l.receiver with
               chars := l.receiver.chars ++
                 [Char.ofNat (if 97 ≤ b.toNat ∧ b.toNat ≤ 122 then b.toNat - 32 else b.toNat)]
               count := l.receiver.count + 1 } })) ∧
       (72 ≤ s.line.receiver.count →
         exec (.characterReceived (.byte b)) s = .next (s.onLine fun l =>
           { l with receiver := { l.receiver with overlong := true } }))) ∧
     (b.toNat = 10 → exec (.characterReceived (.byte b)) s = .next s) ∧
     (b.toNat ≠ 10 → b.toNat ≠ 13 → b.toNat < 32 ∨ 126 < b.toNat →
       exec (.characterReceived (.byte b)) s = .next (s.onLine fun l =>
         { l with receiver := { l.receiver with
             garbled := true
             count := if l.receiver.count < 72 then l.receiver.count + 1 else l.receiver.count
             overlong := if l.receiver.count < 72 then l.receiver.overlong else true } })) ∧
     exec (.characterReceived .framingError) s = .next (s.onLine fun l =>
       { l with receiver := { l.receiver with
           garbled := true
           count := if l.receiver.count < 72 then l.receiver.count + 1 else l.receiver.count
           overlong := if l.receiver.count < 72 then l.receiver.overlong else true } })) ∧
  (∀ (s : State) (cs : Text) (r : Request), LineFree s → s.line.receiver = ⟨cs, cs.length, false, false, false⟩ →
     readText (trim cs) = .request r →
     exec (.characterReceived (.byte 13)) s = exec r.row (s.onLine fun l => { l with receiver := .empty })) ∧
  (∀ (s : State) (word : String), LineFree s →
     exec (.lineRefusedForm .overlong) s = .next (s.answered (.refused .syntaxErr "LONG")) ∧
     exec (.lineRefusedForm .garbled) s = .next (s.answered (.refused .syntaxErr "LINE")) ∧
     exec (.lineRefusedForm .noVerb) s = .next (s.answered (.refused .syntaxErr "LINE")) ∧
     exec (.lineRefusedForm (.unknownVerb word)) s =
       .next (s.answered (.refused .unknown (String.ofList (word.toList.take 12)))))

/-- R7, R10 and the reset of R11 and R15. -/
def Obligations.TheTransmitterChoosesAndResets : Prop :=
  (∀ (s : State) (x : OutLine), s.line.transmitter = some x → s.line.resetPending = false →
     (s.line.buffer = [] →
       (∀ r, s.line.slot = some r →
         exec .transmitLineEnd s = .next (s.onLine fun l => { l with transmitter := some r, slot := none })) ∧
       (s.line.slot = none → s.line.queue = [] →
         exec .transmitLineEnd s = .next (s.onLine fun l => { l with transmitter := none })) ∧
       (∀ q rest, s.line.slot = none → s.line.queue = q :: rest →
         exec .transmitLineEnd s = .next (s.onLine fun l =>
           if l.pendingLines ≠ 0 then
             { l with transmitter := some q, queue := rest ++ [.lostLine l.pendingLines], pendingLines := 0 }
           else if l.pendingReports ≠ 0 then
             { l with transmitter := some q, queue := rest ++ [.lostReports l.pendingReports], pendingReports := 0 }
           else { l with transmitter := some q, queue := rest }))) ∧
     (∀ r reply, Between s → s.line.buffer = [.request r] → s.line.slot = some reply →
       exec .transmitLineEnd s = exec r.row (s.onLine fun l =>
         { l with transmitter := some reply, slot := none, buffer := [] }))) ∧
  (∀ s : State,
     (LineFree s → exec .reset s =
       .next ((s.onLine fun l => { l with resetPending := true }).answered (.accepted "RESET" []))) ∧
     (s.line.resetPending = true → s.line.transmitter = some (.accepted "RESET" []) →
       exec .transmitLineEnd s = exec .softReset s))

/-- R8, R9, R14: the class mask and the report queue. -/
def Obligations.ReportsFollowTheMask : Prop :=
  (∀ (s : State) (cls : ReportClass) (fields : List Field),
     (cls ∉ s.line.mask → s.report cls fields = s) ∧
     (cls ∈ s.line.mask → s.line.queue.length < 16 → s.line.transmitter ≠ none →
       s.report cls fields = s.onLine fun l => { l with queue := l.queue ++ [.report cls fields] }) ∧
     (cls ∈ s.line.mask → s.line.queue = [] → s.line.transmitter = none → s.line.slot = none → s.line.taking = false →
       s.line.pendingLines = 0 → s.line.pendingReports = 0 →
       s.report cls fields = s.onLine fun l => { l with transmitter := some (.report cls fields) }) ∧
     (cls ∈ s.line.mask → 16 ≤ s.line.queue.length →
       s.report cls fields = s.onLine fun l =>
         { l with
           pendingReports := min 65535 (l.pendingReports + 1), totalReports := min 65535 (l.totalReports + 1) })) ∧
  (∀ s : State, LineFree s →
     (∀ sel mask, (sel = .keep ∧ mask = s.line.mask) ∨ (sel = .none ∧ mask = []) ∨
         (sel = .all ∧ mask = [.slide, .lamp, .heat, .tape, .cue, .key, .show, .fault]) ∨
         (∃ cs, sel = .classes cs ∧
           mask = [ReportClass.slide, .lamp, .heat, .tape, .cue, .key, .show, .fault].filter (· ∈ cs)) →
       exec (.report sel) s = .next ((s.onLine fun l => { l with mask := mask }).answered
         (.accepted "REPORT" (if mask = [] then [fw "NONE"] else mask.map fun c => fw c.word)))))

/-- R11, R45, R71, R98, R117, R137, R157, R181, R188, R197, R208. That the row carries the levels of the pins is log entry
1, and the dead times across a hard reset are log entry 9. The clause lastDriven = FORWARD is the model's choice (log entry
28: the rules give FORWARD only for the motion plan), as are the field guardNow and the values of the changer's own fields
(log entry 28); the end timer at 0 is the model's choice (log entry 35), as is the kind DATA of the decoder (log entry 43). -/
def Obligations.HardResetValues : Prop :=
  ∀ (p : Pins) (s : State), ∃ t, exec (.hardReset p) s = .next t ∧ t.pins = p ∧ t.pending = s.pending ∧
    t.line =
      { baud := .ofStrap p.strap, receiver := ⟨[], 0, false, false, false⟩, buffer := [], slot := none,
        resetPending := false, queue := [], mask := [.slide, .lamp, .heat, .tape, .cue, .key, .show, .fault],
        pendingLines := 0, pendingReports := 0, totalLines := 0, totalReports := 0, transmitter := some (.start true),
        taking := false } ∧
    (t.changer.state = (if p.trayIn then .unhomed else .noTray) ∧ t.changer.slot = 0 ∧ t.changer.status = .unhomed ∧
      t.changer.trayPresent = p.trayIn ∧ t.changer.inFlight = none ∧ t.changer.pendingTarget = none ∧
      t.changer.direction = .forward ∧ t.changer.retries = 0 ∧ t.changer.jam = none ∧ t.changer.held = none ∧
      t.changer.trayDrive = none ∧ t.changer.gateDrive = none ∧
      t.changer.trayDead = (if s.changer.trayDrive.isSome then some 0 else s.changer.trayDead) ∧
      t.changer.gateDead = (if s.changer.gateDrive.isSome then some 0 else s.changer.gateDead) ∧
      t.changer.startDue = false ∧ t.changer.lastDriven = .forward ∧ t.changer.blanking = none ∧
      t.changer.deglitch = none ∧ t.changer.phaseTimer = none ∧ t.changer.backoffTimer = none ∧
      t.changer.settleTimer = none ∧ t.changer.homes = false ∧ t.changer.retryPhase = none ∧ t.changer.size = 80 ∧
      t.changer.settle = 300 ∧ t.changer.retriesMax = 2 ∧ t.changer.skipZero = true ∧ GateFollows t) ∧
    (t.lamp.ramp = ⟨0, 0, 0, 0, none, false⟩ ∧ t.lamp.value = 0 ∧ t.lamp.requested = 0 ∧ t.lamp.lastLit = 1000 ∧
      t.lamp.power = 0 ∧ t.lamp.therm = 1000 ∧ t.lamp.stall = 1000 ∧ t.lamp.dwellCap = 1000 ∧ t.lamp.duty = 0 ∧
      t.lamp.guard = (if t.changer.occupancy = .slide then 1000 else 0) ∧ t.lamp.recovery = none ∧ t.lamp.level = 0 ∧
      t.lamp.pubTherm = t.heat.thermCap ∧ t.lamp.pubStall = 1000 ∧ t.lamp.pubPower = 0 ∧ t.lamp.dwell = 0 ∧
      t.lamp.gateCleared = false ∧ t.lamp.shortHold = false ∧ t.lamp.shiftHold = false ∧ t.lamp.openTimer = none ∧
      t.lamp.curve = #v[0, 41, 164, 369, 655, 1024, 1474, 2007, 2621, 3317, 4095] ∧
      (∀ pos, t.lamp.record pos = ⟨if p.shiftSwitch = some pos then .active else .good, 0, 0, false⟩) ∧
      t.lamp.path = p.shiftSwitch ∧ t.lamp.shift = none ∧ t.lamp.autoShift = true ∧ t.lamp.keepWarm = 60 ∧
      t.lamp.dwellLimit = 120 ∧ t.lamp.guardOn = true ∧ t.lamp.guardNow = true) ∧
    (t.heat.fan = 4 ∧ t.heat.stall = false ∧ t.heat.warn = false ∧ t.heat.powerLimit = 0 ∧ t.heat.request = false ∧
      t.heat.estimate = (if 0 ≤ p.housing ∧ p.housing ≤ 2500 then p.housing else 900) ∧
      t.heat.sensor = p.housing ∧ t.heat.sensorValid = decide (0 ≤ p.housing ∧ p.housing ≤ 2500) ∧
      t.heat.effective = t.heat.estimate ∧ t.heat.fanDuty = 4095 ∧ t.heat.firstPeriod = true ∧ t.heat.tachNow = 0 ∧
      t.heat.tachLast = 0 ∧ t.heat.bad = 0 ∧ t.heat.good = 0 ∧ t.heat.trip = false ∧ t.heat.stallCap = 1000 ∧
      t.heat.rise = none ∧ t.heat.afterSeconds = 0 ∧ t.heat.recoverySeconds = 0 ∧
      t.heat.thermCap = (if t.heat.effective < 1000 then 1000
        else if t.heat.effective < 1200 then max 300 (1000 - 5 * (t.heat.effective - 1000).toNat) else 0) ∧
      t.heat.state = (if 450 ≤ t.heat.effective then .cooldown else .standby) ∧
      t.heat.set = ⟨250, 250, 96, #v[8, 24, 40, 60, 88], #v[400, 550, 700, 850], #v[1200, 2000, 2900, 4095], 1000, 1200,
        60, 800⟩) ∧
    (t.tape.state = (if p.tapeIn then .stopped else .noTape) ∧ t.tape.present = p.tapeIn ∧ t.tape.counter = 0 ∧
      t.tape.endFlag = .none ∧ t.tape.motor = .off ∧ t.tape.lastDir = .forward ∧ t.tape.rest = 0 ∧ t.tape.endTimer = 0 ∧
      t.tape.guard = none ∧ t.tape.locate = none ∧ t.tape.reasons = ⟨false, false, false⟩ ∧ t.tape.holdPause = false ∧
      t.tape.ramp = ⟨0, 0, 0, 0, .line, false⟩ ∧ t.tape.value = 0 ∧ t.tape.resume = 0 ∧ t.tape.mute = false ∧
      t.tape.delivered = 0) ∧
    (t.cue.detecting = false ∧ t.cue.writer = none ∧ t.cue.log = [] ∧ t.cue.nextSeq = 0 ∧
      t.cue.map = #v[.next, .back, .mark, .tapeStop, .nothing, .nothing] ∧
      t.cue.counters = ⟨0, 0, 0, 0, 0, 0, 0, 0, 0⟩ ∧
      (∀ d : Fin 3, t.cue.units[d] = ⟨⟨false, if d = 0 then 800 else if d = 1 then 1250 else 2000, 20, 12, false⟩, none,
        false, [], [], .quiet, none⟩)) ∧
    (t.keys.decoder = ⟨.waiting, [], .data, false⟩ ∧ t.keys.address = none ∧ t.keys.held = none ∧ t.keys.digits = [] ∧
      t.keys.focus = none ∧ t.keys.focusRest = 0 ∧ t.keys.progNext = .short ∧ t.keys.progBack = .long ∧
      t.keys.fwd = ⟨p.wiredFwd, none⟩ ∧ t.keys.rev = ⟨p.wiredRev, none⟩ ∧ t.keys.invalid = 0 ∧ t.keys.foreign = 0 ∧
      t.keys.unassigned = 0 ∧ t.keys.ignored = 0) ∧
    t.engine = ⟨[], .empty, [], 1000, none, true⟩ ∧
    (t.triggers.queue = [] ∧ t.triggers.nextSeq = 0 ∧ t.triggers.hold = false ∧ t.triggers.catchUp = 2 ∧
      t.triggers.tapeHold = true ∧ t.triggers.holdAt = 6 ∧ t.triggers.releaseAt = 2 ∧
      t.triggers.toldShow = .empty ∧ t.triggers.toldTape = t.tape.state ∧
      (∀ (source : Source) (mode : Mode), t.triggers.perm source mode = match source, mode with
        | .remote, .held | .wired, .held | .cue, .program => .note
        | .cue, .held | .dwell, .manual | .dwell, .held | .dwell, .program => .drop
        | _, _ => .act) ∧
      t.triggers.counters = ⟨0, 0, 0, 0, 0, 0, 0⟩) ∧
    (∀ k : FaultKind, t.faults.record k = ⟨defaultMode k, false, false, 0, none, none⟩) ∧ t.faults.asserted = false ∧
    t.faults.supply = (if p.supplyGood then .good else .deglitch) ∧
    t.faults.supplyTimer = (if p.supplyGood then none else some 0)

/-- R11, R45, R72, R99, R117, R137, R157, R181, R197, R208: what a soft reset keeps and what it resets (log entries 6, 7, 13
and 34). The end timer at 0 is the model's choice (log entry 35), as are the field guardNow and the values of the
changer's own fields (log entry 28), the kind DATA of the decoder (log entry 43) and the release timer at 0, which stands
inside `Keys.afterReset` (log entry 42). -/
def Obligations.SoftResetKeeps : Prop :=
  ∀ s : State, ∃ t, exec .softReset s = .next t ∧ t.pins = s.pins ∧ t.pending = s.pending ∧
    t.line.baud = s.line.baud ∧ t.line.buffer = [] ∧ t.line.slot = none ∧ t.line.resetPending = false ∧
    t.line.transmitter = some (.start false) ∧ t.line.receiver.chars = [] ∧
    t.line.receiver.resync = decide (s.line.receiver.count ≠ 0) ∧ t.line.mask = ReportClass.all ∧
    (∀ pos, (t.lamp.record pos).burn = (s.lamp.record pos).burn ∧ (t.lamp.record pos).part = (s.lamp.record pos).part ∧
      (t.lamp.record pos).replaced = (s.lamp.record pos).replaced ∧
      (t.lamp.record pos).state = match (s.lamp.record pos).state with
        | .good | .active => if s.pins.shiftSwitch = some pos then .active else .good
        | .failed => .failed
        | .absent => .absent) ∧
    t.lamp.path = s.pins.shiftSwitch ∧ t.lamp.duty = 0 ∧
    t.heat.estimate = s.heat.estimate ∧ t.heat.sensor = s.heat.sensor ∧ t.heat.set = HeatSettings.default ∧
    t.heat.request = false ∧
    t.heat.state = (match s.heat.state with
      | .warming | .on | .cooldown => .cooldown
      | .tripped => .tripped
      | .standby => .standby) ∧
    t.tape.counter = s.tape.counter ∧ t.tape.lastDir = s.tape.lastDir ∧ t.tape.motor = .off ∧
    t.cue = Cue.afterReset ∧ t.keys = Keys.afterReset s.pins ∧ t.engine.steps = [] ∧ t.engine.state = .empty ∧
    t.triggers = Triggers.afterReset s.pins ∧ t.faults.supply = s.faults.supply ∧
    t.faults.supplyTimer = s.faults.supplyTimer ∧ GateFollows t ∧
    (t.changer.state = (if s.pins.trayIn then (if s.supplyLow then .halted else .unhomed) else .noTray) ∧
      t.changer.held = (if s.pins.trayIn ∧ s.supplyLow = true then some .unhomed else none) ∧ t.changer.slot = 0 ∧
      t.changer.status = .unhomed ∧ t.changer.trayPresent = s.pins.trayIn ∧ t.changer.inFlight = none ∧
      t.changer.pendingTarget = none ∧ t.changer.direction = .forward ∧ t.changer.retries = 0 ∧ t.changer.jam = none ∧
      t.changer.trayDrive = none ∧ t.changer.gateDrive = none ∧
      t.changer.trayDead = (if s.changer.trayDrive.isSome then some 0 else s.changer.trayDead) ∧
      t.changer.gateDead = (if s.changer.gateDrive.isSome then some 0 else s.changer.gateDead) ∧
      t.changer.startDue = false ∧ t.changer.phaseTimer = none ∧ t.changer.settleTimer = none ∧
      t.changer.backoffTimer = none ∧ t.changer.size = 80 ∧ t.changer.settle = 300 ∧ t.changer.retriesMax = 2 ∧
      t.changer.skipZero = true) ∧
    (t.lamp.ramp = ⟨0, 0, 0, 0, none, false⟩ ∧ t.lamp.value = 0 ∧ t.lamp.requested = 0 ∧ t.lamp.lastLit = 1000 ∧
      t.lamp.level = 0 ∧ t.lamp.therm = 1000 ∧ t.lamp.stall = 1000 ∧ t.lamp.power = 0 ∧ t.lamp.dwellCap = 1000 ∧
      t.lamp.guard = (if t.changer.occupancy = .slide then 1000 else 0) ∧ t.lamp.recovery = none ∧
      t.lamp.pubTherm = t.heat.thermCap ∧ t.lamp.pubStall = t.heat.stallCap ∧ t.lamp.pubPower = 0 ∧ t.lamp.dwell = 0 ∧
      t.lamp.gateCleared = false ∧ t.lamp.openTimer = none ∧ t.lamp.shortHold = false ∧ t.lamp.shiftHold = false ∧
      t.lamp.shift = none ∧ t.lamp.curve = #v[0, 41, 164, 369, 655, 1024, 1474, 2007, 2621, 3317, 4095] ∧
      t.lamp.autoShift = true ∧ t.lamp.keepWarm = 60 ∧ t.lamp.dwellLimit = 120 ∧ t.lamp.guardOn = true ∧ t.lamp.guardNow = true) ∧
    (t.heat.sensorValid = s.heat.sensorValid ∧ t.heat.effective = s.heat.effective ∧ t.heat.tachNow = s.heat.tachNow ∧
      t.heat.tachLast = s.heat.tachLast ∧ t.heat.stall = s.heat.stall ∧ t.heat.bad = s.heat.bad ∧
      t.heat.good = s.heat.good ∧ t.heat.firstPeriod = false ∧ t.heat.warn = false ∧ t.heat.rise = none ∧
      t.heat.trip = decide (s.heat.state = .tripped) ∧ t.heat.afterSeconds = 0 ∧ t.heat.recoverySeconds = 0 ∧
      t.heat.powerLimit = 0 ∧ t.heat.stallCap = (if s.heat.stall then 500 else 1000) ∧
      t.heat.thermCap = (if s.heat.effective < 1000 then 1000
        else if s.heat.effective < 1200 then max 300 (1000 - 5 * (s.heat.effective - 1000).toNat) else 0) ∧
      t.heat.fan.val = max s.heat.fan.val (match t.heat.state with
        | .standby => 0 | .warming | .on => 1 | .cooldown => 2 | .tripped => 4)) ∧
    (t.tape.state = (if s.pins.tapeIn then .stopped else .noTape) ∧ t.tape.present = s.pins.tapeIn ∧
      t.tape.endFlag = .none ∧ t.tape.rest = 0 ∧ t.tape.endTimer = 0 ∧ t.tape.guard = none ∧ t.tape.locate = none ∧
      t.tape.reasons = ⟨false, false, s.supplyLow⟩ ∧ t.tape.holdPause = false ∧
      t.tape.ramp = ⟨0, 0, 0, 0, .line, false⟩ ∧ t.tape.value = 0 ∧ t.tape.resume = 0 ∧ t.tape.mute = false ∧
      t.tape.delivered = 0) ∧
    (let count := if s.pins.tapeIn then some s.tape.counter else none
     let dark := t.lamp.primary.state ≠ .active ∧ t.lamp.spare.state ≠ .active
     let failed (pos : LampPos) := (s.lamp.record pos).state = .failed
     let opened : Option LampPos := if ¬ dark then none
       else if failed .spare ∧ (s.pins.shiftSwitch = some .spare ∨ ¬ failed .primary) then some .spare
       else if failed .primary then some .primary else none
     (∀ k, t.faults.record k =
       if k = .fanStall ∧ s.heat.stall = true then ⟨.retry, true, true, 1, some (.num t.heat.fan.val), count⟩
       else if k = .sensorBad ∧ s.heat.sensorValid = false then ⟨.report, true, false, 1, none, count⟩
       else if k = .heatTrip ∧ s.heat.state = .tripped then ⟨.retrySlow, true, true, 1, some (.num s.heat.effective), count⟩
       else if k = .lampOpen ∧ opened ≠ none then ⟨.latch, true, true, 1, opened.map .lamp, count⟩
       else if k = .supplyLow ∧ s.supplyLow = true then ⟨.retry, true, true, 1, none, count⟩
       else ⟨defaultMode k, false, false, 0, none, none⟩) ∧
     t.faults.asserted = (FaultKind.all.any fun k => (t.faults.record k).active k) ∧
     t.engine = ⟨[], .empty, (if opened ≠ none then [.lampOpen] else []) ++
       (if s.heat.state = .tripped then [.heatTrip] else []) ++ (if s.supplyLow then [.supplyLow] else []), 1000, none,
       true⟩)

/-- R12, R21, R56, R70, R112, R194, R196: SET (a value already held changes nothing, after the refusals: log entry 23; GUARD
ON over a seated slide: log entry 12; the guard in force is a field of the model: log entry 28; the end timer at 0 where the
hold stops the motor: log entry 35; the rest time under a motor that its release starts: log entry 46). -/
def Obligations.SetTakesItsValue : Prop :=
  (∀ (s : State) (name : Setting) (lo hi n v : Int), LineFree s → settingRange name = some (lo, hi) →
     name ∉ [Setting.holdAt, .releaseAt] →
     v = (if name = .warmUp then (max lo (min hi n)) / 10 * 10 else max lo (min hi n)) →
     breaksOrder s name v = false → s.heat.fanDuty = fanDutyOf s.heat.set s.heat.fan →
     ∃ t, exec (.set name (.num n)) s = .next t ∧ settingValue t name = .num v ∧
       (∀ o, o ≠ name → settingValue t o = settingValue s o) ∧
       t = { s.answered (.accepted "SET" [fw name.word, fc v (decide (n < lo ∨ hi < n))]) with
         changer := { s.changer with settle := t.changer.settle, retriesMax := t.changer.retriesMax }
         lamp := { s.lamp with keepWarm := t.lamp.keepWarm, dwellLimit := t.lamp.dwellLimit }
         heat := { s.heat with set := t.heat.set, fanDuty := fanDutyOf t.heat.set s.heat.fan }
         triggers := { s.triggers with catchUp := t.triggers.catchUp } }) ∧
  (∀ (s : State) (name : Setting) (w : String), LineFree s → w ∈ settingWords name →
     name ∈ [Setting.skipZero, .progNext, .progBack, .loop] →
     ∃ t, exec (.set name (.word w)) s = .next t ∧ settingValue t name = .word w ∧
       (∀ o, o ≠ name → settingValue t o = settingValue s o) ∧
       t = { s.answered (.accepted "SET" [fw name.word, fw w]) with
         changer := { s.changer with skipZero := t.changer.skipZero }
         keys := { s.keys with progNext := t.keys.progNext, progBack := t.keys.progBack }
         engine := { s.engine with loop := t.engine.loop } }) ∧
  (∀ s : State, LineFree s →
     (s.engine.state ≠ .running → s.engine.state ≠ .held → s.changer.state ∈ [ChangerState.noTray, .unhomed, .idle] →
       s.changer.size = 80 →
       exec (.set .tray (.word "T140")) s = .next ((s.onChanger fun c =>
         if c.trayPresent then { c with size := 140, status := .unhomed, slot := 0, state := .unhomed }
         else { c with size := 140 }).answered (.accepted "SET" [fw "TRAY", fw "T140"])) ∧
       exec (.set .tray (.word "T80")) s = .next (s.answered (.accepted "SET" [fw "TRAY", fw "T80"]))) ∧
     (s.engine.state ≠ .running → s.engine.state ≠ .held → s.changer.state ∈ [ChangerState.noTray, .unhomed, .idle] →
       s.changer.size = 140 →
       exec (.set .tray (.word "T80")) s = .next ((s.onChanger fun c =>
         if c.trayPresent then { c with size := 80, status := .unhomed, slot := 0, state := .unhomed }
         else { c with size := 80 }).answered (.accepted "SET" [fw "TRAY", fw "T80"])) ∧
       exec (.set .tray (.word "T140")) s = .next (s.answered (.accepted "SET" [fw "TRAY", fw "T140"]))) ∧
     (∀ w, s.engine.state = .running ∨ s.engine.state = .held ∨
         s.changer.state ∉ [ChangerState.noTray, .unhomed, .idle] →
       exec (.set .tray (.word w)) s = .next (s.answered (.refused .state "SET")))) ∧
  (∀ s : State, LineFree s →
     (s.lamp.guardOn = true →
       exec (.set .guard (.word "OFF")) s =
         .next ((s.onLamp fun l => { l with guardOn := false }).answered (.accepted "SET" [fw "GUARD", fw "OFF"]))) ∧
     (s.lamp.guardOn = false → s.changer.occupancy = .slide → s.lamp.recovery = none →
       exec (.set .guard (.word "ON")) s =
         .next ((s.onLamp fun l => { l with guardOn := true, guardNow := true, guard := 1000 }).answered
           (.accepted "SET" [fw "GUARD", fw "ON"]))) ∧
     (s.lamp.guardOn = false → s.changer.occupancy ≠ .slide → s.pins.lampCurrent = .normal →
       ∃ t, exec (.set .guard (.word "ON")) s = .next t ∧
         t = { s.answered (.accepted "SET" [fw "GUARD", fw "ON"]) with
           lamp := { s.lamp with
             guardOn := true, guardNow := true, guard := 0, recovery := none, level := 0, duty := t.lamp.duty
             openTimer := t.lamp.openTimer } } ∧
         t.lamp.duty ≤ s.lamp.duty) ∧
     (s.triggers.hold = false → s.triggers.toldShow ≠ .running →
       (∀ n : Nat, 2 ≤ n → n ≤ 8 → s.triggers.releaseAt < n →
         exec (.set .holdAt (.num n)) s = .next ((s.onTriggers fun t => { t with holdAt := n }).answered
           (.accepted "SET" [fw "HOLDAT", fi n]))) ∧
       (∀ n : Nat, n ≤ 5 → n < s.triggers.holdAt →
         exec (.set .releaseAt (.num n)) s = .next ((s.onTriggers fun t => { t with releaseAt := n }).answered
           (.accepted "SET" [fw "RELEASEAT", fi n]))) ∧
       exec (.set .tapeHold (.word "ON")) s = .next ((s.onTriggers fun t => { t with tapeHold := true }).answered
         (.accepted "SET" [fw "TAPEHOLD", fw "ON"])) ∧
       exec (.set .tapeHold (.word "OFF")) s = .next ((s.onTriggers fun t => { t with tapeHold := false }).answered
         (.accepted "SET" [fw "TAPEHOLD", fw "OFF"]))) ∧
     (s.triggers.hold = false → s.triggers.toldShow = .running → s.triggers.tapeHold = true → s.tape.state ≠ .playing →
       s.tape.reasons.byQueue = false →
       ∀ n : Nat, 2 ≤ n → n ≤ 8 → s.triggers.releaseAt < n → n ≠ s.triggers.holdAt → n ≤ s.triggers.queue.length →
         exec (.set .holdAt (.num n)) s = .next (s.takes (fun s => ((s.onTriggers fun t =>
           { t with holdAt := n, hold := true }).onTape fun t =>
             { t with reasons := { t.reasons with byQueue := true } }).report .show
               [fw "TRIG", fw "HOLD", fi s.triggers.queue.length]) (.accepted "SET" [fw "HOLDAT", fi n]))) ∧
     (s.triggers.hold = true → s.triggers.tapeHold = true → s.tape.state ≠ .paused → s.tape.reasons.byQueue = true →
       exec (.set .tapeHold (.word "OFF")) s = .next (s.takes (fun s => ((s.onTriggers fun t =>
         { t with tapeHold := false, hold := false }).onTape fun t =>
           { t with reasons := { t.reasons with byQueue := false } }).report .show
             [fw "TRIG", fw "RELEASE", fi s.triggers.queue.length]) (.accepted "SET" [fw "TAPEHOLD", fw "OFF"]))) ∧
     (s.triggers.hold = false → s.triggers.toldShow = .running → s.tape.reasons.byQueue = false →
       s.triggers.tapeHold = false → s.triggers.holdAt ≤ s.triggers.queue.length → s.tape.state ≠ .playing →
       exec (.set .tapeHold (.word "ON")) s = .next (s.takes (fun s => ((s.onTriggers fun t =>
         { t with tapeHold := true, hold := true }).onTape fun t =>
           { t with reasons := { t.reasons with byQueue := true } }).report .show
             [fw "TRIG", fw "HOLD", fi s.triggers.queue.length]) (.accepted "SET" [fw "TAPEHOLD", fw "ON"])))) ∧
  (∀ s : State, LineFree s → s.triggers.hold = false → s.triggers.toldShow = .running → s.tape.reasons.byQueue = false →
     s.tape.state = .playing → s.tape.motor = .play → s.cue.detecting = true → CueQuiet s.cue →
     let pauses (triggers : Triggers) (reply : Reply) (i : Instr) : Prop := ∃ t, exec i s = .next t ∧
       t = { s.takes (fun s => (s.report .tape [fw "PAUSED", fw "HOLD"]).report .show
           [fw "TRIG", fw "HOLD", fi s.triggers.queue.length]) reply with
         triggers := { triggers with hold := true, toldTape := .paused }
         tape := { s.tape with
           reasons := { s.tape.reasons with byQueue := true }, state := .paused, holdPause := true, motor := .off, rest := 0
           endTimer := 0, delivered := 0 }
         cue := t.cue } ∧
       DetectionEnded s.cue t.cue
     (∀ n : Nat, s.triggers.tapeHold = true → 2 ≤ n → n ≤ 8 → s.triggers.releaseAt < n → n ≠ s.triggers.holdAt →
       n ≤ s.triggers.queue.length →
       pauses { s.triggers with holdAt := n } (.accepted "SET" [fw "HOLDAT", fi n]) (.set .holdAt (.num n))) ∧
     (s.triggers.tapeHold = false → s.triggers.holdAt ≤ s.triggers.queue.length →
       pauses { s.triggers with tapeHold := true } (.accepted "SET" [fw "TAPEHOLD", fw "ON"])
         (.set .tapeHold (.word "ON")))) ∧
  (∀ s : State, LineFree s → s.triggers.hold = true → s.tape.reasons.byQueue = true →
     let gone : Tape := { s.tape with reasons := { s.tape.reasons with byQueue := false } }
     let plays := s.tape.state = .paused ∧ s.tape.holdPause = true ∧ s.tape.reasons = ⟨true, false, false⟩
     (plays → s.tape.motor = .off ∧ s.cue.detecting = false) →
     let releases (triggers : Triggers) (reply : Reply) (i : Instr) : Prop := ∃ t, exec i s = .next t ∧
       t = { s.takes (fun s => (if plays then s.report .tape [fw "PLAYING"] else s).report .show
           [fw "TRIG", fw "RELEASE", fi s.triggers.queue.length]) reply with
         triggers := { triggers with hold := false, toldTape := if plays then .playing else s.triggers.toldTape }
         tape := if plays then gone.playsAgain else gone
         cue := t.cue } ∧
       (plays → t.cue.detecting = true) ∧ (¬ plays → t.cue = s.cue)
     (s.triggers.tapeHold = true →
       releases { s.triggers with tapeHold := false } (.accepted "SET" [fw "TAPEHOLD", fw "OFF"])
         (.set .tapeHold (.word "OFF"))) ∧
     (∀ n : Nat, n ≤ 5 → n < s.triggers.holdAt → n ≠ s.triggers.releaseAt → s.triggers.queue.length ≤ n →
       releases { s.triggers with releaseAt := n } (.accepted "SET" [fw "RELEASEAT", fi n]) (.set .releaseAt (.num n))))

/-- R13, R74, R131, R139, R141, R158, R199, R205: the reads that change nothing (log entry 19). -/
def Obligations.SettingsAndMapsAreRead : Prop :=
  (∀ s : State, LineFree s →
     (∀ name n, settingValue s name = .num n →
       exec (.askSetting name) s = .next (s.answered (.accepted "ASK" [fw name.word, fi n]))) ∧
     (∀ name w, settingValue s name = .word w →
       exec (.askSetting name) s = .next (s.answered (.accepted "ASK" [fw name.word, fw w]))) ∧
     exec .askLine s = .next (s.answered (.accepted "ASK LINE"
       [ki "BAUD" s.line.baud.rate, ki "RX" 0, ki "TXQ" s.line.queue.length,
         kv "MASK" (if s.line.mask = [] then [.word "NONE"] else s.line.mask.map fun c => .word c.word),
         ki "LOSTLINES" s.line.totalLines, ki "LOSTREPORTS" s.line.totalReports]))) ∧
  (∀ s : State, LineFree s →
     (∀ i : Fin 11, exec (.curveRead i.val) s =
       .next (s.answered (.accepted "CURVE" [fi i.val, fi s.lamp.curve[i]]))) ∧
     (∀ i : Int, i < 0 ∨ 10 < i → exec (.curveRead i) s = .next (s.answered (.refused .range "CURVE"))) ∧
     (∀ (d : Fin 3) (len : LengthClass), exec (.cuemapRead d.val len) s =
       .next (s.answered (.accepted "CUEMAP"
         [fi d.val, fw len.word, fw s.cue.map[symbolIndex ⟨d, len⟩].word]))) ∧
     exec (.keyaddr none) s = .next (s.answered (.accepted "KEYADDR"
       [{ parts := [match s.keys.address with | none => .word "ANY" | some n => .num n] }])) ∧
     (∀ (source : Source) (mode : Mode), exec (.permitRead source mode) s =
       .next (s.answered (.accepted "PERMIT" [fw source.word, fw mode.word, fw (s.triggers.perm source mode).word]))) ∧
     (∀ k, exec (.faultmodeRead k) s =
       .next (s.answered (.accepted "FAULTMODE" [fw k.word, fw (s.faults.record k).mode.word])))) ∧
  (∀ s : State, LineFree s →
     (∀ n : Option Int, ∃ es : List LogEntry,
       es.length = min s.cue.log.length (max 1 (min 4 (n.getD 4))).toNat ∧ es <:+ s.cue.log ∧
       exec (.cuelog n none) s = .next (s.answered (.accepted "CUELOG"
         (fi es.length :: es.map fun e => { parts := logParts e })))) ∧
     (∀ (n : Option Int) (b : Int) (older : List LogEntry) (e : LogEntry) (newer : List LogEntry),
       s.cue.log = older ++ e :: newer → (e.seq : Int) = b → (∀ e' ∈ older, (e'.seq : Int) ≠ b) →
       ∃ es : List LogEntry,
         es.length = min older.length (max 1 (min 4 (n.getD 4))).toNat ∧ es <:+ older ∧
         exec (.cuelog n (some b)) s = .next (s.answered (.accepted "CUELOG"
           (fi es.length :: es.map fun e => { parts := logParts e })))) ∧
     (∀ (n : Option Int) (b : Int), (∀ e ∈ s.cue.log, (e.seq : Int) ≠ b) →
       exec (.cuelog n (some b)) s = .next (s.answered (.refused .range "CUELOG"))) ∧
     exec .cuelogCounts s = .next (s.answered (.accepted "CUELOG COUNTS"
       [ki "ACTED" s.cue.counters.acted, ki "QUEUED" s.cue.counters.queued, ki "FULL" s.cue.counters.full,
         ki "NOTED" s.cue.counters.noted, ki "DROPPED" s.cue.counters.dropped, ki "ECHO" s.cue.counters.echo,
         ki "NOISE" s.cue.counters.noise, ki "CROSSTALK" s.cue.counters.crosstalk, ki "WRITES" s.cue.counters.writes,
         ki "NEXTSEQ" s.cue.nextSeq])))

/-- R51: ASK SLIDE. -/
def Obligations.AskSlideReadsTheChanger : Prop :=
  ∀ s : State, LineFree s →
    exec .askSlide s = .next (s.answered (.accepted "ASK SLIDE"
      [kv "STATE" (match s.changer.state, s.changer.held with
          | .halted, some st => [.word "HALTED", .word st.word]
          | st, _ => [.word st.word]),
        ki "SLOT" s.changer.slot, kw "STATUS" s.changer.status.word,
        kw "TRAY" (if s.changer.trayPresent then "IN" else "OUT"), ki "SIZE" s.changer.size,
        kw "ARM" s.changer.arm.word, kw "GATE" s.changer.occupancy.word, kv "TARGET" (targetParts s.changer.inFlight),
        kv "PENDING" (targetParts s.changer.pendingTarget), ki "RECORD" s.changer.targetOfRecord,
        kw "DIR" s.changer.direction.word, ki "RETRIES" s.changer.retries,
        kv "JAM" (match s.changer.jam with
          | none => [.word "NONE"]
          | some (k, p) => [.word k.word, .word p.word])]))

/-- R77: ASK LAMP. -/
def Obligations.AskLampReadsTheLamp : Prop :=
  ∀ s : State, LineFree s →
    exec .askLamp s = .next (s.answered (.accepted "ASK LAMP"
      [ki "RAMP" s.lamp.value, ki "TARGET" s.lamp.ramp.target, ki "FADE" s.lamp.ramp.duration,
        ki "ELAPSED" s.lamp.ramp.elapsed,
        kw "ORIGIN" (match s.lamp.ramp.origin with
          | none => "NONE" | some .line => "LINE" | some .remote => "REMOTE" | some .show => "SHOW"),
        ki "REQ" s.lamp.requested, ki "LASTLIT" s.lamp.lastLit, ki "THERM" s.lamp.therm, ki "STALL" s.lamp.stall,
        ki "DWELLCAP" s.lamp.dwellCap, ki "GUARD" s.lamp.guard, ki "POWER" s.lamp.power, ki "LEVEL" s.lamp.level,
        ki "DUTY" s.lamp.duty, ki "DWELL" s.lamp.dwell,
        kw "PATH" (match s.lamp.path with | none => "NONE" | some .primary => "PRIMARY" | some .spare => "SPARE"),
        kw "SHIFT" (match s.lamp.shift with | none => "IDLE" | some sh => sh.target.word),
        kw "AUTO" (if s.lamp.autoShift then "ON" else "OFF"),
        kv "HOLD" (match s.lamp.shortHold, s.lamp.shiftHold with
          | false, false => [.word "NONE"] | true, false => [.word "SHORT"] | false, true => [.word "SHIFT"]
          | true, true => [.word "SHORT", .word "SHIFT"]),
        kv "PRIMARY" ([.word s.lamp.primary.state.word, .num s.lamp.primary.burn] ++
          (if s.lamp.primary.replaced then [.word "R"] else [])),
        kv "SPARE" ([.word s.lamp.spare.state.word, .num s.lamp.spare.burn] ++
          (if s.lamp.spare.replaced then [.word "R"] else []))]))

/-- R121: ASK TAPE. -/
def Obligations.AskTapeReadsTheTransport : Prop :=
  ∀ s : State, LineFree s →
    exec .askTape s = .next (s.answered (.accepted "ASK TAPE"
      [kv "STATE" (if s.tape.holdPause then [.word s.tape.state.word, .word "HOLD"] else [.word s.tape.state.word]),
        ki "COUNT" s.tape.counter, kw "END" s.tape.endFlag.word, kw "MOTOR" s.tape.motor.word,
        kv "GUARD" (match s.tape.guard with | none => [.word "NONE"] | some st => [.word st.word, .num s.tape.rest]),
        kv "LOCATE" (match s.tape.locate with
          | none => [.word "NONE"]
          | some l => [.num l.target, .word l.phase.word, .word l.origin.word] ++ (if l.play then [.word "PLAY"] else [])),
        kv "REASONS" (match s.tape.reasons with
          | ⟨false, false, false⟩ => [.word "NONE"]
          | ⟨q, sh, su⟩ => (if q then [.word "QUEUE"] else []) ++ (if sh then [.word "SHOW"] else []) ++
              (if su then [.word "SUPPLY"] else [])),
        ki "VOL" s.tape.value, ki "VTARGET" s.tape.ramp.target, ki "VFADE" s.tape.ramp.duration,
        ki "VELAPSED" s.tape.ramp.elapsed,
        kw "VORIGIN" (match s.tape.ramp.origin with | .line => "LINE" | .show => "SHOW" | .hold => "HOLD"),
        ki "RESUME" s.tape.resume, kw "MUTE" (if s.tape.mute then "ON" else "OFF"), ki "OUT" s.tape.delivered]))

/-- R160: ASK KEYS. -/
def Obligations.AskKeysReadsTheKeyReceiver : Prop :=
  ∀ s : State, LineFree s →
    exec .askKeys s = .next (s.answered (.accepted "ASK KEYS"
      [kv "ADDR" [match s.keys.address with | none => .word "ANY" | some n => .num n],
        kw "KEY" (match s.keys.held with | none => "IDLE" | some k => k.word),
        kw "DIGITS" (if s.keys.digits = [] then "NONE" else digitText s.keys.digits), ki "ENTRYAGE" s.keys.entryTimer,
        kw "WFWD" (if s.keys.fwd.closed then "CLOSED" else "OPEN"),
        kw "WREV" (if s.keys.rev.closed then "CLOSED" else "OPEN"),
        kv "FOCUS" (match s.keys.focus with
          | none => [.word "NONE"]
          | some r => [.word (match r.dir with | .inward => "IN" | .outward => "OUT"),
              .word (match r.origin with | .key => "KEY" | .line => "LINE"),
              .word (if r.driving then "DRIVING" else "WAITING")]),
        kv "FOCUSTIME" [match s.keys.focus with | none => .word "NONE" | some r => .num r.driven],
        kw "PROGNEXT" s.keys.progNext.word, kw "PROGBACK" s.keys.progBack.word, ki "INVALID" s.keys.invalid,
        ki "FOREIGN" s.keys.foreign, ki "UNASSIGNED" s.keys.unassigned, ki "IGNORED" s.keys.ignored]))

/-- R206: ASK FAULTS. -/
def Obligations.AskFaultsReadsTheFaultList : Prop :=
  ∀ s : State, LineFree s →
    exec .askFaults s = .next (s.answered (.accepted "ASK FAULTS"
      ([kw "LINE" (if s.faults.asserted then "ASSERTED" else "RELEASED"),
        kw "SUPPLY" (match s.faults.supply with
          | .good => "GOOD" | .deglitch => "DEGLITCH" | .low => "LOW" | .recovering => "RECOVERING")] ++
        [FaultKind.jam, .slideStuck, .noZero, .trayOut, .lampOpen, .lampShort, .shiftFail, .fanStall, .heatWarn,
          .heatTrip, .sensorBad, .supplyLow, .cueStuck].map fun k =>
          kv k.word [.word (s.faults.record k).mode.word,
            .word (match (s.faults.record k).present, (s.faults.record k).latched with
              | false, false => "CLEAR" | true, false => "PRESENT" | false, true => "LATCHED"
              | true, true => "PRESENT_LATCHED"),
            .num (s.faults.record k).count,
            (match (s.faults.record k).detail with
              | none => .word "NONE"
              | some (.phaseSlot p n) => .pair p.word n
              | some (.num n) => .num n
              | some (.lamp pos) => .word pos.word
              | some (.detector d) => .word (detectorWord d)),
            (match (s.faults.record k).tape with | none => .word "NONE" | some n => .num n)])))

/-- R101, R184, R185, R199: the reads of the heat unit, the show and the queue (log entry 21). -/
def Obligations.HeatAndShowAreRead : Prop :=
  (∀ s : State, LineFree s →
     exec .askHeat s = .next (s.answered (.accepted "ASK HEAT"
       [kw "STATE" s.heat.state.word, kw "REQ" (if s.heat.request then "ON" else "OFF"), ki "T" s.heat.estimate,
         kv "S" [if s.heat.sensorValid then .num s.heat.sensor else .word "BAD"], ki "E" s.heat.effective,
         ki "FAN" s.heat.fan.val, ki "TACH" s.heat.tachLast, kw "STALL" (if s.heat.stall then "ON" else "OFF"),
         kw "WARN" (if s.heat.warn then "ON" else "OFF"), ki "THERM" s.heat.thermCap, ki "STALLCAP" s.heat.stallCap,
         ki "POWERLIM" s.heat.powerLimit,
         kv "RISE" [match s.heat.rise with | none => .word "NONE" | some r => .num r.elapsed],
         ki "AFTER" s.heat.afterSeconds, ki "RECOVER" s.heat.recoverySeconds]))) ∧
  (∀ (s : State) (n : Int), LineFree s →
     (∀ st, 1 ≤ n → s.engine.steps[n.toNat - 1]? = some st →
       exec (.stepask n) s = .next (s.answered (.accepted "STEPASK"
         [fi n,
           kv "SL" [match st.slide with | none => .word "NONE" | some (.slot m) => .num m | some (.offset k) => .signed k],
           kw "ST" (match st.style with | .cut => "CUT" | .fade => "FADE"),
           kv "FD" [.num st.fadeOut, .num st.fadeIn],
           kv "LV" [match st.level with | none => .word "NONE" | some m => .num m],
           kv "SN" (match st.sound with | none => [.word "NONE"] | some (v, f) => [.num v, .num f]),
           kw "TP" (match st.tape with
             | none => "NONE" | some .play => "PLAY" | some .pause => "PAUSE" | some .stop => "STOP"
             | some .restart => "RESTART"),
           kv "AD" (match st.advance with
             | .cue => [.word "CUE"] | .key => [.word "KEY"] | .line => [.word "LINE"]
             | .dwell t => [.word "DWELL", .tenths t] | .cueOrDwell t => [.word "CUE_OR_DWELL", .tenths t]),
           kv "REACHED" [match st.reached with | none => .word "NONE" | some m => .num m]]))) ∧
     (n < 1 ∨ s.engine.steps.length < n → exec (.stepask n) s = .next (s.answered (.refused .range "STEPASK")))) ∧
  (∀ s : State, LineFree s →
     exec .showStatus s = .next (s.answered (.accepted "SHOW STATUS"
       [kw "STATE" s.engine.state.word, ki "COUNT" s.engine.steps.length,
         kv "STEP" [match s.engine.execution with | none => .word "NONE" | some x => .num x.step],
         kv "REASON" [match s.engine.execution with | none => .word "NONE" | some x => .word x.reason.word],
         kv "PHASE" [match s.engine.execution with | none => .word "NONE" | some x => .word x.phase.word],
         kv "TARGET" [match s.engine.execution.bind Execution.target with | none => .word "NONE" | some n => .num n],
         kv "AWAIT" (match s.engine.execution with
           | none => [.word "NONE"]
           | some x =>
             let ws := (if x.rampAwaited then ["RAMP"] else []) ++ (if x.changeAwaited then ["CHANGE"] else []) ++
               (if x.tape = .locating ∨ x.tape = .owed then ["TAPE"] else [])
             if ws = [] then [.word "NONE"] else ws.map .word),
         kv "DEFERRED" [match s.engine.execution with | none => .word "NONE" | some x => .word x.deferred.word],
         kv "CATCHUP" [match s.engine.execution with
           | none => .word "NONE" | some x => .word (if x.catchUp then "ON" else "OFF")],
         kv "DWELL" [match s.engine.execution.bind Execution.dwell with | none => .word "NONE" | some n => .num n],
         ki "LEVEL" s.engine.level,
         kv "CAUSES" (if s.engine.causes = [] then [.word "NONE"] else s.engine.causes.map fun c => .word c.word),
         kw "LOOP" (if s.engine.loop then "ON" else "OFF")])) ∧
     exec .permitStatus s = .next (s.answered (.accepted "PERMIT STATUS"
       ([kw "MODE" s.mode.word, ki "COUNT" s.triggers.queue.length, kw "HOLD" (if s.triggers.hold then "ON" else "OFF"),
         ki "NEXTSEQ" s.triggers.nextSeq] ++
         (s.triggers.queue.zipIdx 1).map (fun (r, i) => kv ("Q" ++ toString i) (triggerParts r)) ++
         [ki "ENTERED" s.triggers.counters.entered, ki "TAKEN" s.triggers.counters.taken,
           ki "UNUSED" s.triggers.counters.unused, ki "FLUSHED" s.triggers.counters.flushed,
           ki "FULL" s.triggers.counters.full, ki "NOTED" s.triggers.counters.noted,
           ki "DROPPED" s.triggers.counters.dropped]))))

/-- R25, R38 to R40, R46 to R50: the changer's requests. -/
def Obligations.ChangerRequestsActInOrder : Prop :=
  (∀ s : State, LineFree s → SeatedAtRest s → s.engine.state ≠ .running → s.engine.state ≠ .held →
     (∀ slot : Nat, slot < s.changer.size → slot ≠ s.changer.slot →
       exec (.goto slot) s =
         .next ((s.onChanger (Changer.liftFor ⟨slot, .line, false, false⟩)).answered (.accepted "GOTO" [fi slot]))) ∧
     (∀ k : Int, k ≠ 0 → 2 ≤ s.changer.size →
       let kk := max (-9) (min 9 k)
       let t := ((s.changer.slot + kk) % s.changer.size).toNat
       let slot := if s.changer.skipZero = true ∧ t = 0 then (if 0 < kk then 1 else s.changer.size - 1) else t
       slot ≠ s.changer.slot →
       exec (.move k) s =
         .next ((s.onChanger (Changer.liftFor ⟨slot, .line, false, false⟩)).answered
           (.accepted "MOVE" [fc kk (decide (k < -9 ∨ 9 < k)), fi slot]))) ∧
     (0 < s.changer.size →
       exec .park s =
         .next ((s.onChanger (Changer.liftFor ⟨0, .line, true, false⟩)).answered (.accepted "PARK" []))) ∧
     exec .home s =
       .next ((s.onChanger fun c => { Changer.liftFor ⟨0, .line, false, false⟩ c with status := .unsure, homes := true }).answered
         (.accepted "HOME" []))) ∧
  (∀ (s : State) (slot : Nat), LineFree s → s.engine.state ≠ .running → s.engine.state ≠ .held →
     slot < s.changer.size →
     (s.changer.state = .lifting ∨ s.changer.state = .homing →
       exec (.goto slot) s = .next ((s.onChanger fun c => { c with inFlight := some ⟨slot, .line, false, false⟩ }).answered
         (.accepted "GOTO" [fi slot]))) ∧
     (s.changer.state = .rotating → slot ≠ s.changer.slot →
       s.changer.trayDrive = some (directionTo s.changer.size s.changer.slot slot) →
       exec (.goto slot) s = .next ((s.onChanger fun c =>
         { c with
           inFlight := some ⟨slot, .line, false, false⟩
           direction := directionTo s.changer.size s.changer.slot slot }).answered (.accepted "GOTO" [fi slot]))) ∧
     (s.changer.state = .dropping ∨ s.changer.state = .settling →
       exec (.goto slot) s =
         .next ((s.onChanger fun c => { c with pendingTarget := some ⟨slot, .line, false, false⟩ }).answered
           (.accepted "GOTO" [fi slot]))))

/-- R12, R46 to R50, R78, R103, R118, R119, R165, R169, R185, R196: refusals (log entry 16). A SET is refused where the
value as its range holds it would break an order. -/
def Obligations.RequestsAreRefusedByState : Prop :=
  (∀ s : State, LineFree s →
     (s.engine.state = .running ∨ s.engine.state = .held ∨ s.changer.state = .noTray ∨ s.changer.state = .jammed →
       (∀ slot : Nat, exec (.goto slot) s = .next (s.answered (.refused .state "GOTO"))) ∧
       (∀ k, exec (.move k) s = .next (s.answered (.refused .state "MOVE"))) ∧
       exec .park s = .next (s.answered (.refused .state "PARK")) ∧
       exec .home s = .next (s.answered (.refused .state "HOME"))) ∧
     (s.engine.state ≠ .running → s.engine.state ≠ .held → s.changer.state ∉ [ChangerState.noTray, .jammed, .halted] →
       (∀ slot : Nat, s.changer.size ≤ slot → exec (.goto slot) s = .next (s.answered (.refused .range "GOTO"))) ∧
       (s.changer.state ≠ .idle → s.changer.state ≠ .unhomed →
         exec .home s = .next (s.answered (.refused .busy "HOME"))))) ∧
  (∀ s : State, LineFree s →
     (s.tape.state = .noTape →
       ∀ i ∈ [Instr.tapePlay, .tapePause, .tapeStop, .tapeFwd, .tapeRew, .tapeCuerec],
         exec i s = .next (s.answered (.refused .state "TAPE"))) ∧
     (s.supplyLow = true ∨ s.tape.endFlag = .fwd →
       ∀ i ∈ [Instr.tapePlay, .tapeFwd, .tapeCuerec], exec i s = .next (s.answered (.refused .state "TAPE"))) ∧
     (s.supplyLow = true ∨ s.tape.endFlag = .rev → exec .tapeRew s = .next (s.answered (.refused .state "TAPE"))) ∧
     (s.engine.state = .running ∨ s.engine.state = .held →
       exec .tapeCuerec s = .next (s.answered (.refused .state "TAPE"))) ∧
     (∀ n play, s.tape.state = .noTape ∨ s.supplyLow = true →
       exec (.locate n play) s = .next (s.answered (.refused .state "LOCATE"))) ∧
     (s.tape.state = .noTape ∨ s.tape.state = .locating → exec .zero s = .next (s.answered (.refused .state "ZERO")))) ∧
  (∀ s : State, LineFree s →
     (s.engine.state = .empty ∨ s.engine.state = .running ∨ s.engine.state = .held ∨ s.engine.causes ≠ [] →
       exec .showRun s = .next (s.answered (.refused .state "SHOW"))) ∧
     (s.engine.state ≠ .running → s.engine.state ≠ .held →
       exec .showStop s = .next (s.answered (.refused .state "SHOW")) ∧
       exec .showHold s = .next (s.answered (.refused .state "SHOW"))) ∧
     (s.engine.state ≠ .held ∨ (∃ c ∈ s.engine.causes, c ≠ .request ∧ c ≠ .supplyLow) →
       exec .showResume s = .next (s.answered (.refused .state "SHOW")))) ∧
  (∀ s : State, LineFree s →
     (∀ n : Int, s.heat.set.tripAt < max 500 (min 1500 n) + 100 →
       exec (.set .warnAt (.num n)) s = .next (s.answered (.refused .range "SET"))) ∧
     (∀ n : Int, max 600 (min 2000 n) < s.heat.set.warnAt + 100 →
       exec (.set .tripAt (.num n)) s = .next (s.answered (.refused .range "SET"))) ∧
     (∀ n : Int, max 2 (min 8 n) ≤ (s.triggers.releaseAt : Int) →
       exec (.set .holdAt (.num n)) s = .next (s.answered (.refused .range "SET"))) ∧
     (∀ n : Int, (s.triggers.holdAt : Int) ≤ max 0 (min 5 n) →
       exec (.set .releaseAt (.num n)) s = .next (s.answered (.refused .range "SET"))) ∧
     (∀ (k : Fin 4) (n : Int),
       let v := max 100 (min 2000 n)
       (∃ j : Fin 4, (j.val + 1 = k.val ∧ v < s.heat.set.fanUp[j] + 50) ∨
         (j.val = k.val + 1 ∧ s.heat.set.fanUp[j] < v + 50)) →
       exec (.set (.fanUp k) (.num n)) s = .next (s.answered (.refused .range "SET"))) ∧
     (∀ name w, settingRange name = none → name ≠ .tray → w ∉ settingWords name →
       exec (.set name (.word w)) s = .next (s.answered (.refused .range "SET"))))

/-- R19, R28, R29, R32, R33: the slot count, the zero check, arrival at the target and the end of a homing run. That pulses
of a homing run do not move the slot is log entry 15. -/
def Obligations.IndexPulsesMoveTheSlot : Prop :=
  (∀ s : State, Between s →
     (∀ zero, s.changer.trayPresent = false →
       exec (.indexPulse zero) s = .next (s.onPins fun p => { p with zeroSensor := zero })) ∧
     (let m : Nat := match s.changer.lastDriven with
         | .forward => if s.changer.slot + 1 < s.changer.size then s.changer.slot + 1 else 0
         | .reverse => if s.changer.slot = 0 then s.changer.size - 1 else s.changer.slot - 1
       s.changer.trayPresent = true → s.changer.homes = false → s.changer.status = .known →
       (s.changer.state = .rotating → m ≠ 0 → s.changer.inFlight.map Target.slot ≠ some m → s.changer.inFlight ≠ none →
         exec (.indexPulse false) s = .next ((s.onPins fun p => { p with zeroSensor := false }).onChanger fun c =>
           { c with slot := m, phaseTimer := some 0 })) ∧
       (s.changer.state = .idle → m ≠ 0 →
         exec (.indexPulse false) s = .next ((s.onPins fun p => { p with zeroSensor := false }).onChanger fun c =>
           { c with slot := m }) ∧
         exec (.indexPulse true) s = .next (((s.onPins fun p => { p with zeroSensor := true }).onChanger fun c =>
           { c with slot := 0 }).report .slide [fw "SLIP", fi m])) ∧
       (s.changer.state = .idle → m = 0 →
         exec (.indexPulse false) s = .next (((s.onPins fun p => { p with zeroSensor := false }).onChanger fun c =>
           { c with slot := 0, status := .unsure }).report .slide [fw "UNSURE"]))) ∧
     (s.changer.trayPresent = true → s.changer.state = .homing → s.changer.homes = true →
       s.changer.homingCount + 1 < s.changer.size + 2 →
       exec (.indexPulse false) s = .next ((s.onPins fun p => { p with zeroSensor := false }).onChanger fun c =>
         { c with homingCount := c.homingCount + 1, phaseTimer := some 0 }))) ∧
  (∀ (s : State) (b : Target), s.changer.inFlight = some b → Between s → LiftedAtWork s → s.changer.trayPresent = true →
     s.changer.homes = false → s.changer.status = .known → s.changer.state = .rotating →
     let m : Nat := match s.changer.lastDriven with
       | .forward => if s.changer.slot + 1 < s.changer.size then s.changer.slot + 1 else 0
       | .reverse => if s.changer.slot = 0 then s.changer.size - 1 else s.changer.slot - 1
     m = b.slot →
     let zero := decide (m = 0)
     let dead := if s.changer.trayDrive.isSome then some 0 else s.changer.trayDead
     (b.park = false → s.changer.gateDead = none →
       exec (.indexPulse zero) s = .next ((s.onPins fun p => { p with zeroSensor := zero }).onChanger fun c =>
         { c with
           slot := m, state := .dropping, trayDrive := none, trayDead := dead, gateDrive := some .down, blanking := some 0
           deglitch := none, startDue := false, phaseTimer := some 0 })) ∧
     (b.park = false → s.changer.gateDead ≠ none →
       exec (.indexPulse zero) s = .next ((s.onPins fun p => { p with zeroSensor := zero }).onChanger fun c =>
         { c with
           slot := m, state := .dropping, trayDrive := none, trayDead := dead, blanking := none, deglitch := none
           startDue := true, phaseTimer := some 0 })) ∧
     (b.park = true → s.changer.pendingTarget = none → s.engine.execution = none →
       exec (.indexPulse zero) s = .next (((s.onPins fun p => { p with zeroSensor := zero }).onChanger fun c =>
         { c with
           slot := m, state := .idle, inFlight := none, trayDrive := none, trayDead := dead, blanking := none
           deglitch := none, startDue := false, phaseTimer := none, settleTimer := none }).report .slide
             [fi m, fw "PARKED"]))) ∧
  (∀ (s : State) (b : Target), s.changer.inFlight = some b → Between s → LiftedAtWork s → s.changer.trayPresent = true →
     s.changer.homes = true → s.changer.state = .homing →
     let dead := if s.changer.trayDrive.isSome then some 0 else s.changer.trayDead
     (b.slot ≠ 0 → dead ≠ none →
       exec (.indexPulse true) s = .next (((s.onPins fun p => { p with zeroSensor := true }).onChanger fun c =>
         { c with
           homingCount := c.homingCount + 1, slot := 0, status := .known, homes := false, state := .rotating
           direction := directionTo c.size 0 b.slot, trayDrive := none, trayDead := dead, blanking := none
           deglitch := none, startDue := true, phaseTimer := some 0 }).report .slide [fw "HOMED"])) ∧
     (b.slot = 0 → b.park = false → s.changer.gateDead = none →
       exec (.indexPulse true) s = .next (((s.onPins fun p => { p with zeroSensor := true }).onChanger fun c =>
         { c with
           homingCount := c.homingCount + 1, slot := 0, status := .known, homes := false, state := .dropping
           trayDrive := none, trayDead := dead, gateDrive := some .down, blanking := some 0, deglitch := none
           startDue := false, phaseTimer := some 0 }).report .slide [fw "HOMED"])) ∧
     (s.changer.size + 2 ≤ s.changer.homingCount + 1 → s.engine.state ≠ .running → s.engine.state ≠ .held →
       (s.faults.record .noZero).mode = .latch → (s.faults.record .noZero).latched = false →
       (s.faults.record .jam).present = false →
       ∃ t, exec (.indexPulse false) s = .next t ∧
         t = { s with
           pins := { s.pins with zeroSensor := false }
           changer := { s.changer with
             homingCount := s.changer.homingCount + 1, state := .jammed, jam := some (.noZero, .homing), inFlight := none
             pendingTarget := none, trayDrive := none, trayDead := dead, blanking := none, deglitch := none
             startDue := false, phaseTimer := none, backoffTimer := none, settleTimer := none }
           faults := t.faults, line := t.line
           engine := { s.engine with causes := Cause.all.filter (· ∈ Cause.noZero :: s.engine.causes) } } ∧
         t.faults.record .noZero = { s.faults.record .noZero with
           present := false, latched := true, count := min 255 ((s.faults.record .noZero).count + 1)
           detail := some (.num (s.changer.homingCount + 1 : Nat))
           tape := if s.tape.present then some s.tape.counter else none } ∧
         (∀ k, k ≠ .noZero → t.faults.record k = s.faults.record k) ∧ t.faults.asserted = true))

/-- R20, R56, R61: the gate record and the guard. That HALTED makes no stuck-slide check where the arm reaches LIFTED under an
interrupted barrier is the model's choice (log entry 39). -/
def Obligations.TheGateRecordFollowsItsSensors : Prop :=
  ∀ s : State, Between s → s.changer.state ∈ [ChangerState.noTray, .unhomed, .idle, .jammed, .halted] →
    (s.faults.record .slideStuck).present = false → s.pins.lampCurrent = .normal →
    ∀ on : Bool,
      ∀ q ∈ [(Instr.topSwitchChange on, { s.pins with topSwitch := on }),
          (.seatSwitchChange on, { s.pins with seatSwitch := on }),
          (.gateBarrierChange on, { s.pins with barrier := on })],
        let arm := armOf q.2.topSwitch q.2.seatSwitch s.changer.gateDrive.isSome
        let occ : Occupancy := match arm with
          | .lifted => .empty
          | .seated => if q.2.barrier then .slide else .empty
          | .moving | .unknown => .unknown
        ∃ t, exec q.1 s = .next t ∧
          t = { s with pins := q.2, changer := { s.changer with arm := arm, occupancy := occ }, lamp := t.lamp } ∧
          (occ = s.changer.occupancy → t.lamp = s.lamp) ∧
          (occ ≠ s.changer.occupancy →
            t.lamp.gateCleared = (s.lamp.gateCleared || s.changer.occupancy == .slide) ∧
            t.lamp.duty ≤ s.lamp.duty ∧
            (s.lamp.guardOn = true ∨ s.lamp.guardNow = true → t.lamp.guard = 0 ∧ t.lamp.level = 0 ∧
              t.lamp.recovery = (if occ = .slide then some 0 else none)))

/-- R26, R27, R30, R31: the ends of LIFT and DROP. -/
def Obligations.SwitchesEndLiftAndDrop : Prop :=
  ∀ s : State, Between s → GateFollows s → s.pins.topSwitch = false → s.pins.seatSwitch = false →
    s.pins.lampCurrent = .normal → s.lamp.guardOn = true ∨ s.lamp.guardNow = true →
    (s.faults.record .slideStuck).present = false →
    s.changer.retryPhase = none →
    (∀ b, s.changer.inFlight = some b → s.changer.state = .lifting → s.changer.gateDrive = some .up →
      s.changer.homes = false → s.changer.trayDrive = none → s.changer.trayDead = none → s.pins.barrier = false →
      b.slot ≠ s.changer.slot →
      let d := directionTo s.changer.size s.changer.slot b.slot
      ∃ t, exec (.topSwitchChange true) s = .next t ∧
        t = { s with
          pins := { s.pins with topSwitch := true }
          changer := { s.changer with
            state := .rotating, arm := .lifted, occupancy := .empty, direction := d, trayDrive := some d, lastDriven := d
            gateDrive := none, gateDead := some 0, blanking := some 0, deglitch := none, startDue := false
            phaseTimer := some 0 }
          lamp := { s.lamp with
            guard := 0, recovery := none, level := 0, duty := t.lamp.duty, openTimer := t.lamp.openTimer } } ∧
        t.lamp.duty ≤ s.lamp.duty) ∧
    (∀ b, s.changer.inFlight = some b → s.changer.state = .dropping → s.changer.gateDrive = some .down →
      s.changer.trayDrive = none →
      let time := if b.short then min s.changer.settle 100 else s.changer.settle
      0 < time →
      ∃ t, exec (.seatSwitchChange true) s = .next t ∧
        t = { s with
          pins := { s.pins with seatSwitch := true }
          changer := { s.changer with
            state := .settling, arm := .seated, occupancy := if s.pins.barrier then .slide else .empty
            gateDrive := none, gateDead := some 0, blanking := none, deglitch := none, startDue := false
            phaseTimer := none, settleTime := time, settleTimer := some 0 }
          lamp := { s.lamp with
            guard := 0, recovery := if s.pins.barrier then some 0 else none, level := 0
            duty := t.lamp.duty, openTimer := t.lamp.openTimer } } ∧
        t.lamp.duty ≤ s.lamp.duty)

/-- R23, R27, R34, R35, R44. That an expiry row acts whatever time has passed is log entry 4; that a backoff counts its
retry once, and that an UNHOMED tray too becomes UNSURE, is log entry 15 beside R44. -/
def Obligations.MotorTimesAct : Prop :=
  (∀ s : State, Between s →
     (∀ high, exec (.motorCurrentChange high) s =
       .next ((s.onPins fun p => { p with motorOver := high }).onChanger fun c =>
         { c with deglitch :=
             if high = true ∧ (c.trayDrive.isSome ∨ c.gateDrive.isSome) ∧ c.blanking = none ∧
                 c.state ∈ [ChangerState.lifting, .rotating, .dropping, .homing]
             then some (c.deglitch.getD 0) else none })) ∧
     (s.changer.blanking ≠ none → exec .motorBlankingEnd s =
       .next (s.onChanger fun c =>
         { c with
           blanking := none
           deglitch :=
             if s.pins.motorOver = true ∧ (c.trayDrive.isSome ∨ c.gateDrive.isSome) ∧
                 c.state ∈ [ChangerState.lifting, .rotating, .dropping, .homing]
             then some (c.deglitch.getD 0) else none })) ∧
     (s.changer.blanking = none → exec .motorBlankingEnd s = .next s)) ∧
  (∀ s : State, Between s → s.changer.state ≠ .backoff → s.changer.arm = armOf s.pins.topSwitch s.pins.seatSwitch false →
     s.changer.occupancy = occupancyOf s.changer.arm s.pins.barrier →
     (s.changer.trayDead ≠ none → s.changer.startDue = false →
       exec (.motorDeadTimeEnd .tray) s = .next (s.onChanger fun c => { c with trayDead := none })) ∧
     (s.changer.gateDead ≠ none → s.changer.startDue = false →
       exec (.motorDeadTimeEnd .gate) s = .next (s.onChanger fun c => { c with gateDead := none })) ∧
     (s.changer.trayDead ≠ none → s.changer.startDue = true → s.changer.state = .rotating → s.changer.arm = .lifted →
       exec (.motorDeadTimeEnd .tray) s = .next (s.onChanger fun c =>
         { c with
           trayDead := none, trayDrive := some c.direction, lastDriven := c.direction, blanking := some 0
           deglitch := none, startDue := false })) ∧
     (s.changer.gateDead ≠ none → s.changer.startDue = true → s.changer.state = .dropping → s.changer.arm = .lifted →
       exec (.motorDeadTimeEnd .gate) s = .next (s.onChanger fun c =>
         { c with gateDead := none, gateDrive := some .down, blanking := some 0, deglitch := none, startDue := false }))) ∧
  (∀ s : State, Between s → ChangerOk s →
     (s.changer.state = .backoff → (s.changer.trayDrive.isSome = true ∨ s.changer.gateDrive.isSome = true) →
       exec .backoffDriveEnd s = .next (s.onChanger fun c =>
         { c with
           arm := armOf s.pins.topSwitch s.pins.seatSwitch false, trayDrive := none, gateDrive := none
           trayDead := if c.trayDrive.isSome then some 0 else c.trayDead
           gateDead := if c.gateDrive.isSome then some 0 else c.gateDead
           startDue := false, blanking := none, deglitch := none, backoffTimer := none, backoffDriven := true
           backoffCounted := true, retries := if c.backoffCounted then c.retries else c.retries + 1 })) ∧
     (s.changer.state ≠ .backoff → exec .backoffDriveEnd s = .next s)) ∧
  (∀ s : State, Between s → GateFollows s → s.pins.topSwitch = false → s.pins.seatSwitch = false →
     s.pins.barrier = true → s.pins.lampCurrent = .normal → s.changer.state = .lifting →
     s.changer.gateDrive = some .up → s.changer.trayDrive = none → s.changer.retryPhase = none →
     s.engine.state ≠ .running → s.engine.state ≠ .held → (s.faults.record .slideStuck).mode = .latch →
     (s.faults.record .slideStuck).latched = false → (s.faults.record .jam).present = false →
     ∃ t, exec (.topSwitchChange true) s = .next t ∧
       t = { s with
         pins := { s.pins with topSwitch := true }
         changer := { s.changer with
           state := .jammed, arm := .lifted, occupancy := .empty, jam := some (.slideStuck, .lift), inFlight := none
           pendingTarget := none, gateDrive := none, gateDead := some 0, blanking := none, deglitch := none
           startDue := false, phaseTimer := none, backoffTimer := none, settleTimer := none }
         lamp := t.lamp, faults := t.faults, line := t.line
         engine := { s.engine with causes := Cause.all.filter (· ∈ Cause.slideStuck :: s.engine.causes) } } ∧
       t.faults.record .slideStuck = { s.faults.record .slideStuck with
         present := true, latched := true, count := min 255 ((s.faults.record .slideStuck).count + 1)
         detail := some (.num s.changer.slot), tape := if s.tape.present then some s.tape.counter else none } ∧
       (∀ k, k ≠ .slideStuck → t.faults.record k = s.faults.record k) ∧ t.faults.asserted = true ∧
       t.lamp.duty ≤ s.lamp.duty) ∧
  (∀ s : State, Between s → GateFollows s → s.changer.state = .backoff → s.changer.backoffDriven = true →
     s.changer.trayDrive = none → s.changer.gateDrive = none →
     (s.changer.gateDead ≠ none → s.changer.arm ≠ .lifted → s.changer.backoffPhase = .lift →
       exec (.motorDeadTimeEnd .gate) s = .next (s.onChanger fun c =>
         { c with
           state := .lifting, arm := armOf s.pins.topSwitch s.pins.seatSwitch true, gateDead := none, gateDrive := some .up
           blanking := some 0, deglitch := none, startDue := false, phaseTimer := some 0 })) ∧
     (s.changer.gateDead ≠ none → s.changer.arm ≠ .seated → s.changer.backoffPhase = .drop →
       exec (.motorDeadTimeEnd .gate) s = .next (s.onChanger fun c =>
         { c with
           state := .dropping, arm := armOf s.pins.topSwitch s.pins.seatSwitch true, gateDead := none
           gateDrive := some .down, blanking := some 0, deglitch := none, startDue := false, phaseTimer := some 0 })) ∧
     (∀ b, s.changer.inFlight = some b → s.changer.trayDead ≠ none → s.changer.arm = .lifted →
       s.changer.backoffPhase = .rotate → b.slot ≠ s.changer.slot →
       let d := directionTo s.changer.size s.changer.slot b.slot
       exec (.motorDeadTimeEnd .tray) s = .next (s.onChanger fun c =>
         { c with
           state := .rotating, direction := d, trayDead := none, trayDrive := some d, lastDriven := d, blanking := some 0
           deglitch := none, startDue := false, phaseTimer := some 0 })) ∧
     (s.changer.trayDead ≠ none → s.changer.arm = .lifted → s.changer.backoffPhase = .homing →
       s.pins.zeroSensor = false →
       exec (.motorDeadTimeEnd .tray) s = .next (s.onChanger fun c =>
         { c with
           state := .homing, direction := .forward, homingCount := 0, keepCount := false, trayDead := none
           trayDrive := some .forward, lastDriven := .forward, blanking := some 0, deglitch := none, startDue := false
           phaseTimer := some 0 }))) ∧
  (∀ s : State, Between s → s.faults.supply = .recovering → s.changer.state = .halted → GateFollows s →
     s.changer.trayDrive = none → s.changer.gateDrive = none → s.tape.state = .stopped → s.lamp.shift = none →
     s.heat.state ≠ .on → (s.faults.record .supplyLow).present = true → (s.faults.record .supplyLow).latched = true →
     s.engine.state ≠ .running → s.engine.state ≠ .held → s.engine.causes = [.supplyLow] →
     ∃ t, exec .supplyRetryEnd s = .next t ∧
       t.faults.supply = .good ∧
       (let resumed (c : Changer) : Prop :=
         t = { s with
           changer := c, tape := { s.tape with reasons := { s.tape.reasons with bySupply := false } }
           faults := t.faults, line := t.line, engine := { s.engine with causes := [] } } ∧
         (∀ k, k ≠ .supplyLow → t.faults.record k = s.faults.record k)
        (s.changer.held = some .lifting → s.changer.arm ≠ .lifted → s.changer.gateDead = none →
           resumed { s.changer with
             state := .lifting, held := none, arm := armOf s.pins.topSwitch s.pins.seatSwitch true
             gateDrive := some .up, blanking := some 0, deglitch := none, startDue := false, phaseTimer := some 0 }) ∧
        (s.changer.held = some .dropping → s.changer.arm ≠ .seated → s.changer.gateDead = none →
           resumed { s.changer with
             state := .dropping, held := none, arm := armOf s.pins.topSwitch s.pins.seatSwitch true
             gateDrive := some .down, blanking := some 0, deglitch := none, startDue := false, phaseTimer := some 0 }) ∧
        (s.changer.held = some .settling →
           resumed { s.changer with state := .settling, held := none, settleTimer := some 0 }) ∧
        (s.changer.held = some .rotating ∨ s.changer.held = some .homing → s.changer.arm = .lifted →
           s.pins.barrier = false → s.pins.zeroSensor = false → s.changer.trayDead = none →
           resumed { s.changer with
             state := .homing, held := none, status := .unsure, homes := true, keepCount := false, homingCount := 0
             direction := .forward, trayDrive := some .forward, lastDriven := .forward, blanking := some 0
             deglitch := none, startDue := false, phaseTimer := some 0 }) ∧
        (s.changer.held = some .backoff → s.changer.backoffPhase = .lift → s.changer.gateDead = none →
           resumed { s.changer with
             state := .backoff, held := none, arm := armOf s.pins.topSwitch s.pins.seatSwitch true
             backoffDriven := false, gateDrive := some .down, blanking := some 0, deglitch := none, startDue := false
             backoffTimer := some 0 })))

/-- R34 to R36, R201: jams. That a timer row acts whatever time has passed is log entry 4; the form of the detail is log
entry 29. -/
def Obligations.AJamBacksOffOrJams : Prop :=
  ∀ (s : State) (i : Instr) (phase : Phase), Between s → ChangerOk s →
    (s.changer.state, phase) ∈
      [(ChangerState.lifting, Phase.lift), (.rotating, .rotate), (.dropping, .drop), (.homing, .homing)] →
    (s.changer.trayDrive.isSome = true ∨ s.changer.gateDrive.isSome = true) →
    (i = .overcurrentDeglitchEnd ∧ s.changer.deglitch ≠ none) ∨ i = .phaseTimeout →
    ((s.faults.record .jam).mode = .retry → s.changer.retries < s.changer.retriesMax →
      ∃ t, exec i s = .next t ∧
        t = { s with
          changer := { s.changer with
            state := .backoff, arm := armOf s.pins.topSwitch s.pins.seatSwitch false, backoffPhase := phase
            backoffDriven := false, backoffCounted := false, backoffTimer := none, phaseTimer := none
            retryPhase := some phase, trayDrive := none, gateDrive := none
            trayDead := if s.changer.trayDrive.isSome then some 0 else s.changer.trayDead
            gateDead := if s.changer.gateDrive.isSome then some 0 else s.changer.gateDead
            startDue := true, blanking := none, deglitch := none }
          faults := t.faults, line := t.line } ∧
        t.faults.record .jam = { s.faults.record .jam with
          present := true, count := min 255 ((s.faults.record .jam).count + 1)
          detail := some (.phaseSlot phase s.changer.slot)
          tape := if s.tape.present then some s.tape.counter else none } ∧
        (∀ k, k ≠ .jam → t.faults.record k = s.faults.record k)) ∧
    ((s.faults.record .jam).mode = .latch ∨
        (s.changer.retriesMax ≤ s.changer.retries ∧ (s.faults.record .jam).mode = .retry) →
      (s.faults.record .jam).latched = false → s.engine.state ≠ .running → s.engine.state ≠ .held →
      ∃ t, exec i s = .next t ∧
        t = { s with
          changer := { s.changer with
            state := .jammed, arm := armOf s.pins.topSwitch s.pins.seatSwitch false, jam := some (.jam, phase)
            inFlight := none, pendingTarget := none, retryPhase := none, phaseTimer := none, backoffTimer := none
            settleTimer := none, trayDrive := none, gateDrive := none
            trayDead := if s.changer.trayDrive.isSome then some 0 else s.changer.trayDead
            gateDead := if s.changer.gateDrive.isSome then some 0 else s.changer.gateDead
            startDue := false, blanking := none, deglitch := none }
          faults := t.faults, line := t.line
          engine := { s.engine with causes := Cause.all.filter (· ∈ Cause.jam :: s.engine.causes) } } ∧
        t.faults.record .jam = { s.faults.record .jam with
          present := false, latched := true, count := min 255 ((s.faults.record .jam).count + 1)
          detail := some (.phaseSlot phase s.changer.slot)
          tape := if s.tape.present then some s.tape.counter else none } ∧
        (∀ k, k ≠ .jam → t.faults.record k = s.faults.record k) ∧ t.faults.asserted = true)

/-- R25, R26, R31, R40 to R43, R61, R178, R201. That the lamp controller receives the completion before the next change
begins is log entry 2; the detail of TRAY_OUT is log entry 29. -/
def Obligations.SettledChangesAndTheTrayAreReported : Prop :=
  (∀ (s : State) (b : Target), s.changer.inFlight = some b → Between s → s.changer.state = .settling →
     s.changer.pendingTarget = none → s.engine.execution = none → s.lamp.gateCleared = false →
     exec .settleEnd s = .next ((s.onChanger fun c =>
       { c with state := .idle, inFlight := none, phaseTimer := none, settleTimer := none }).report .slide
         [fi b.slot, fw (if s.changer.occupancy = .slide then "SEATED" else "EMPTY")])) ∧
  (∀ s : State, Between s →
     (s.changer.trayPresent = true → s.changer.inFlight = none → s.engine.state ≠ .running →
       s.changer.state = .idle ∨ s.changer.state = .unhomed →
       exec .trayOut s = .next (((s.onPins fun p => { p with trayIn := false }).onChanger fun c =>
         { c with trayPresent := false, status := .unhomed, slot := 0, state := .noTray }).report .slide
           [fw "TRAY", fw "OUT"])) ∧
     (∀ zero, s.changer.trayPresent = false → s.changer.state = .noTray → s.supplyLow = false →
       (s.faults.record .trayOut).present = false →
       exec (.trayIn zero) s = .next (((s.onPins fun p => { p with trayIn := true, zeroSensor := zero }).onChanger fun c =>
         { c with trayPresent := true, state := .unhomed, slot := 0 }).report .slide [fw "TRAY", fw "IN"]))) ∧
  (∀ (s : State) (b : Target), s.changer.inFlight = some b → Between s → s.changer.state = .settling →
     s.engine.execution = none →
     let word : Field := fw (if s.changer.occupancy = .slide then "SEATED" else "EMPTY")
     let told : State := s.report .slide [fi b.slot, word]
     let fresh : State := told.onLamp fun l => { l with dwell := 0, gateCleared := false, dwellCap := 1000 }
     let seen : State :=
       if s.changer.occupancy = .slide ∧ s.lamp.gateCleared = true then
         (if s.lamp.dwellCap = 1000 then fresh else fresh.report .lamp [fw "DWELL", fw "OFF"])
       else told
     (s.changer.pendingTarget = none →
       exec .settleEnd s = .next (seen.onChanger fun c =>
         { c with state := .idle, inFlight := none, phaseTimer := none, settleTimer := none })) ∧
     (∀ p, s.changer.pendingTarget = some p → s.changer.status = .known → s.changer.arm = .seated →
       s.changer.occupancy = occupancyOf .seated s.pins.barrier → s.pins.topSwitch = false → s.pins.seatSwitch = true →
       s.changer.gateDead = none →
       (p.slot ≠ s.changer.slot ∨ p.park = true →
         exec .settleEnd s = .next (seen.onChanger fun c =>
           { Changer.liftFor p c with pendingTarget := none, settleTimer := none })) ∧
       (p.slot = s.changer.slot → p.park = false →
         exec .settleEnd s = .next ((seen.report .slide [fi p.slot, word]).onChanger fun c =>
           { c with
             state := .idle, inFlight := none, pendingTarget := none, phaseTimer := none, settleTimer := none
             retries := 0, homes := false, keepCount := false, retryPhase := none, homingCount := 0 })))) ∧
  (∀ (s : State) (b : Target), s.changer.inFlight = some b → Between s → ChangerOk s → s.changer.trayPresent = true →
     b.origin ≠ .show → (∀ p, s.changer.pendingTarget = some p → p.origin ≠ .show) →
     s.engine.state ≠ .running → s.engine.state ≠ .held →
     (s.faults.record .trayOut).mode = .latch ∨ (s.faults.record .trayOut).mode = .report →
     let told (c : Changer) (t : State) : Prop :=
       t = { s with
         pins := { s.pins with trayIn := false }, changer := c, faults := t.faults, line := t.line, engine := t.engine } ∧
       (t.faults.record .jam).present = false ∧ (t.faults.record .trayOut).present = true ∧
       (t.faults.record .trayOut).count = min 255 ((s.faults.record .trayOut).count + 1) ∧
       (t.faults.record .trayOut).detail = some (.num b.slot) ∧
       (t.faults.record .trayOut).tape = (if s.tape.present then some s.tape.counter else none) ∧
       ((s.faults.record .trayOut).mode = .latch → (t.faults.record .trayOut).latched = true) ∧
       (∀ k, k ≠ .trayOut → k ≠ .jam → t.faults.record k = s.faults.record k) ∧
       t.engine = { s.engine with
         causes := if (s.faults.record .trayOut).mode = .latch ∧ (s.faults.record .trayOut).latched = false
           then Cause.all.filter (· ∈ Cause.trayOut :: s.engine.causes) else s.engine.causes };
     (s.changer.state ∈ [ChangerState.lifting, .rotating, .dropping, .settling, .homing, .backoff] →
       ∃ t, exec .trayOut s = .next t ∧ told { s.changer with
         state := .noTray, trayPresent := false, status := .unhomed, slot := 0, inFlight := none, pendingTarget := none
         arm := armOf s.pins.topSwitch s.pins.seatSwitch false, trayDrive := none, gateDrive := none
         trayDead := if s.changer.trayDrive.isSome then some 0 else s.changer.trayDead
         gateDead := if s.changer.gateDrive.isSome then some 0 else s.changer.gateDead
         startDue := false, blanking := none, deglitch := none, retryPhase := none, phaseTimer := none
         backoffTimer := none, settleTimer := none } t) ∧
     (s.changer.state = .halted →
       ∃ t, exec .trayOut s = .next t ∧ told { s.changer with
         held := some .noTray, trayPresent := false, status := .unhomed, slot := 0, inFlight := none
         pendingTarget := none, retryPhase := none } t))

/-- R52, R53, R73: LAMP. -/
def Obligations.LampStartsARamp : Prop :=
  ∀ (s : State) (level : Int) (fade : Option Int), LineFree s →
    let f := fade.getD 0
    let lv := (max 0 (min 1000 level)).toNat
    let fd := (max 0 (min 9900 f)).toNat / 10 * 10
    let reply : Reply := .accepted "LAMP" [fc lv (decide (level < 0 ∨ 1000 < level)), fc fd (decide (f < 0 ∨ 9900 < f))]
    (s.engine.state = .running ∨ s.engine.state = .held →
      exec (.lamp level fade) s = .next (s.answered (.refused .state "LAMP"))) ∧
    (s.engine.state ≠ .running → s.engine.state ≠ .held → fd ≠ 0 →
      exec (.lamp level fade) s = .next ((s.onLamp fun l =>
        { l with
          ramp := ⟨l.value, lv, fd, 0, some .line, true⟩, requested := lv
          lastLit := if 0 < lv then lv else l.lastLit }).answered reply)) ∧
    (s.engine.state ≠ .running → s.engine.state ≠ .held → fd = 0 →
      exec (.lamp level fade) s = .next (s.takes (fun s => (s.onLamp fun l =>
        { l with
          ramp := ⟨l.value, lv, 0, 0, some .line, false⟩, requested := lv, value := lv
          lastLit := if 0 < lv then lv else l.lastLit }).report .lamp [fw "DONE", fi lv]) reply))

/-- R57 to R59, R74: the lamp curve. That the duty computed at once with a new point never rises, the smaller of the old duty
and that of the table under the new curve, is log entry 11. -/
def Obligations.TheCurveKeepsItsOrder : Prop :=
  (∀ (s : State) (i : Fin 11) (duty : Int), LineFree s → s.pins.lampCurrent = .normal →
     let ordered := (∀ j : Fin 11, j.val + 1 = i.val → (s.lamp.curve[j] : Int) ≤ duty) ∧
       (∀ j : Fin 11, j.val = i.val + 1 → duty ≤ s.lamp.curve[j])
     let dark := s.supplyLow = true ∨ s.lamp.shift ≠ none ∨ s.lamp.shortHold = true ∨ s.lamp.shiftHold = true ∨
       (s.lamp.primary.state ≠ .active ∧ s.lamp.spare.state ≠ .active) ∨ s.heat.state ∈ [PowerState.standby, .cooldown, .tripped]
     (0 ≤ duty → duty ≤ 4095 → ordered →
       exec (.curveLoad i.val duty) s = .next ((s.onLamp fun l =>
         let curve := l.curve.set i duty.toNat
         let table := if dark then 0 else if s.heat.state = .on then max (curveDuty curve l.leastLevel) l.keepWarmNow
           else curveDuty curve l.leastLevel
         { l with curve := curve, level := l.leastLevel, duty := min l.duty table, openTimer := none }).answered
           (.accepted "CURVE" [fi i.val, fi duty]))) ∧
     (duty < 0 ∨ 4095 < duty ∨ ¬ ordered →
       exec (.curveLoad i.val duty) s = .next (s.answered (.refused .range "CURVE")))) ∧
  (∀ (s : State) (i duty : Int), LineFree s → i < 0 ∨ 10 < i →
     exec (.curveLoad i duty) s = .next (s.answered (.refused .range "CURVE"))) ∧
  (∀ (p : Vector Nat 11) (level : Nat), CurveRises p →
     (∀ i : Fin 11, curveDuty p (100 * i.val) = p[i]) ∧
     (level ≤ 1000 → curveDuty p level ≤ 4095) ∧
     (level ≤ 999 → curveDuty p level ≤ curveDuty p (level + 1)))

/-- R62, R65, R67, R68, R75, R76, R93, R94, R202: LAMPMOD (no path: log entry 11; REPLACE of a record already ACTIVE: log
entry 31). -/
def Obligations.LampmodActs : Prop :=
  (∀ s : State, LineFree s →
     (∀ pos, s.lamp.path = some pos → s.lamp.shift = none → s.supplyLow = false →
       (s.lamp.record pos.other).state = .good → s.pins.lampCurrent = .normal →
       exec .lampmodShift s = .next (s.takes (fun s => (s.onLamp fun l =>
         { l with
           primary := if l.primary.state = .active ∧ pos = .primary then { l.primary with state := .good } else l.primary
           spare := if l.spare.state = .active ∧ pos = .spare then { l.spare with state := .good } else l.spare
           shift := some ⟨pos.other, 0, true⟩, level := l.leastLevel, duty := 0, openTimer := none }).report .lamp
             [fw "SHIFT", fw pos.other.word])
         (.accepted "LAMPMOD" [fw "SHIFT", fw pos.other.word]))) ∧
     (s.lamp.shift ≠ none →
       exec .lampmodShift s = .next (s.answered (.refused .busy "LAMPMOD")) ∧
       (∀ pos, exec (.lampmodReplace pos) s = .next (s.answered (.refused .busy "LAMPMOD"))) ∧
       (∀ pos, (s.lamp.record pos).state = .good →
         exec (.lampmodRemove pos) s = .next (s.answered (.refused .busy "LAMPMOD")))) ∧
     (s.lamp.shift = none →
       s.lamp.path = none ∨ s.supplyLow = true ∨
         (∃ pos, s.lamp.path = some pos ∧ (s.lamp.record pos.other).state ≠ .good) →
       exec .lampmodShift s = .next (s.answered (.refused .state "LAMPMOD")))) ∧
  (∀ s : State, LineFree s →
     (∀ on, exec (.lampmodAuto on) s = .next ((s.onLamp fun l => { l with autoShift := on }).answered
       (.accepted "LAMPMOD" [fw "AUTO", fw (if on then "ON" else "OFF")]))) ∧
     (s.lamp.shift = none →
       (∀ pos, s.lamp.path ≠ some pos →
         exec (.lampmodReplace pos) s = .next (s.takes (fun s =>
           (s.onLamp (Lamp.changeRecord pos fun _ => ⟨.good, 0, 0, true⟩)).report .lamp [fw "REPLACED", fw pos.word])
           (.accepted "LAMPMOD" [fw "REPLACE", fw pos.word, fw "GOOD"]))) ∧
       (∀ pos, s.lamp.path = some pos →
         (s.lamp.record pos).state = .active ∨
           (s.heat.state ≠ .on ∧ (s.faults.record .lampOpen).present = false ∧
             (s.faults.record .shiftFail).present = false) →
         exec (.lampmodReplace pos) s = .next (s.takes (fun s =>
           (s.onLamp (Lamp.changeRecord pos fun _ => ⟨.active, 0, 0, true⟩)).report .lamp [fw "REPLACED", fw pos.word])
           (.accepted "LAMPMOD" [fw "REPLACE", fw pos.word, fw "ACTIVE"]))) ∧
       (∀ pos, (s.lamp.record pos).state = .good →
         exec (.lampmodRemove pos) s = .next (s.takes (fun s =>
           (s.onLamp (Lamp.changeRecord pos fun r => { r with state := .absent })).report .lamp
             [fw "REMOVED", fw pos.word])
           (.accepted "LAMPMOD" [fw "REMOVE", fw pos.word])))) ∧
     (∀ pos, (s.lamp.record pos).state ≠ .good →
       exec (.lampmodRemove pos) s = .next (s.answered (.refused .state "LAMPMOD")))) ∧
  (∀ (s : State) (pos : LampPos), LineFree s → s.lamp.shift = none → s.lamp.path = some pos →
     (s.lamp.record pos).state ≠ .active → s.heat.state = .on →
     let lit (s : State) : State := (s.onHeat fun h =>
       { h with rise := some ⟨0, h.set.warmUp⟩, riseTimer := 0, powerLimit := 0 }).onLamp fun l =>
         { Lamp.changeRecord pos (fun _ => ⟨.active, 0, 0, true⟩) l with pubPower := 0 }
     ((s.faults.record .lampOpen).present = false → (s.faults.record .shiftFail).present = false →
       exec (.lampmodReplace pos) s = .next (s.takes (fun s => (lit s).report .lamp [fw "REPLACED", fw pos.word])
         (.accepted "LAMPMOD" [fw "REPLACE", fw pos.word, fw "ACTIVE"]))) ∧
     (∃ t, exec (.lampmodReplace pos) s = .next t ∧
       t = { lit s with faults := t.faults, line := t.line } ∧
       (t.faults.record .lampOpen).present = false ∧ (t.faults.record .shiftFail).present = false ∧
       (∀ k, (t.faults.record k).latched = (s.faults.record k).latched) ∧
       (∀ k, k ≠ .lampOpen → k ≠ .shiftFail → t.faults.record k = s.faults.record k)))

/-- R53 to R57, R59, R60, R63, R70: one update. That the level and the duty are recomputed once more in the update that
brings the dwell cap into force is log entry 12 (DEDUCED); the guard in force is a field of the model (log entry 28). -/
def Obligations.AnUpdateComputesTheDuty : Prop :=
  (∀ s : State, Between s → s.pins.lampCurrent = .normal →
     s.lamp.dwellCap ≠ 1000 ∨ s.lamp.dwell + 10 < s.lamp.dwellLimit * 1000 →
     (s.lamp.ramp.active = true → s.lamp.ramp.elapsed + 10 < s.lamp.ramp.duration) →
     let value := if s.lamp.ramp.active
       then (s.lamp.ramp.start + (((s.lamp.ramp.target : Int) - s.lamp.ramp.start) * (s.lamp.ramp.elapsed + 10 : Nat)).tdiv
         s.lamp.ramp.duration).toNat
       else s.lamp.value
     let guard := if s.lamp.guardOn = false then 1000 else match s.lamp.recovery with
       | none => s.lamp.guard
       | some e => if 150 ≤ e + 10 then 1000 else 1000 * (e + 10) / 150
     let level := min value (min s.lamp.pubTherm (min s.lamp.pubStall (min s.lamp.dwellCap (min guard s.lamp.pubPower))))
     let dark := s.supplyLow = true ∨ s.lamp.shift ≠ none ∨ s.lamp.shortHold = true ∨ s.lamp.shiftHold = true ∨
       (s.lamp.primary.state ≠ .active ∧ s.lamp.spare.state ≠ .active) ∨ s.heat.state ∈ [PowerState.standby, .cooldown, .tripped]
     ∃ t, exec .lampUpdate s = .next t ∧
       t = { s with lamp := { s.lamp with
         updateTimer := 0, ramp := { s.lamp.ramp with
           elapsed := if s.lamp.ramp.active then s.lamp.ramp.elapsed + 10 else s.lamp.ramp.elapsed }
         value := value, guard := guard, guardNow := s.lamp.guardOn, recovery := t.lamp.recovery
         therm := s.lamp.pubTherm, stall := s.lamp.pubStall
         power := s.lamp.pubPower, keepWarmNow := s.lamp.keepWarm, level := level, duty := t.lamp.duty
         openTimer := none, dwell := t.lamp.dwell, primary := t.lamp.primary, spare := t.lamp.spare } } ∧
       t.lamp.duty = (if dark then 0 else if s.heat.state = .on then max (curveDuty s.lamp.curve level) s.lamp.keepWarm
         else curveDuty s.lamp.curve level) ∧
       t.lamp.dwell = (if 800 < level ∧ s.changer.occupancy = .slide ∧ 0 < t.lamp.duty then s.lamp.dwell + 10
         else s.lamp.dwell) ∧
       t.lamp.recovery = (if s.lamp.guardOn = false then none else match s.lamp.recovery with
         | none => none
         | some e => if 150 ≤ e + 10 then none else some (e + 10)) ∧
       (t.lamp.duty ≤ s.lamp.keepWarm → t.lamp.primary = s.lamp.primary ∧ t.lamp.spare = s.lamp.spare) ∧
       (s.lamp.keepWarm < t.lamp.duty → ∀ pos,
         let r := s.lamp.record pos
         t.lamp.record pos =
           if r.state = .active ∧ (pos = .primary ∨ s.lamp.primary.state ≠ .active) then
             (if 1000 ≤ r.part + 10 then { r with part := 0, burn := min 4294967295 (r.burn + 1) }
              else { r with part := r.part + 10 })
           else r) ∧
       (∀ pos, (t.lamp.record pos).state = (s.lamp.record pos).state)) ∧
  (∀ s : State, Between s → s.pins.lampCurrent = .normal → s.lamp.dwellCap = 1000 →
     (s.lamp.ramp.active = true → s.lamp.ramp.elapsed + 10 < s.lamp.ramp.duration) →
     let value := if s.lamp.ramp.active
       then (s.lamp.ramp.start + (((s.lamp.ramp.target : Int) - s.lamp.ramp.start) * (s.lamp.ramp.elapsed + 10 : Nat)).tdiv
         s.lamp.ramp.duration).toNat
       else s.lamp.value
     let guard := if s.lamp.guardOn = false then 1000 else match s.lamp.recovery with
       | none => s.lamp.guard
       | some e => if 150 ≤ e + 10 then 1000 else 1000 * (e + 10) / 150
     let uncapped := min value (min s.lamp.pubTherm (min s.lamp.pubStall (min 1000 (min guard s.lamp.pubPower))))
     let level := min uncapped 600
     let dark := s.supplyLow = true ∨ s.lamp.shift ≠ none ∨ s.lamp.shortHold = true ∨ s.lamp.shiftHold = true ∨
       (s.lamp.primary.state ≠ .active ∧ s.lamp.spare.state ≠ .active) ∨ s.heat.state ∈ [PowerState.standby, .cooldown, .tripped]
     let duty (level : Nat) := if dark then 0 else if s.heat.state = .on then max (curveDuty s.lamp.curve level) s.lamp.keepWarm
       else curveDuty s.lamp.curve level
     let dwell := if 800 < uncapped ∧ s.changer.occupancy = .slide ∧ 0 < duty uncapped then s.lamp.dwell + 10 else s.lamp.dwell
     s.lamp.dwellLimit * 1000 ≤ dwell →
     ∃ t, exec .lampUpdate s = .next t ∧
       t = { s with
         lamp := { s.lamp with
           updateTimer := 0, ramp := { s.lamp.ramp with
             elapsed := if s.lamp.ramp.active then s.lamp.ramp.elapsed + 10 else s.lamp.ramp.elapsed }
           value := value, guard := guard, guardNow := s.lamp.guardOn, recovery := t.lamp.recovery
           therm := s.lamp.pubTherm, stall := s.lamp.pubStall, power := s.lamp.pubPower, keepWarmNow := s.lamp.keepWarm
           dwell := dwell, dwellCap := 600, level := level, duty := duty level, openTimer := none
           primary := t.lamp.primary, spare := t.lamp.spare }
         line := s.line.offer .lamp [fw "DWELL", fw "ON"] } ∧
       t.lamp.recovery = (if s.lamp.guardOn = false then none else match s.lamp.recovery with
         | none => none
         | some e => if 150 ≤ e + 10 then none else some (e + 10)) ∧
       (duty level ≤ s.lamp.keepWarm → t.lamp.primary = s.lamp.primary ∧ t.lamp.spare = s.lamp.spare) ∧
       (∀ pos, (t.lamp.record pos).state = (s.lamp.record pos).state))

/-- R53, R56, R57, R59, R63, R113 to R115: the ends of the ramps. The end timer at 0 at the stop of the motor by the hold fade
is the model's choice (log entry 35); the guard in force is a field of the model (log entry 28). -/
def Obligations.RampsCompleteAndDeliver : Prop :=
  (∀ s : State, Between s → s.lamp.ramp.active = true → s.lamp.ramp.duration ≤ s.lamp.ramp.elapsed + 10 →
     s.engine.execution = none → ShowOk s.engine →
     ∃ t, exec .lampUpdate s = .next t ∧ t.lamp.value = s.lamp.ramp.target ∧
       t.lamp.ramp = { s.lamp.ramp with elapsed := s.lamp.ramp.elapsed + 10, active := false } ∧
       t.changer = s.changer ∧ t.heat = s.heat ∧ t.tape = s.tape ∧ t.cue = s.cue ∧ t.keys = s.keys ∧ t.pins = s.pins) ∧
  (∀ s : State, Between s → s.pins.lampCurrent = .normal →
     s.lamp.dwellCap ≠ 1000 ∨ s.lamp.dwell + 10 < s.lamp.dwellLimit * 1000 →
     s.lamp.ramp.active = true → s.lamp.ramp.duration ≤ s.lamp.ramp.elapsed + 10 →
     s.lamp.ramp.origin ≠ some .show ∨ (∀ x, s.engine.execution = some x → x.rampAwaited = false) →
     let guard := if s.lamp.guardOn = false then 1000 else match s.lamp.recovery with
       | none => s.lamp.guard
       | some e => if 150 ≤ e + 10 then 1000 else 1000 * (e + 10) / 150
     let level := min s.lamp.ramp.target
       (min s.lamp.pubTherm (min s.lamp.pubStall (min s.lamp.dwellCap (min guard s.lamp.pubPower))))
     let dark := s.supplyLow = true ∨ s.lamp.shift ≠ none ∨ s.lamp.shortHold = true ∨ s.lamp.shiftHold = true ∨
       (s.lamp.primary.state ≠ .active ∧ s.lamp.spare.state ≠ .active) ∨ s.heat.state ∈ [PowerState.standby, .cooldown, .tripped]
     let duty := if dark then 0 else if s.heat.state = .on then max (curveDuty s.lamp.curve level) s.lamp.keepWarm
       else curveDuty s.lamp.curve level
     ∃ t, exec .lampUpdate s = .next t ∧
       t = { s with
         lamp := { s.lamp with
           updateTimer := 0, ramp := { s.lamp.ramp with elapsed := s.lamp.ramp.elapsed + 10, active := false }
           value := s.lamp.ramp.target, guard := guard, guardNow := s.lamp.guardOn, recovery := t.lamp.recovery
           therm := s.lamp.pubTherm, stall := s.lamp.pubStall, power := s.lamp.pubPower, keepWarmNow := s.lamp.keepWarm
           level := level, duty := duty, openTimer := none
           dwell := if 800 < level ∧ s.changer.occupancy = .slide ∧ 0 < duty then s.lamp.dwell + 10 else s.lamp.dwell
           primary := t.lamp.primary, spare := t.lamp.spare }
         line := s.line.offer .lamp [fw "DONE", fi s.lamp.ramp.target] } ∧
       t.lamp.recovery = (if s.lamp.guardOn = false then none else match s.lamp.recovery with
         | none => none
         | some e => if 150 ≤ e + 10 then none else some (e + 10)) ∧
       (duty ≤ s.lamp.keepWarm → t.lamp.primary = s.lamp.primary ∧ t.lamp.spare = s.lamp.spare) ∧
       (s.lamp.keepWarm < duty → ∀ pos,
         let r := s.lamp.record pos
         t.lamp.record pos =
           if r.state = .active ∧ (pos = .primary ∨ s.lamp.primary.state ≠ .active) then
             (if 1000 ≤ r.part + 10 then { r with part := 0, burn := min 4294967295 (r.burn + 1) }
              else { r with part := r.part + 10 })
           else r)) ∧
  (∀ s : State, Between s → (s.tape.ramp.active = true → s.tape.ramp.elapsed + 20 < s.tape.ramp.duration) →
     let value := if s.tape.ramp.active
       then (s.tape.ramp.start + (((s.tape.ramp.target : Int) - s.tape.ramp.start) * (s.tape.ramp.elapsed + 20 : Nat)).tdiv
         s.tape.ramp.duration).toNat
       else s.tape.value
     exec .volumeUpdate s = .next (s.onTape fun t =>
       { t with
         updateTimer := 0, value := value
         ramp := { t.ramp with elapsed := if t.ramp.active then t.ramp.elapsed + 20 else t.ramp.elapsed }
         delivered := if t.mute = false ∧ (t.state = .playing ∨ t.state = .cueRecord) then value else 0 })) ∧
  (∀ s : State, Between s → s.tape.ramp.active = true → s.tape.ramp.duration ≤ s.tape.ramp.elapsed + 20 →
     let done : State := (s.onTape fun t =>
       { t with
         updateTimer := 0, value := t.ramp.target
         ramp := { t.ramp with elapsed := t.ramp.elapsed + 20, active := false }
         delivered := if t.mute = false ∧ (t.state = .playing ∨ t.state = .cueRecord) then t.ramp.target else 0 }).report
           .tape [fw "VOL", fi s.tape.ramp.target]
     (s.tape.ramp.origin ≠ .hold ∨ s.tape.reasons.byShow = false ∨ s.tape.state ≠ .playing →
       exec .volumeUpdate s = .next done) ∧
     (s.tape.ramp.origin = .hold → s.tape.reasons.byShow = true → s.tape.state = .playing → s.tape.motor = .play →
       (∀ d : Fin 3, s.cue.units[d].classifier = .quiet ∧ s.cue.units[d].awaiting = []) →
       ∃ t, exec .volumeUpdate s = .next t ∧
         t = { done.report .tape [fw "PAUSED", fw "HOLD"] with
           tape := { done.tape with
             state := .paused, holdPause := true, motor := .off, rest := 0, endTimer := 0, delivered := 0 }
           triggers := { s.triggers with toldTape := .paused }
           cue := t.cue } ∧
         t.cue.detecting = false ∧ t.cue.log = s.cue.log ∧ t.cue.counters = s.cue.counters ∧
         (∀ d : Fin 3, t.cue.units[d].classifier = .quiet ∧ (s.cue.detecting = true → t.cue.units[d].window = none))))

/-- R64, R65, R66: open and short lamps. That OPEN_TIMER_EXPIRY acts whatever time has passed is log entry 4. -/
def Obligations.TheLampCurrentIsJudged : Prop :=
  (∀ s : State, Between s →
     ((s.faults.record .lampShort).present = false →
       exec (.lampCurrentChange .normal) s =
         .next ((s.onPins fun p => { p with lampCurrent := .normal }).onLamp fun l => { l with openTimer := none }) ∧
       exec (.lampCurrentChange .belowOpen) s =
         .next ((s.onPins fun p => { p with lampCurrent := .belowOpen }).onLamp fun l =>
           { l with openTimer :=
               if 400 ≤ l.duty ∧ (l.primary.state = .active ∨ l.spare.state = .active) then some (l.openTimer.getD 0)
               else none })) ∧
     (s.lamp.duty = 0 → exec (.lampCurrentChange .aboveShort) s =
       .next ((s.onPins fun p => { p with lampCurrent := .aboveShort }).onLamp fun l => { l with openTimer := none })) ∧
     (0 < s.lamp.duty → (s.faults.record .lampShort).mode = .latch → (s.faults.record .lampShort).latched = false →
       s.engine.state ≠ .running → s.engine.state ≠ .held →
       ∃ t, exec (.lampCurrentChange .aboveShort) s = .next t ∧
         t = { s with
           pins := { s.pins with lampCurrent := .aboveShort }
           lamp := { s.lamp with level := s.lamp.leastLevel, duty := 0, shortHold := true, openTimer := none }
           faults := t.faults, line := t.line
           engine := { s.engine with causes := Cause.all.filter (· ∈ Cause.lampShort :: s.engine.causes) } } ∧
         (t.faults.record .lampShort).present = true ∧ (t.faults.record .lampShort).latched = true ∧
         t.faults.asserted = true ∧ (∀ k, k ≠ .lampShort → t.faults.record k = s.faults.record k))) ∧
  (∀ (s : State) (pos : LampPos), Between s → s.lamp.openTimer ≠ none → s.lamp.path = some pos →
     (s.lamp.record pos).state = .active → (s.lamp.record pos.other).state ≠ .active → s.lamp.shift = none →
     (s.lamp.autoShift = true → (s.lamp.record pos.other).state = .good →
       exec .openTimerExpiry s = .next (((s.onLamp fun l => { Lamp.changeRecord pos (fun r => { r with state := .failed }) l with
         openTimer := none, level := l.leastLevel, duty := 0, shift := some ⟨pos.other, 0, true⟩ }).report .lamp
           [fw "FAILED", fw pos.word]).report
           .lamp [fw "SHIFT", fw pos.other.word])) ∧
     (s.lamp.autoShift = false ∨ (s.lamp.record pos.other).state ≠ .good →
       (s.faults.record .lampOpen).mode = .latch → (s.faults.record .lampOpen).latched = false →
       s.engine.state ≠ .running → s.engine.state ≠ .held →
       ∃ t, exec .openTimerExpiry s = .next t ∧
         t = { s with
           lamp := { Lamp.changeRecord pos (fun r => { r with state := .failed }) s.lamp with
             openTimer := none, level := s.lamp.leastLevel, duty := 0 }
           faults := t.faults, line := t.line
           engine := { s.engine with causes := Cause.all.filter (· ∈ Cause.lampOpen :: s.engine.causes) } } ∧
         (t.faults.record .lampOpen).latched = true ∧
         (t.faults.record .lampOpen).present = true ∧ (t.faults.record .lampOpen).detail = some (.lamp pos) ∧
         (∀ k, k ≠ .lampOpen → t.faults.record k = s.faults.record k)))

/-- R57, R59, R61, R62, R65, R67, R68, R93, R94, R202: the lamp shift (log entry 13). That SHIFT_TIMEOUT changes nothing while the
shift motor is not driven is log entry 4. -/
def Obligations.TheShiftEndsOrFails : Prop :=
  (∀ (s : State), Between s → s.pins.lampCurrent = .normal → s.heat.state ≠ .on →
     (s.faults.record .lampOpen).present = false → (s.faults.record .shiftFail).present = false →
     (exec (.shiftSwitchChange s.lamp.path) s = .next (s.onPins fun p => { p with shiftSwitch := s.lamp.path })) ∧
     (∀ pos, s.lamp.path = some pos → (s.lamp.record pos).state = .active → (s.lamp.record pos.other).state = .good →
       s.lamp.shift = none ∨ (∃ sh, s.lamp.shift = some sh ∧ sh.target = pos.other) →
       ∃ t, exec (.shiftSwitchChange (some pos.other)) s = .next t ∧
         t = { s with
           pins := { s.pins with shiftSwitch := some pos.other }
           lamp := { s.lamp with
             path := some pos.other, shift := none, primary := t.lamp.primary, spare := t.lamp.spare
             level := s.lamp.leastLevel, duty := 0, openTimer := none }
           line := s.line.offer .lamp [fw (if s.lamp.shift = none then "PATH" else "SHIFTED"), fw pos.other.word] } ∧
         t.lamp.record pos = { s.lamp.record pos with state := .good } ∧
         t.lamp.record pos.other = { s.lamp.record pos.other with state := .active })) ∧
  (∀ (s : State) (sh : Shift), s.lamp.shift = some sh → Between s →
     (sh.driven = false → exec .shiftTimeout s = .next s) ∧
     (sh.driven = true → s.lamp.path = none → s.lamp.primary.state ≠ .active → s.lamp.spare.state ≠ .active →
       (s.faults.record .shiftFail).mode = .latch → (s.faults.record .shiftFail).latched = false →
       s.engine.state ≠ .running → s.engine.state ≠ .held →
       ∃ t, exec .shiftTimeout s = .next t ∧
         t = { s with
           lamp := { s.lamp with shift := none, shiftHold := true }, faults := t.faults, line := t.line
           engine := { s.engine with causes := Cause.all.filter (· ∈ Cause.shiftFail :: s.engine.causes) } } ∧
         (t.faults.record .shiftFail).present = true ∧ (t.faults.record .shiftFail).latched = true ∧
         (t.faults.record .shiftFail).detail = some (.lamp sh.target) ∧ t.faults.asserted = true)) ∧
  (∀ (s : State) (pos : LampPos), Between s → s.pins.lampCurrent = .normal → s.lamp.path ≠ some pos →
     (s.lamp.record pos).state = .good → s.lamp.shift = none ∨ (∃ sh, s.lamp.shift = some sh ∧ sh.target = pos) →
     let left := s.lamp.path = some pos.other ∧ (s.lamp.record pos.other).state = .active
     left ∨ (s.lamp.record pos.other).state ≠ .active →
     ∃ t, exec (.shiftSwitchChange (some pos)) s = .next t ∧
       t = { s with
         pins := { s.pins with shiftSwitch := some pos }
         heat := if s.heat.state = .on
           then { s.heat with rise := some ⟨0, s.heat.set.warmUp⟩, riseTimer := 0, powerLimit := 0 } else s.heat
         lamp := { s.lamp with
           path := some pos, shift := none, pubPower := if s.heat.state = .on then 0 else s.lamp.pubPower
           primary := t.lamp.primary, spare := t.lamp.spare
           level := if left then s.lamp.leastLevel else s.lamp.level, duty := if left then 0 else s.lamp.duty
           openTimer := if left then none else s.lamp.openTimer }
         faults := t.faults, line := t.line } ∧
       t.lamp.record pos = { s.lamp.record pos with state := .active } ∧
       t.lamp.record pos.other = (if left then { s.lamp.record pos.other with state := .good }
         else s.lamp.record pos.other) ∧
       (t.faults.record .lampOpen).present = false ∧ (t.faults.record .shiftFail).present = false ∧
       (∀ k, k ≠ .lampOpen → k ≠ .shiftFail → t.faults.record k = s.faults.record k) ∧
       ((s.faults.record .lampOpen).present = false → (s.faults.record .shiftFail).present = false →
         t.faults = s.faults ∧
         t.line = s.line.offer .lamp [fw (if s.lamp.shift = none then "PATH" else "SHIFTED"), fw pos.word])) ∧
  (∀ (s : State) (pos : LampPos), Between s → s.lamp.path ≠ some pos → (∀ p, (s.lamp.record p).state ≠ .active) →
     let arrived : State := (s.onPins fun p => { p with shiftSwitch := some pos }).onLamp fun l => { l with path := some pos }
     (∀ sh, s.lamp.shift = some sh → sh.target ≠ pos → exec (.shiftSwitchChange (some pos)) s = .next arrived) ∧
     ((s.lamp.record pos).state ≠ .good →
       (s.lamp.shift = none →
         exec (.shiftSwitchChange (some pos)) s = .next (arrived.report .lamp [fw "PATH", fw pos.word])) ∧
       (∀ sh, s.lamp.shift = some sh → sh.target = pos →
         exec (.shiftSwitchChange (some pos)) s =
           .next ((arrived.onLamp fun l => { l with shift := none }).report .lamp [fw "SHIFTED", fw pos.word])))) ∧
  (∀ (s : State) (pos : LampPos), Between s → s.lamp.path = some pos → (s.lamp.record pos.other).state ≠ .active →
     let gone : State := (s.onPins fun p => { p with shiftSwitch := none }).onLamp fun l =>
       if (l.record pos).state = .active then
         { Lamp.changeRecord pos (fun r => { r with state := .good }) l with
           path := none, level := l.leastLevel, duty := 0, openTimer := none }
       else { l with path := none }
     exec (.shiftSwitchChange none) s =
       .next (if s.lamp.shift = none then gone.report .lamp [fw "PATH", fw "NONE"] else gone))

/-- R83, R84, R92, R93, R95, R96, R100: POWER, with the least fan steps of WARMING and COOLDOWN. -/
def Obligations.PowerOnAndOff : Prop :=
  ∀ s : State, LineFree s →
    let usable := s.lamp.primary.state ∈ [LampState.good, .active] ∨ s.lamp.spare.state ∈ [LampState.good, .active]
    (usable → s.heat.state = .standby ∨ s.heat.state = .cooldown → s.lamp.duty = 0 →
      exec .powerOn s = .next (s.takes (fun s =>
        let warming : State := (s.onHeat fun h =>
          { h with
            state := .warming, request := true, afterSeconds := 0, rise := some ⟨0, h.set.warmUp⟩, riseTimer := 0
            powerLimit := 0, fan := if h.fan = 0 then 1 else h.fan
            fanDuty := if h.fan = 0 then h.set.fanDrive[0] else h.fanDuty }).onLamp fun l =>
              { l with pubPower := 0, level := l.leastLevel, openTimer := none }
        (if s.heat.fan = 0 then warming.report .heat [fw "FAN", fi 1] else warming).report .heat
          [fw "POWER", fw "WARMING"]) (.accepted "POWER" [fw "ON", fw "WARMING"]))) ∧
    (s.heat.state = .warming ∨ s.heat.state = .on ∨ (s.heat.state = .tripped ∧ usable) →
      exec .powerOn s = .next ((s.onHeat fun h => { h with request := true }).answered
        (.accepted "POWER" [fw "ON", fw s.heat.state.word]))) ∧
    (¬ usable → s.heat.state ∈ [PowerState.standby, .cooldown, .tripped] →
      exec .powerOn s = .next (s.answered (.refused .state "POWER"))) ∧
    (s.heat.state = .warming ∨ s.heat.state = .on →
      exec .powerOff s = .next (s.takes (fun s =>
        let cooling : State := (s.onHeat fun h =>
          { h with
            state := .cooldown, request := false, afterSeconds := 0, rise := none, powerLimit := 0
            fan := if h.fan < 2 then 2 else h.fan, fanDuty := if h.fan < 2 then h.set.fanDrive[1] else h.fanDuty }).onLamp
              fun l => { l with pubPower := 0, level := l.leastLevel, duty := 0, openTimer := none }
        (if s.heat.fan < 2 then cooling.report .heat [fw "FAN", fi 2] else cooling).report .heat
          [fw "POWER", fw "COOLDOWN"]) (.accepted "POWER" [fw "OFF", fw "COOLDOWN"]))) ∧
    (s.heat.state ∉ [PowerState.warming, .on] →
      exec .powerOff s = .next ((s.onHeat fun h => { h with request := false }).answered
        (.accepted "POWER" [fw "OFF", fw s.heat.state.word])))

/-- R80 to R90, R97: the thermal period. That the after-run seconds start from 0 at a retry into COOLDOWN is log entry 34;
that stage 6 may lower the fan step in the very period whose stage 5 lifts a floor is the model's choice (log entry 45). -/
def Obligations.AThermalPeriodUpdatesTheEstimate : Prop :=
  (∀ (s : State) (r : Int), Between s →
     ∃ t, exec (.thermalPeriod r) s = .next t ∧
       t.pins = { s.pins with housing := r } ∧ t.keys = s.keys ∧ t.heat.set = s.heat.set ∧
       t.heat.sensor = r ∧ t.heat.sensorValid = decide (0 ≤ r ∧ r ≤ 2500) ∧ t.heat.tachLast = s.heat.tachNow ∧
       t.heat.tachNow = 0 ∧ t.heat.firstPeriod = false ∧ t.heat.periodTimer = 0 ∧
       (let cool := if t.heat.stall then s.heat.set.cool[0] else s.heat.set.cool[s.heat.fan]
        t.heat.estimate = max 0 (min 2500 (s.heat.estimate +
         ((s.heat.set.watts * s.lamp.duty).tdiv 4095 * s.heat.set.gain -
           (s.heat.estimate - s.heat.set.ambient) * cool).tdiv 1024))) ∧
       t.heat.effective = (if t.heat.sensorValid then max t.heat.estimate r else t.heat.estimate) ∧
       t.heat.thermCap = (if t.heat.effective < s.heat.set.warnAt then 1000
         else if t.heat.effective < s.heat.set.tripAt
           then (max 300 (1000 - 5 * (t.heat.effective - s.heat.set.warnAt))).toNat else 0) ∧
       t.lamp.pubTherm = t.heat.thermCap ∧ t.lamp.pubStall = t.heat.stallCap ∧
       (s.heat.set.tripAt ≤ t.heat.effective →
         t.heat.state = .tripped ∧ t.heat.fan = 4 ∧ (s.heat.state ≠ .tripped → t.lamp.duty = 0 ∧ t.heat.powerLimit = 0))) ∧
  (∀ (s : State) (r : Int), Between s →
     let h := s.heat
     let low := decide (h.tachNow < 10 * h.fan.val)
     let bad := if h.fan = 0 then 0 else if low then min 3 (h.bad + 1) else 0
     let good := if h.fan = 0 then h.good else if low then 0 else min 2 (h.good + 1)
     let stalls := h.fan ≠ 0 ∧ low = true ∧ bad = 3 ∧ h.stall = false
     let revives := h.fan ≠ 0 ∧ low = false ∧ good = 2 ∧ h.stall = true
     let mode := (s.faults.record .heatTrip).mode
     ∃ t, exec (.thermalPeriod r) s = .next t ∧
       t.heat.bad = bad ∧ t.heat.good = (if revives then 0 else good) ∧
       t.heat.stall = (if stalls then true else if revives then false else h.stall) ∧
       (t.faults.record .fanStall).present =
         (if stalls then true else if revives then false else (s.faults.record .fanStall).present) ∧
       (let e := t.heat.effective
        let trips := h.set.tripAt ≤ e ∧ h.state ≠ .tripped
        let after := min 65535 (h.afterSeconds + 1)
        let recovery := if e < h.set.tripAt - 150 then min 65535 (h.recoverySeconds + 1) else 0
        let retries := h.state = .tripped ∧ ((mode = .retrySlow ∧ 30 ≤ recovery) ∨ (mode = .retryFast ∧ 5 ≤ recovery))
        t.heat.warn = (if h.warn then decide (h.set.warnAt - 50 ≤ e) else decide (h.set.warnAt ≤ e)) ∧
        (t.faults.record .heatWarn).present =
          (if t.heat.warn = h.warn then (s.faults.record .heatWarn).present else t.heat.warn) ∧
        t.heat.state = (if trips then .tripped
          else if h.state = .cooldown then (if h.set.afterRun ≤ after ∧ e ≤ 450 then .standby else .cooldown)
          else if retries then (if h.request then .warming else .cooldown)
          else h.state) ∧
        t.heat.afterSeconds = (if trips then h.afterSeconds else if h.state = .cooldown then after
          else if retries ∧ h.request = false then 0 else h.afterSeconds) ∧
        t.heat.recoverySeconds = (if trips then 0 else if h.state = .tripped then recovery else h.recoverySeconds) ∧
        t.heat.trip = (if trips then true
          else if h.state = .tripped then
            (if e < h.set.tripAt - 150 then false else if h.set.tripAt ≤ e then true else h.trip)
          else h.trip) ∧
        t.heat.request = h.request ∧
        t.heat.rise = (if t.heat.state = h.state then h.rise
          else if t.heat.state = .warming then some ⟨0, h.set.warmUp⟩ else none) ∧
        t.heat.powerLimit = (if t.heat.state = h.state then h.powerLimit else 0) ∧
        t.lamp.pubPower = (if t.heat.state = h.state then s.lamp.pubPower else 0) ∧
        (retries → (t.faults.record .heatTrip).latched = false) ∧
        (trips → (t.faults.record .heatTrip).present = true) ∧
        (h.state = .tripped → e < h.set.tripAt - 150 → h.trip = true → (t.faults.record .heatTrip).present = false) ∧
        (let start : Nat := if t.heat.state = h.state then h.fan.val
           else max h.fan.val (match t.heat.state with
             | .standby => 0 | .warming | .on => 1 | .cooldown => 2 | .tripped => 4)
         let reached : Nat := if h.set.fanUp[3] ≤ e then 4 else if h.set.fanUp[2] ≤ e then 3
           else if h.set.fanUp[1] ≤ e then 2 else if h.set.fanUp[0] ≤ e then 1 else 0
         let threshold := match start with
           | 0 | 1 => h.set.fanUp[0] | 2 => h.set.fanUp[1] | 3 => h.set.fanUp[2] | _ => h.set.fanUp[3]
         let step := if h.firstPeriod then reached else if start < reached then reached
           else if start ≠ 0 ∧ e < threshold - 50 then start - 1 else start
         t.heat.fan.val = max (max step (match t.heat.state with
             | .standby => 0 | .warming | .on => 1 | .cooldown => 2 | .tripped => 4)) (if 450 ≤ e then 1 else 0) ∧
         (h.fanDuty = fanDutyOf h.set h.fan → t.heat.fanDuty = (match t.heat.fan with
           | 0 => 0 | 1 => h.set.fanDrive[0] | 2 => h.set.fanDrive[1] | 3 => h.set.fanDrive[2]
           | 4 => h.set.fanDrive[3])))) ∧
       t.heat.stallCap = (if t.heat.stall ∧ (s.faults.record .fanStall).mode = .retry then 500 else 1000) ∧
       (s.engine.state ≠ .running → s.engine.state ≠ .held →
         t = { s with
           pins := t.pins, heat := t.heat, faults := t.faults, line := t.line
           engine := { s.engine with causes := t.engine.causes }
           lamp := { s.lamp with
             pubTherm := t.heat.thermCap, pubStall := t.heat.stallCap, pubPower := t.lamp.pubPower
             level := t.lamp.level, duty := t.lamp.duty, openTimer := t.lamp.openTimer, shortHold := t.lamp.shortHold } } ∧
         t.lamp.duty ≤ s.lamp.duty))

/-- R85, R92, R93. That RISE_STEP without a rise changes nothing is log entry 4. -/
def Obligations.TachPulsesAndRisesAreCounted : Prop :=
  ∀ s : State, Between s →
    exec .fanTachPulse s = .next (s.onHeat fun h => { h with tachNow := min 255 (h.tachNow + 1) }) ∧
    (s.heat.rise = none → exec .riseStep s = .next s) ∧
    (∀ r, s.heat.rise = some r →
      (r.elapsed + 10 < r.warmUp →
        exec .riseStep s = .next ((s.onHeat fun h =>
          { h with
            riseTimer := 0, rise := some { r with elapsed := r.elapsed + 10 }
            powerLimit := 1000 * (r.elapsed + 10) / r.warmUp }).onLamp fun l =>
              { l with pubPower := 1000 * (r.elapsed + 10) / r.warmUp })) ∧
      (r.warmUp ≤ r.elapsed + 10 → s.heat.state = .on →
        exec .riseStep s = .next ((s.onHeat fun h => { h with riseTimer := 0, rise := none, powerLimit := 1000 }).onLamp
          fun l => { l with pubPower := 1000 })) ∧
      (r.warmUp ≤ r.elapsed + 10 → s.heat.state = .warming → s.heat.fan ≠ 0 → s.pins.lampCurrent = .normal →
        ∃ t, exec .riseStep s = .next t ∧
          t = { s with
            heat := { s.heat with riseTimer := 0, rise := none, powerLimit := 1000, state := .on }
            lamp := { s.lamp with
              pubPower := 1000, level := s.lamp.leastLevel, duty := t.lamp.duty, openTimer := t.lamp.openTimer }
            line := s.line.offer .heat [fw "POWER", fw "ON"] } ∧
          t.lamp.duty ≤ s.lamp.duty))

/-- R104 to R112, R118, R119, R129, and the windows of R122 and R123 (the forms of the reports, a command in its own state
and an arrival at once: log entry 18). The end timer at 0 at a stop of the motor is the model's choice (log entry 35), and
so are the direction that a locate inside the approach window keeps (log entry 40) and the rest time that stands still while
the motor is driven (log entry 46). -/
def Obligations.TransportCommandsMoveTheTape : Prop :=
  (∀ s : State, LineFree s → s.tape.state = .stopped → s.tape.motor = .off → s.tape.locate = none →
     s.tape.endFlag = .none → s.supplyLow = false → s.tape.reasons = ⟨false, false, false⟩ →
     ∀ q ∈ [(Instr.tapePlay, "PLAY", TapeState.playing, TapeMotor.play, Direction.forward),
         (.tapeCuerec, "CUEREC", .cueRecord, .play, .forward), (.tapeFwd, "FWD", .windingFwd, .fwd, .forward),
         (.tapeRew, "REW", .windingRev, .rev, .reverse)],
       q.1 ≠ .tapeCuerec ∨ (s.engine.state ≠ .running ∧ s.engine.state ≠ .held) →
       let (i, word, st, motor, dir) := q
       (s.tape.lastDir = dir ∨ 300 ≤ s.tape.rest → s.cue.detecting = false →
         ∃ t, exec i s = .next t ∧
           t = { s.takes (fun s => s.report .tape [fw st.word]) (.accepted "TAPE" [fw word, fw st.word]) with
             tape := { s.tape with
               state := st, motor := motor, lastDir := dir, endTimer := 0, guard := none, holdPause := false
               delivered := if s.tape.mute = false ∧ motor = .play then s.tape.value else 0 }
             triggers := { s.triggers with toldTape := st }
             cue := t.cue } ∧
           (motor ≠ .play → t.cue = s.cue) ∧ (motor = .play →
             t.cue = { s.cue with detecting := true, units := t.cue.units } ∧
             (∀ d : Fin 3,
               let g := s.cue.units[d].set
               let expected := g.freq * g.win / 1000
               t.cue.units[d] = { s.cue.units[d] with
                 hopLong := g.hop
                 window := some
                   { start := s.now, len := 4 * g.win, low := expected * (100 - g.tol) / 100
                     high := (expected * (100 + g.tol) + 99) / 100, audio := g.audio, count := 0 } }))) ∧
       (s.tape.lastDir ≠ dir → s.tape.rest < 300 →
         exec i s = .next ((s.onTape fun t => { t with guard := some st, holdPause := false, delivered := 0 }).answered
           (.accepted "TAPE" [fw word, fw "STOPPED", fw "GUARD"])))) ∧
  (∀ s : State, LineFree s → s.tape.locate = none → s.tape.state = .windingFwd ∨ s.tape.state = .windingRev →
     s.tape.motor ≠ .off →
     ∀ q ∈ [(Instr.tapeStop, "STOP", TapeState.stopped), (.tapePause, "PAUSE", .paused)],
       exec q.1 s = .next { s.takes (fun s => s.report .tape [fw q.2.2.word]) (.accepted "TAPE" [fw q.2.1, fw q.2.2.word]) with
         tape := { s.tape with
           state := q.2.2, motor := .off, rest := 0, endTimer := 0, guard := none, holdPause := false, delivered := 0 }
         triggers := { s.triggers with toldTape := q.2.2 } }) ∧
  (∀ (s : State) (n : Int) (play : Bool), LineFree s → s.tape.state ≠ .noTape → s.tape.state ≠ .locating →
     s.tape.state ≠ .playing → s.tape.state ≠ .cueRecord → s.tape.motor = .off → s.tape.locate = none →
     s.tape.endFlag = .none → s.supplyLow = false →
     let target := max (-32000) (min 32000 n)
     let d := target - s.tape.counter
     let dir : Direction := if 0 < d then .forward else .reverse
     let free := s.tape.lastDir = dir ∨ 300 ≤ s.tape.rest
     d < -30 ∨ 30 < d →
     exec (.locate n play) s = .next
       { s.takes (fun s => s.report .tape [fw "LOCATING"]) (.accepted "LOCATE"
           ([fc target (decide (n < -32000 ∨ 32000 < n))] ++ (if play then [fw "PLAY"] else []))) with
         tape := { s.tape with
           state := .locating, guard := none, holdPause := false, delivered := 0
           locate := some ⟨target, play, .line, if free then .winding else .waiting, dir⟩
           motor := if free then (if 0 < d then .fwd else .rev) else .off
           lastDir := if free then dir else s.tape.lastDir
           endTimer := if free then 0 else s.tape.endTimer }
         triggers := { s.triggers with toldTape := .locating } }) ∧
  (∀ s : State, LineFree s → s.tape.state ≠ .noTape → (s.tape.locate.all fun l => l.origin == .line) = true →
     s.cue.writer = none → s.cue.detecting = s.tape.state.listening → CueQuiet s.cue →
     ∀ q ∈ [(Instr.tapeStop, "STOP", TapeState.stopped), (.tapePause, "PAUSE", .paused)],
       let (i, word, st) := q
       let told (s : State) : State :=
         let s := if s.tape.locate.isSome then s.report .tape [fw "LOCATE", fw "ENDED", fw "COMMAND"] else s
         if s.tape.state = st then s else s.report .tape [fw st.word]
       ∃ t, exec i s = .next t ∧
         t = { s.takes told (.accepted "TAPE" [fw word, fw st.word]) with
           tape := { s.tape with
             state := st, motor := .off, locate := none, guard := none, holdPause := false, delivered := 0
             rest := if s.tape.motor = .off then s.tape.rest else 0
             endTimer := if s.tape.motor = .off then s.tape.endTimer else 0 }
           triggers := { s.triggers with toldTape := if s.tape.state = st then s.triggers.toldTape else st }
           cue := t.cue } ∧
         (s.cue.detecting = true → DetectionEnded s.cue t.cue) ∧ (s.cue.detecting = false → t.cue = s.cue)) ∧
  (∀ s : State, LineFree s → s.tape.state ≠ .noTape → s.supplyLow = false →
     (s.tape.locate.all fun l => l.origin == .line) = true →
     s.cue.writer = none → s.cue.detecting = s.tape.state.listening → CueQuiet s.cue →
     ∀ q ∈ [(Instr.tapePlay, "PLAY", TapeState.playing, TapeMotor.play, Direction.forward),
         (.tapeCuerec, "CUEREC", .cueRecord, .play, .forward), (.tapeFwd, "FWD", .windingFwd, .fwd, .forward),
         (.tapeRew, "REW", .windingRev, .rev, .reverse)],
       q.1 ≠ .tapeCuerec ∨ (s.engine.state ≠ .running ∧ s.engine.state ≠ .held) →
       let (i, word, st, motor, dir) := q
       s.tape.endFlag ≠ (match dir with | .forward => .fwd | .reverse => .rev) →
       let ended (s : State) : State :=
         if s.tape.locate.isSome then s.report .tape [fw "LOCATE", fw "ENDED", fw "COMMAND"] else s
       let free := s.tape.motor.direction = some dir ∨ (s.tape.motor = .off ∧ (s.tape.lastDir = dir ∨ 300 ≤ s.tape.rest))
       let paused := i = .tapePlay ∧ s.tape.reasons ≠ ⟨false, false, false⟩
       (s.tape.state = st → s.tape.locate = none →
         exec i s = .next ((s.onTape fun t => { t with guard := none }).answered (.accepted "TAPE"
           ([fw word, fw st.word] ++ (if s.tape.holdPause then [fw "HOLD"] else []))))) ∧
       (s.tape.state ≠ st → free → ¬ paused →
         ∃ t, exec i s = .next t ∧
           t = { s.takes (fun s => (ended s).report .tape [fw st.word]) (.accepted "TAPE" [fw word, fw st.word]) with
             tape := { s.tape with
               state := st, motor := motor, lastDir := dir, locate := none, guard := none, holdPause := false
               endTimer := if s.tape.motor = .off then 0 else s.tape.endTimer
               delivered := if s.tape.mute = false ∧ motor = .play then s.tape.value else 0 }
             triggers := { s.triggers with toldTape := st }
             cue := t.cue } ∧
           t.cue.detecting = decide (motor = .play) ∧ t.cue.log = s.cue.log ∧
           (s.cue.detecting = t.cue.detecting → t.cue = s.cue) ∧
           (motor ≠ .play → s.cue.detecting = true → ∀ d : Fin 3, t.cue.units[d].window = none)) ∧
       (s.tape.state ≠ st → free → paused →
         ∃ t, exec i s = .next t ∧
           t = { s.takes (fun s => if s.tape.state = .paused then ended s else (ended s).report .tape [fw "PAUSED", fw "HOLD"])
               (.accepted "TAPE" [fw "PLAY", fw "PAUSED", fw "HOLD"]) with
             tape := { s.tape with
               state := .paused, motor := .off, locate := none, guard := none, holdPause := true, delivered := 0
               rest := if s.tape.motor = .off then s.tape.rest else 0
               endTimer := if s.tape.motor = .off then s.tape.endTimer else 0 }
             triggers := { s.triggers with toldTape := if s.tape.state = .paused then s.triggers.toldTape else .paused }
             cue := t.cue } ∧
           (s.cue.detecting = true → DetectionEnded s.cue t.cue) ∧ (s.cue.detecting = false → t.cue = s.cue)) ∧
       (s.tape.state ≠ st → ¬ free →
         ∃ t, exec i s = .next t ∧
           t = { s.takes ended (.accepted "TAPE" [fw word, fw "STOPPED", fw "GUARD"]) with
             tape := { s.tape with
               state := .stopped, motor := .off, locate := none, guard := some st, holdPause := false, delivered := 0
               rest := if s.tape.motor = .off then s.tape.rest else 0
               endTimer := if s.tape.motor = .off then s.tape.endTimer else 0 }
             triggers := { s.triggers with toldTape := if s.tape.state = .stopped then s.triggers.toldTape else .stopped }
             cue := t.cue } ∧
           t.cue.detecting = false ∧ t.cue.log = s.cue.log ∧ (s.cue.detecting = false → t.cue = s.cue))) ∧
  (∀ (s : State) (n : Int) (play : Bool), LineFree s → s.tape.state ≠ .noTape → s.tape.endFlag = .none →
     s.supplyLow = false → (s.tape.locate.all fun l => l.origin == .line) = true → s.cue.writer = none →
     s.cue.detecting = s.tape.state.listening →
     (∀ d : Fin 3, s.cue.units[d].classifier = .quiet ∧ s.cue.units[d].awaiting = []) →
     let target := max (-32000) (min 32000 n)
     let d := target - s.tape.counter
     let dir : Direction := if 0 < d then .forward else .reverse
     let l (phase : LocatePhase) : Locate := ⟨target, play, .line, phase, dir⟩
     let free := s.tape.motor.direction = some dir ∨ (s.tape.motor = .off ∧ (s.tape.lastDir = dir ∨ 300 ≤ s.tape.rest))
     let rested := s.tape.motor = .off ∧ 300 ≤ s.tape.rest
     let reply : Reply := .accepted "LOCATE"
       ([fc target (decide (n < -32000 ∨ 32000 < n))] ++ (if play then [fw "PLAY"] else []))
     let told (s : State) : State :=
       let s := if s.tape.locate.isSome then s.report .tape [fw "LOCATE", fw "ENDED", fw "COMMAND"] else s
       if s.tape.state = .locating then s else s.report .tape [fw "LOCATING"]
     let goes (tape : Tape) (last : State → State) : Prop := ∃ t, exec (.locate n play) s = .next t ∧
       t = { s.takes (fun s => last (told s)) reply with
         tape := tape
         triggers := { s.triggers with toldTape :=
           if tape.state = .locating ∧ s.tape.state = .locating then s.triggers.toldTape else tape.state }
         cue := t.cue } ∧
       t.cue.log = s.cue.log ∧ t.cue.detecting = tape.state.listening ∧
       (s.cue.detecting = false → tape.state.listening = false → t.cue = s.cue)
     let winds (phase : LocatePhase) : Tape := { s.tape with
       state := .locating, guard := none, holdPause := false, delivered := 0, locate := some (l phase), motor := .off
       rest := if s.tape.motor = .off then s.tape.rest else 0
       endTimer := if s.tape.motor = .off then s.tape.endTimer else 0 }
     (d < -30 ∨ 30 < d → free → goes { s.tape with
       state := .locating, guard := none, holdPause := false, delivered := 0, locate := some (l .winding)
       motor := if 0 < d then .fwd else .rev, lastDir := dir
       endTimer := if s.tape.motor = .off then 0 else s.tape.endTimer } id) ∧
     (d < -30 ∨ 30 < d → ¬ free → goes (winds .waiting) id) ∧
     (-30 ≤ d → d ≤ 30 → ¬ rested → goes (winds .arriving) id) ∧
     (-30 ≤ d → d ≤ 30 → rested → play = false → goes
       { s.tape with state := .paused, guard := none, holdPause := false, delivered := 0, locate := none }
       (fun s => s.report .tape [fw "LOCATED", fi s.tape.counter, fw "PAUSED"])) ∧
     (-30 ≤ d → d ≤ 30 → rested → play = true → s.tape.reasons ≠ ⟨false, false, false⟩ → goes
       { s.tape with state := .paused, guard := none, holdPause := true, delivered := 0, locate := none }
       (fun s => s.report .tape [fw "LOCATED", fi s.tape.counter, fw "PAUSED", fw "HOLD"])) ∧
     (-30 ≤ d → d ≤ 30 → rested → play = true → s.tape.reasons = ⟨false, false, false⟩ → goes
       { s.tape with
         state := .playing, guard := none, holdPause := false, locate := none, motor := .play, lastDir := .forward
         endTimer := 0, delivered := if s.tape.mute then 0 else s.tape.value }
       (fun s => s.report .tape [fw "LOCATED", fi s.tape.counter, fw "PLAYING"])))

/-- R103, R114, R115, R120. -/
def Obligations.ZeroVolAndMuteAct : Prop :=
  ∀ s : State, LineFree s →
    (s.tape.state ≠ .noTape → s.tape.state ≠ .locating →
      exec .zero s = .next ((s.onTape fun t => { t with counter := 0 }).answered (.accepted "ZERO" []))) ∧
    (∀ (level : Int) (fade : Option Int),
      let f := fade.getD 0
      let lv := (max 0 (min 255 level)).toNat
      let fd := (max 0 (min 9900 f)).toNat / 10 * 10
      let reply : Reply := .accepted "VOL" [fc lv (decide (level < 0 ∨ 255 < level)), fc fd (decide (f < 0 ∨ 9900 < f))]
      (s.engine.state = .running ∨ s.engine.state = .held →
        exec (.vol level fade) s = .next (s.answered (.refused .state "VOL"))) ∧
      (s.engine.state ≠ .running → s.engine.state ≠ .held → fd ≠ 0 →
        exec (.vol level fade) s = .next ((s.onTape fun t =>
          { t with ramp := ⟨t.value, lv, fd, 0, .line, true⟩ }).answered reply)) ∧
      (s.engine.state ≠ .running → s.engine.state ≠ .held → fd = 0 →
        exec (.vol level fade) s = .next (s.takes (fun s => (s.onTape fun t =>
          { t with ramp := ⟨t.value, lv, 0, 0, .line, false⟩, value := lv }).report .tape [fw "VOL", fi lv]) reply))) ∧
    (s.tape.mute = false →
      exec .muteOff s = .next (s.answered (.accepted "MUTE" [fw "OFF"])) ∧
      exec .muteOn s = .next (s.takes (fun s => (s.onTape fun t => { t with mute := true, delivered := 0 }).report .tape
        [fw "MUTE", fw "ON"]) (.accepted "MUTE" [fw "ON"]))) ∧
    (s.tape.mute = true →
      exec .muteOn s = .next (s.answered (.accepted "MUTE" [fw "ON"])) ∧
      exec .muteOff s = .next (s.takes (fun s => (s.onTape fun t =>
        { t with
          mute := false
          delivered := if t.state = .playing ∨ t.state = .cueRecord then t.value else 0 }).report .tape
            [fw "MUTE", fw "OFF"]) (.accepted "MUTE" [fw "OFF"])))

/-- R102 to R107, R109 to R111, R129, R172. That *TAPE OUT and *TAPE IN stand for the report of the state change, and that
TAPE_OUT or TAPE_IN with the level already so changes only the pin, is log entry 17; that REVERSE_GUARD_END with the motor
driven and END_OF_TAPE with it off change nothing is log entry 4; the end timer at 0 at a stop of the motor is the model's
choice (log entry 35); the direction that a locate keeps is log entry 40; the rest time while the motor is driven is log
entry 46. -/
def Obligations.TapeEventsAct : Prop :=
  (∀ s : State, Between s → s.tape.locate = none →
     (s.tape.present = true → s.tape.state = .stopped → s.tape.motor = .off →
       exec .tapeOut s = .next ((((s.onPins fun p => { p with tapeIn := false }).onTape fun t =>
         { t with present := false, guard := none, endFlag := .none, state := .noTape, holdPause := false, delivered := 0 })
           |>.onTriggers fun q => { q with toldTape := .noTape }).report .tape [fw "OUT"])) ∧
     (s.tape.present = false → s.tape.state = .noTape →
       exec .tapeIn s = .next ((((s.onPins fun p => { p with tapeIn := true }).onTape fun t =>
         { t with present := true, counter := 0, endFlag := .none, state := .stopped, holdPause := false, delivered := 0 })
           |>.onTriggers fun q => { q with toldTape := .stopped }).report .tape [fw "IN"])) ∧
     (s.tape.present = false → exec .tapeOut s = .next (s.onPins fun p => { p with tapeIn := false })) ∧
     (s.tape.present = true → exec .tapeIn s = .next (s.onPins fun p => { p with tapeIn := true }))) ∧
  (∀ s : State, Between s →
     (s.tape.present = false → exec .tapePulse s = .next s) ∧
     (s.tape.present = true → s.tape.locate = none →
       let driven : Option Direction := match s.tape.motor with
         | .off => none | .play | .fwd => some .forward | .rev => some .reverse
       exec .tapePulse s = .next (s.onTape fun t =>
         { t with
           counter := match driven.getD t.lastDir with
             | .forward => min 32000 (t.counter + 1)
             | .reverse => max (-32000) (t.counter - 1)
           endFlag :=
             if (t.endFlag = .fwd ∧ driven = some .reverse) ∨ (t.endFlag = .rev ∧ driven = some .forward) then .none
             else t.endFlag
           endTimer := if t.motor = .off then t.endTimer else 0 }))) ∧
  (∀ s : State, Between s →
     (s.tape.motor ≠ .off → exec .reverseGuardEnd s = .next s) ∧
     (s.tape.motor = .off → s.tape.guard = none → s.tape.locate = none →
       exec .reverseGuardEnd s = .next (s.onTape fun t => { t with rest := 300 })) ∧
     (s.tape.motor = .off → s.tape.state = .stopped → s.tape.guard = some .windingRev →
       exec .reverseGuardEnd s = .next (((s.onTape fun t =>
         { t with
           rest := 300, guard := none, state := .windingRev, motor := .rev, lastDir := .reverse, endTimer := 0
           holdPause := false, delivered := 0 }).onTriggers fun q => { q with toldTape := .windingRev }).report .tape
             [fw "WINDING_REV"])) ∧
     (∀ l, s.tape.locate = some l → s.tape.motor = .off → s.tape.guard = none → l.phase = .waiting →
       exec .reverseGuardEnd s = .next (s.onTape fun t =>
         { t with
           rest := 300, locate := some { l with phase := .winding }, lastDir := l.direction, endTimer := 0
           motor := match l.direction with | .forward => .fwd | .reverse => .rev })) ∧
     (s.tape.motor = .off → exec .endOfTape s = .next s) ∧
     (s.tape.locate = none → s.tape.state = .windingFwd → s.tape.motor = .fwd →
       exec .endOfTape s = .next (((s.onTape fun t =>
         { t with
           state := .stopped, motor := .off, rest := 0, endTimer := 0, endFlag := .fwd, holdPause := false
           delivered := 0 }).onTriggers fun q => { q with toldTape := .stopped }).report .tape [fw "END", fw "FWD"])) ∧
     (s.tape.locate = none → s.tape.state = .windingRev → s.tape.motor = .rev →
       exec .endOfTape s = .next (((s.onTape fun t =>
         { t with
           state := .stopped, motor := .off, rest := 0, endTimer := 0, endFlag := .rev, holdPause := false
           delivered := 0 }).onTriggers fun q => { q with toldTape := .stopped }).report .tape [fw "END", fw "REV"])) ∧
     (s.tape.motor = .off → s.tape.state = .stopped → s.tape.guard = some .playing →
       s.tape.reasons ≠ ⟨false, false, false⟩ →
       exec .reverseGuardEnd s = .next { s.report .tape [fw "PAUSED", fw "HOLD"] with
         tape := { s.tape with rest := 300, guard := none, state := .paused, holdPause := true, delivered := 0 }
         triggers := { s.triggers with toldTape := .paused } })) ∧
  (∀ s : State, Between s → s.tape.locate = none → s.tape.state ≠ .locating → s.tape.state ≠ .noTape →
     s.cue.writer = none → s.cue.detecting = s.tape.state.listening → CueQuiet s.cue →
     let still : Tape := { s.tape with
       motor := .off, rest := if s.tape.motor = .off then s.tape.rest else 0
       endTimer := if s.tape.motor = .off then s.tape.endTimer else 0, holdPause := false, delivered := 0 }
     let unheard (t : State) : Prop :=
       (s.cue.detecting = true → DetectionEnded s.cue t.cue) ∧ (s.cue.detecting = false → t.cue = s.cue)
     (s.tape.present = true →
       ∃ t, exec .tapeOut s = .next t ∧
         t = { (s.onPins fun p => { p with tapeIn := false }).report .tape [fw "OUT"] with
           tape := { still with present := false, guard := none, endFlag := .none, state := .noTape }
           triggers := { s.triggers with toldTape := .noTape }, cue := t.cue } ∧
         unheard t) ∧
     (∀ dir, s.tape.motor.direction = some dir → s.tape.state ≠ .stopped →
       ∃ t, exec .endOfTape s = .next t ∧
         t = { s.report .tape [fw "END", fw (match dir with | .forward => "FWD" | .reverse => "REV")] with
           tape := { still with endFlag := (match dir with | .forward => .fwd | .reverse => .rev), state := .stopped }
           triggers := { s.triggers with toldTape := .stopped }, cue := t.cue } ∧
         unheard t)) ∧
  (∀ (s : State) (l : Locate), s.tape.locate = some l → Between s → s.tape.present = true →
     let driven : Option Direction := match s.tape.motor with
       | .off => none | .play | .fwd => some .forward | .rev => some .reverse
     let counter := match driven.getD s.tape.lastDir with
       | .forward => min 32000 (s.tape.counter + 1)
       | .reverse => max (-32000) (s.tape.counter - 1)
     let counted (t : Tape) : Tape :=
       { t with
         counter := counter
         endFlag := if (t.endFlag = .fwd ∧ driven = some .reverse) ∨ (t.endFlag = .rev ∧ driven = some .forward) then .none
           else t.endFlag
         endTimer := if t.motor = .off then t.endTimer else 0 }
     let near := -30 ≤ l.target - counter ∧ l.target - counter ≤ 30
     (l.phase ≠ .winding ∨ ¬ near → exec .tapePulse s = .next (s.onTape counted)) ∧
     (l.phase = .winding → near → s.tape.motor ≠ .off →
       exec .tapePulse s = .next (s.onTape fun t =>
         { counted t with motor := .off, rest := 0, endTimer := 0, locate := some { l with phase := .arriving } }))) ∧
  (∀ (s : State) (l : Locate), s.tape.locate = some l → Between s → s.tape.state = .locating →
     l.origin = .line ∨ s.engine.execution = none ∨
       (∃ x, s.engine.execution = some x ∧ (x.tape ≠ .locating ∨ x.rampAwaited = true)) →
     let shown (outcome : LocateOutcome) (s : State) : State :=
       match l.origin, s.engine.execution with
       | .show, some x =>
         if x.tape = .locating then
           { (if outcome = .arrived then s else s.report .show [fw "TAPE", fi x.step, fw outcome.word]) with
             engine := { s.engine with execution := some { x with tape := .ready } } }
         else s
       | _, _ => s
     let still (t : Tape) : Tape := { t with
       motor := .off, rest := if t.motor = .off then t.rest else 0, endTimer := if t.motor = .off then t.endTimer else 0
       locate := none, holdPause := false, delivered := 0 }
     let moved (s : State) (t : Tape) : State :=
       { s with tape := t, triggers := { s.triggers with toldTape := t.state } }
     (s.tape.present = true →
       exec .tapeOut s = .next (shown .out ((moved (s.onPins fun p => { p with tapeIn := false })
         { still s.tape with present := false, guard := none, endFlag := .none, state := .noTape }).report .tape
           [fw "LOCATE", fw "ENDED", fw "OUT"] |>.report .tape [fw "OUT"]))) ∧
     (∀ dir, s.tape.motor.direction = some dir →
       exec .endOfTape s = .next (shown .endOfTape ((moved s
         { still s.tape with endFlag := (match dir with | .forward => .fwd | .reverse => .rev), state := .stopped }).report
           .tape [fw "LOCATE", fw "ENDED", fw "END"] |>.report .tape
             [fw "END", fw (match dir with | .forward => "FWD" | .reverse => "REV")]))) ∧
     (s.tape.motor = .off → s.tape.guard = none → l.phase = .arriving →
       (l.play = false →
         exec .reverseGuardEnd s = .next (shown .arrived ((moved s
           { still s.tape with rest := 300, state := .paused }).report .tape
             [fw "LOCATED", fi s.tape.counter, fw "PAUSED"]))) ∧
       (l.play = true → s.tape.reasons ≠ ⟨false, false, false⟩ →
         exec .reverseGuardEnd s = .next (shown .arrived ((moved s
           { still s.tape with rest := 300, state := .paused, holdPause := true }).report .tape
             [fw "LOCATED", fi s.tape.counter, fw "PAUSED", fw "HOLD"]))) ∧
       (l.play = true → s.tape.reasons = ⟨false, false, false⟩ → s.cue.detecting = false →
         ∃ t, exec .reverseGuardEnd s = .next t ∧
           t = { shown .arrived ((moved s { still s.tape with
               rest := 300, state := .playing, motor := .play, lastDir := .forward, endTimer := 0
               delivered := if s.tape.mute then 0 else s.tape.value }).report .tape
                 [fw "LOCATED", fi s.tape.counter, fw "PLAYING"]) with cue := t.cue } ∧
           t.cue.detecting = true)))

/-- R131, R138 to R140, R158, R188, R199. -/
def Obligations.DetectorsMapsAndPermissionsAreSet : Prop :=
  (∀ (s : State) (items : List ToneItem), LineFree s →
     ((items.map toneName).Nodup → items.all toneAllowed = true →
       ∀ d : Fin 3, ∃ t, exec (.tone d.val items) s = .next t ∧
         t = { s.answered (.accepted "TONE" (fi d.val :: toneFields t.cue.units[d].set items)) with
           cue := { s.cue with units := t.cue.units } } ∧
         (∀ e : Fin 3, e ≠ d → t.cue.units[e] = s.cue.units[e]) ∧
         t.cue.units[d] = { s.cue.units[d] with
           set := t.cue.units[d].set
           hopLong := if t.cue.units[d].set.hop = s.cue.units[d].set.hop then s.cue.units[d].hopLong else false } ∧
         t.cue.units[d].set = items.foldl (fun g i => match i with
           | .input w => { g with audio := w == "AUDIO" }
           | .freq n => { g with freq := (max 200 (min 4000 n)).toNat }
           | .win n => { g with win := (max 10 (min 50 n)).toNat }
           | .tol n => { g with tol := (max 5 (min 25 n)).toNat }
           | .hop w => { g with hop := w == "ON" }) s.cue.units[d].set) ∧
     (∀ d : Int, ¬ (items.map toneName).Nodup → exec (.tone d items) s = .next (s.answered (.refused .syntaxErr "TONE"))) ∧
     (∀ d : Int, (items.map toneName).Nodup → d < 0 ∨ 2 < d ∨ items.all toneAllowed = false →
       exec (.tone d items) s = .next (s.answered (.refused .range "TONE")))) ∧
  (∀ (s : State) (len : LengthClass) (action : CueAction), LineFree s →
     (∀ d : Fin 3, ∃ t, exec (.cuemapSet d.val len action) s = .next t ∧
       t = { s.answered (.accepted "CUEMAP" [fi d.val, fw len.word, fw action.word]) with
         cue := { s.cue with map := t.cue.map } } ∧
       t.cue.action ⟨d, len⟩ = action ∧ (∀ (e : Fin 3) l, (e, l) ≠ (d, len) → t.cue.action ⟨e, l⟩ = s.cue.action ⟨e, l⟩)) ∧
     (∀ d : Int, d < 0 ∨ 2 < d →
       exec (.cuemapSet d len action) s = .next (s.answered (.refused .range "CUEMAP")) ∧
       exec (.cuemapRead d len) s = .next (s.answered (.refused .range "CUEMAP")) ∧
       exec (.cuewrite d len) s = .next (s.answered (.refused .range "CUEWRITE")))) ∧
  (∀ s : State, LineFree s →
     exec (.keyaddr (some .any)) s = .next ((s.onKeys fun k => { k with address := none }).answered
       (.accepted "KEYADDR" [fw "ANY"])) ∧
     (∀ n : Fin 16, exec (.keyaddr (some (.num n.val))) s =
       .next ((s.onKeys fun k => { k with address := some n.val }).answered (.accepted "KEYADDR" [fi n.val]))) ∧
     (∀ n : Int, n < 0 ∨ 15 < n →
       exec (.keyaddr (some (.num n))) s = .next (s.answered (.refused .range "KEYADDR")))) ∧
  (∀ (s : State) (source : Source) (mode : Mode) (value : Perm), LineFree s →
     (source = .line → exec (.permitSet source mode value) s = .next (s.answered (.refused .range "PERMIT"))) ∧
     (source ≠ .line → ∃ t, exec (.permitSet source mode value) s = .next t ∧
       t = { s.answered (.accepted "PERMIT" [fw source.word, fw mode.word, fw value.word]) with
         triggers := { s.triggers with perms := t.triggers.perms } } ∧
       t.triggers.perm source mode = value ∧
       (∀ o m, (o, m) ≠ (source, mode) → t.triggers.perm o m = s.triggers.perm o m)))

/-- R134, R136, R140 (log entry 4), and R105, R106, R109 and R129 where a burst is abandoned as the transport leaves
CUE_RECORD (what the leaving of a state causes follows its own report: log entry 2; the end of detection first, then that of
the burst: log entry 19; the end timer at 0 at a stop of the motor: log entry 35; the rest time while it is driven:
log entry 46). SHOW RUN, which leaves CUE_RECORD too, is `ShowCommandsRunTheShow`; the supply, `TheSupplyIsWatched`. -/
def Obligations.CuewriteWritesABurst : Prop :=
  (∀ (s : State) (d : Fin 3) (len : LengthClass), LineFree s →
     (s.tape.state = .cueRecord → s.cue.writer = none →
       let entry : LogEntry := ⟨s.cue.nextSeq, ⟨d, len⟩, s.cue.action ⟨d, len⟩, none, s.tape.counter⟩
       exec (.cuewrite d.val len) s = .next (s.takes (fun s => (s.onCue fun c =>
         { c with
           writer := some ⟨⟨d, len⟩, c.units[d].set.freq, s.now, match len with | .short => 120 | .long => 400⟩
           counters := { c.counters with writes := (c.counters.writes + 1) % 4294967296 }
           log := (c.log ++ [entry]).drop (c.log.length - 31), nextSeq := (c.nextSeq + 1) % 65536 }).report .cue
             [fw "WRITE", fw (detectorWord d), fw len.word, fi s.tape.counter])
         (.accepted "CUEWRITE" [fi d.val, fw len.word, fi s.cue.nextSeq, fi s.tape.counter]))) ∧
     (s.tape.state ≠ .cueRecord → exec (.cuewrite d.val len) s = .next (s.answered (.refused .state "CUEWRITE"))) ∧
     (s.tape.state = .cueRecord → s.cue.writer ≠ none →
       exec (.cuewrite d.val len) s = .next (s.answered (.refused .busy "CUEWRITE")))) ∧
  (∀ s : State, Between s →
     (s.cue.writer = none → exec .cueWritten s = .next s) ∧
     (∀ w, s.cue.writer = some w →
       let time := max s.now (w.start + 4 * (match w.symbol.length with | .short => 120 | .long => 400))
       ∃ t, exec .cueWritten s = .next t ∧
         t = { s with
           now := time, cue := { s.cue with writer := none, units := t.cue.units }
           line := s.line.offer .cue [fw "WRITTEN", fw (detectorWord w.symbol.detector), fw w.symbol.length.word] } ∧
         t.cue.units[w.symbol.detector] = { s.cue.units[w.symbol.detector] with lastWritten := some time } ∧
         (∀ e : Fin 3, e ≠ w.symbol.detector → t.cue.units[e] = s.cue.units[e]))) ∧
  (∀ s : State, ∀ w, s.cue.writer = some w → s.tape.state = .cueRecord → s.tape.motor = .play → s.tape.locate = none →
     s.cue.detecting = true → CueQuiet s.cue →
     let still : Tape := { s.tape with motor := .off, rest := 0, endTimer := 0, holdPause := false, delivered := 0 }
     (LineFree s → s.tape.endFlag = .none → s.supplyLow = false → s.tape.reasons = ⟨false, false, false⟩ →
       ∀ q ∈ [(Instr.tapeStop, "STOP", TapeState.stopped), (.tapePause, "PAUSE", .paused), (.tapePlay, "PLAY", .playing),
           (.tapeFwd, "FWD", .windingFwd)],
         let (i, word, st) := q
         let motor : TapeMotor := match st with | .playing => .play | .windingFwd => .fwd | _ => .off
         ∃ t, exec i s = .next t ∧
           t = { s.takes (fun s => (s.report .tape [fw st.word]).report .cue w.abandonedFields)
               (.accepted "TAPE" [fw word, fw st.word]) with
             tape := { (if motor = .off then still else s.tape) with
               state := st, motor := motor, guard := none, holdPause := false
               lastDir := if motor = .off then s.tape.lastDir else .forward
               delivered := if s.tape.mute = false ∧ motor = .play then s.tape.value else 0 }
             triggers := { s.triggers with toldTape := st }, cue := t.cue } ∧
           (motor = .play → t.cue = s.cue.abandoned s.now) ∧
           (motor ≠ .play → DetectionEnded (s.cue.abandoned s.now) t.cue)) ∧
     (Between s → s.tape.present = true →
       (∃ t, exec .tapeOut s = .next t ∧
         t = { ((s.onPins fun p => { p with tapeIn := false }).report .tape [fw "OUT"]).report .cue w.abandonedFields with
           tape := { still with present := false, guard := none, endFlag := .none, state := .noTape }
           triggers := { s.triggers with toldTape := .noTape }, cue := t.cue } ∧
         DetectionEnded (s.cue.abandoned s.now) t.cue) ∧
       (∃ t, exec .endOfTape s = .next t ∧
         t = { (s.report .tape [fw "END", fw "FWD"]).report .cue w.abandonedFields with
           tape := { still with endFlag := .fwd, state := .stopped }
           triggers := { s.triggers with toldTape := .stopped }, cue := t.cue } ∧
         DetectionEnded (s.cue.abandoned s.now) t.cue)))

/-- R122 to R130, R132 to R134, R189, R190. The clock, a burst being written that runs with it, and a row without a
window are log entry 4; the order of settlements is log entries 19 and 33; the tape count of a record is judged by the state
last told (log entry 29). The end timer at 0 where TAPE STOP, or a cue that acts so, stops the motor is the model's choice
(log entry 35). A TAPE STOP whose burst takes a settled step of the show on is left out: that step may start the tape again
(R172). -/
def Obligations.WindowsCountAndEnd : Prop :=
  (∀ (s : State) (d : Fin 3), Between s →
     (∃ t, exec (.risingCrossing d) s = .next t ∧ t = { s with cue := { s.cue with units := t.cue.units } } ∧
       t.cue.units[d] = { s.cue.units[d] with
         window := s.cue.units[d].window.map fun w => { w with count := min 1023 (w.count + 1) } } ∧
       (∀ e : Fin 3, e ≠ d → t.cue.units[e] = s.cue.units[e])) ∧
     (s.cue.units[d].window = none → exec (.detectorWindowEnd d) s = .next s)) ∧
  (∀ s : State, Between s → ∀ d : Fin 3,
     (∀ w, s.cue.units[d].window = some w → s.cue.units[d].classifier = .quiet →
       (∀ e : Fin 3, s.cue.units[e].awaiting = [] ∧ s.cue.units[e].hitWindows = []) →
       s.cue.writer = none → s.cue.units[d].lastWritten = none →
       let stop := w.start + w.len
       let hit := decide (w.low ≤ w.count ∧ w.count ≤ w.high)
       let waits := (List.finRange 3).any fun e => e != d && s.cue.units[e].window.any fun v => decide (v.start < stop)
       let g := s.cue.units[d].set
       let long := g.hop && s.cue.units[d].hopLong
       ∃ t, exec (.detectorWindowEnd d) s = .next t ∧
         t = { s with now := max s.now stop, cue := { s.cue with units := t.cue.units } } ∧
         (∀ e : Fin 3, e ≠ d → t.cue.units[e] = s.cue.units[e]) ∧
         (let expected := if long then g.freq * g.win * 5 / 4000 else g.freq * g.win / 1000
          t.cue.units[d].window = some
           { start := stop, len := if long then 5 * g.win else 4 * g.win, low := expected * (100 - g.tol) / 100
             high := (expected * (100 + g.tol) + 99) / 100, audio := g.audio, count := 0 }) ∧
         t.cue.units[d].hopLong = (g.hop && !long) ∧ t.cue.units[d].set = g ∧
         (hit = false → t.cue.units[d].classifier = .quiet ∧ t.cue.units[d].awaiting = []) ∧
         (hit = true → waits = false → t.cue.units[d].classifier = .burst ⟨1, 0, w.start, stop, false⟩ ∧
           t.cue.units[d].awaiting = []) ∧
         (hit = true → waits = true → t.cue.units[d].classifier = .quiet ∧ t.cue.units[d].awaiting = [⟨true, w.start, stop⟩]))) ∧
  (∀ (s : State) (d : Fin 3), Between s → ∀ w, s.cue.units[d].window = some w → ∀ b,
     s.cue.units[d].classifier = .burst b → (∀ e : Fin 3, s.cue.units[e].awaiting = []) →
     w.count < w.low ∨ w.high < w.count →
     let clock := max s.now (w.start + w.len)
     let ran := s.cue.writer.map fun y =>
       { y with remaining := (match y.symbol.length with | .short => 120 | .long => 400) - (clock - y.start) / 4 }
     let waits := (s.engine.state ≠ .running ∨ s.engine.execution.map Execution.phase ≠ some .settled) ∧
       s.triggers.queue.length < 8 ∧ s.triggers.hold = false ∧
       (s.triggers.tapeHold = false ∨ s.triggers.toldShow ≠ .running ∨ s.triggers.queue.length + 1 < s.triggers.holdAt)
     ∃ t, exec (.detectorWindowEnd d) s = .next t ∧
       (let action := s.cue.action ⟨d, if b.hits ≤ 9 then .short else .long⟩
        b.misses = 0 ∨ b.hits ≤ 2 ∨ b.echo = true ∨ action = .mark ∨ action = .nothing ∨
           s.triggers.perm .cue s.mode ≠ .act ∨ (action ≠ .tapeStop ∧ (s.mode = .manual ∨ s.mode = .program ∨
             8 ≤ s.triggers.queue.length ∨ waits)) →
         ∀ e : Fin 3, e ≠ d → t.cue.units[e].classifier = s.cue.units[e].classifier ∧
           t.cue.units[e].window = s.cue.units[e].window) ∧
       (b.misses = 0 →
         t = { s with now := clock, cue := { s.cue with units := t.cue.units, writer := ran } } ∧
         t.cue.units[d].classifier = .burst { b with misses := 1 }) ∧
       (b.misses ≠ 0 → t.cue.units[d].classifier = .quiet ∧
         (b.hits ≤ 2 →
           t = { s with now := clock, cue := { s.cue with
             units := t.cue.units, writer := ran
             counters := { s.cue.counters with noise := (s.cue.counters.noise + 1) % 4294967296 } } }) ∧
         (3 ≤ b.hits →
           let len : LengthClass := if b.hits ≤ 9 then .short else .long
           let action := s.cue.action ⟨d, len⟩
           let entryOf (how : Disposition) : LogEntry := ⟨s.cue.nextSeq, ⟨d, len⟩, action, some how, s.tape.counter⟩
           let disposed (how : Disposition) (f : CueCounters → CueCounters) (refused : Bool) (s : State) : State :=
             ({ s with
               now := clock
               cue := { s.cue with
                 units := t.cue.units, writer := ran, counters := f s.cue.counters, nextSeq := (s.cue.nextSeq + 1) % 65536
                 log := (s.cue.log ++ [entryOf how]).drop (s.cue.log.length - 31) } }).report .cue
               ([fw (detectorWord d), fw len.word, fw action.word, fw how.word, fi s.tape.counter] ++
                 (if refused then [fw "REFUSED"] else []))
           let counted (f : TriggerCounters → TriggerCounters) (s : State) : State :=
             s.onTriggers fun q => { q with counters := f q.counters }
           let entry := s.triggers.perm .cue s.mode
           let noted (c : CueCounters) : CueCounters := { c with noted := (c.noted + 1) % 4294967296 }
           let acted (c : CueCounters) : CueCounters := { c with acted := (c.acted + 1) % 4294967296 }
           (b.echo = true →
             t = disposed .echo (fun c => { c with echo := (c.echo + 1) % 4294967296 }) false s) ∧
           (b.echo = false → action = .mark ∨ action = .nothing → t = disposed .noted noted false s) ∧
           (b.echo = false → action ≠ .mark → action ≠ .nothing →
             (entry = .note → t = disposed .noted noted false
               (counted (fun c => { c with noted := (c.noted + 1) % 4294967296 }) s)) ∧
             (entry = .drop → t = disposed .dropped (fun c => { c with dropped := (c.dropped + 1) % 4294967296 }) false
               (counted (fun c => { c with dropped := (c.dropped + 1) % 4294967296 }) s)) ∧
             (entry = .act → action = .next ∨ action = .back →
               let kind : TriggerKind := if action = .next then .next else .back
               (s.mode = .show ∨ s.mode = .held → 8 ≤ s.triggers.queue.length →
                 t = disposed .full (fun c => { c with full := (c.full + 1) % 4294967296 }) false
                   ((counted (fun c => { c with full := (c.full + 1) % 4294967296 }) s).report .show
                     [fw "TRIG", fw "FULL", fw "CUE", fw kind.word])) ∧
               (s.mode = .show ∨ s.mode = .held → waits →
                 t = disposed .queued (fun c => { c with queued := (c.queued + 1) % 4294967296 }) false
                   (s.onTriggers fun q =>
                     { q with
                       queue := q.queue ++ [⟨q.nextSeq, .cue, kind, some (.symbol ⟨d, len⟩), countNow s⟩]
                       nextSeq := (q.nextSeq + 1) % 65536
                       counters := { q.counters with entered := (q.counters.entered + 1) % 4294967296 } })) ∧
               (s.mode = .manual ∨ s.mode = .program → s.changer.state = .noTray ∨ s.changer.state = .jammed →
                 t = disposed .acted acted true s) ∧
               (s.mode = .manual ∨ s.mode = .program → SeatedAtRest s → 0 < s.changer.size →
                 let slot := relativeSlot s.changer.size s.changer.skipZero s.changer.slot
                   (if action = .next then 1 else -1)
                 slot < s.changer.size → slot ≠ s.changer.slot →
                 t = disposed .acted acted false (s.onChanger (Changer.liftFor ⟨slot, .cue, false, false⟩)))) ∧
             (entry = .act → action = .tapeStop →
               (s.tape.state = .noTape → t = disposed .acted acted true s) ∧
               (s.tape.state = .playing ∨ (s.tape.state = .cueRecord ∧ s.cue.writer = none) → s.tape.motor = .play →
                 s.tape.locate = none → s.cue.detecting = true → (∀ e : Fin 3, e ≠ d → s.cue.units[e].classifier = .quiet) →
                 t = disposed .acted acted false { s.report .tape [fw "STOPPED"] with
                   tape := { s.tape with
                     state := .stopped, motor := .off, rest := 0, endTimer := 0, guard := none, holdPause := false
                     delivered := 0 }
                   triggers := { s.triggers with toldTape := .stopped }
                   cue := { s.cue with detecting := false } } ∧
                 (∀ e : Fin 3, t.cue.units[e].window = none ∧ t.cue.units[e].hopLong = false ∧
                   t.cue.units[e].classifier = .quiet ∧ t.cue.units[e].set = s.cue.units[e].set))))))) ∧
  (∀ (s : State) (d : Fin 3), Between s → ∀ w, s.cue.units[d].window = some w →
     (∀ e : Fin 3, s.cue.units[e].awaiting = []) → w.low ≤ w.count → w.count ≤ w.high →
     let stop := w.start + w.len
     (∀ e : Fin 3, e ≠ d → (s.cue.units[e].window.all fun v => decide (stop ≤ v.start)) = true) →
     let crossed := (List.finRange 3).any fun e =>
       e != d && s.cue.units[e].hitWindows.any fun r => decide (w.start < r.stop) && decide (r.start < stop)
     let echo := (s.cue.writer.any fun y => y.symbol.detector == d && decide (y.start < stop)) ||
       (s.cue.units[d].lastWritten.any fun i => decide (w.start < i))
     let clock := max s.now (w.start + w.len)
     let ran := s.cue.writer.map fun y =>
       { y with remaining := (match y.symbol.length with | .short => 120 | .long => 400) - (clock - y.start) / 4 }
     ∃ t, exec (.detectorWindowEnd d) s = .next t ∧
       (crossed = false ∨ s.cue.units[d].classifier = .quiet →
         ∀ e : Fin 3, e ≠ d → t.cue.units[e].classifier = s.cue.units[e].classifier ∧
           t.cue.units[e].window = s.cue.units[e].window) ∧
       t.cue.units[d].awaiting = [] ∧
       (crossed = true → s.cue.units[d].classifier = .quiet →
         t.cue.units[d].classifier = .quiet ∧
         t = { s with now := clock, cue := { s.cue with
           units := t.cue.units, writer := ran
           counters := { s.cue.counters with crosstalk := (s.cue.counters.crosstalk + 1) % 4294967296 } } }) ∧
       (crossed = false →
         (s.cue.units[d].classifier = .quiet →
           t.cue.units[d].classifier = .burst ⟨1, 0, w.start, stop, echo⟩ ∧
           t = { s with now := clock, cue := { s.cue with units := t.cue.units, writer := ran } }) ∧
         (∀ b, s.cue.units[d].classifier = .burst b →
           (b.hits < 30 →
             t.cue.units[d].classifier = .burst ⟨b.hits + 1, 0, b.start, stop, b.echo || echo⟩ ∧
             t = { s with now := clock, cue := { s.cue with units := t.cue.units, writer := ran } }) ∧
           (30 ≤ b.hits →
             t.cue.units[d].classifier = .stuck ⟨b.hits + 1, 0, b.start, stop, b.echo || echo⟩ ∧
             t = { s with now := clock, cue := { s.cue with units := t.cue.units, writer := ran }
                          faults := t.faults, line := t.line } ∧
             (t.faults.record .cueStuck).present = true ∧
             ((s.faults.record .cueStuck).mode = .report →
               (t.faults.record .cueStuck).count = min 255 ((s.faults.record .cueStuck).count + 1) ∧
               (t.faults.record .cueStuck).detail = some (.detector d)) ∧
             (∀ k, k ≠ .cueStuck → t.faults.record k = s.faults.record k))) ∧
         (∀ b, s.cue.units[d].classifier = .stuck b →
           t.cue.units[d].classifier = .stuck { b with misses := 0 } ∧
           t = { s with now := clock, cue := { s.cue with units := t.cue.units, writer := ran } }))) ∧
  (∀ (s : State) (d : Fin 3), Between s → ∀ w, s.cue.units[d].window = some w → ∀ b,
     s.cue.units[d].classifier = .stuck b → (∀ e : Fin 3, s.cue.units[e].awaiting = []) →
     w.count < w.low ∨ w.high < w.count →
     let clock := max s.now (w.start + w.len)
     let ran := s.cue.writer.map fun y =>
       { y with remaining := (match y.symbol.length with | .short => 120 | .long => 400) - (clock - y.start) / 4 }
     ∃ t, exec (.detectorWindowEnd d) s = .next t ∧
       t = { s with now := clock, cue := { s.cue with units := t.cue.units, writer := ran }
                    faults := t.faults, line := t.line } ∧
       (∀ k, k ≠ .cueStuck → t.faults.record k = s.faults.record k) ∧
       (b.misses = 0 → t.cue.units[d].classifier = .stuck { b with misses := 1 } ∧ t.faults = s.faults) ∧
       (b.misses ≠ 0 → t.cue.units[d].classifier = .quiet ∧ (t.faults.record .cueStuck).present = false)) ∧
  (∀ (s : State) (d : Fin 3), LineFree s → s.tape.state = .playing → s.tape.motor = .play → s.tape.locate = none →
     s.cue.detecting = true → (∀ e : Fin 3, s.cue.units[e].awaiting = []) →
     (∀ e : Fin 3, e ≠ d → s.cue.units[e].classifier = .quiet) →
     (∀ b, s.cue.units[d].classifier = .burst b →
       let action := s.cue.action ⟨d, if b.hits ≤ 9 then .short else .long⟩
       b.hits ≤ 2 ∨ b.echo = true ∨ action = .mark ∨ action = .nothing ∨ action = .tapeStop ∨
         s.triggers.perm .cue s.mode ≠ .act ∨ s.engine.state ≠ .running ∨
         s.engine.execution.map Execution.phase ≠ some .settled) →
     ∃ t, exec .tapeStop s = .next t ∧
       ((∀ b, s.cue.units[d].classifier = .burst b → b.hits ≤ 2 ∨ b.echo = true ∨
           s.cue.action ⟨d, if b.hits ≤ 9 then .short else .long⟩ = .mark ∨
           s.cue.action ⟨d, if b.hits ≤ 9 then .short else .long⟩ = .nothing) →
         t = { s with
           tape := { s.tape with
             state := .stopped, motor := .off, rest := 0, endTimer := 0, guard := none, holdPause := false, delivered := 0 }
           triggers := { s.triggers with toldTape := .stopped }
           cue := t.cue, line := t.line, faults := t.faults }) ∧
       t.tape.state = .stopped ∧ t.tape.motor = .off ∧ t.triggers.toldTape = .stopped ∧ t.cue.detecting = false ∧
       t.cue.map = s.cue.map ∧ t.cue.writer = s.cue.writer ∧
       (∀ e : Fin 3, t.cue.units[e].window = none ∧ t.cue.units[e].hopLong = false ∧ t.cue.units[e].classifier = .quiet ∧
         t.cue.units[e].set = s.cue.units[e].set) ∧
       (s.cue.units[d].classifier = .quiet → t.cue.counters = s.cue.counters ∧ t.cue.log = s.cue.log) ∧
       (∀ b, s.cue.units[d].classifier = .stuck b →
         t.cue.counters = s.cue.counters ∧ t.cue.log = s.cue.log ∧ (t.faults.record .cueStuck).present = false) ∧
       (∀ b, s.cue.units[d].classifier = .burst b →
         (b.hits ≤ 2 → t.cue.log = s.cue.log ∧
           t.cue.counters = { s.cue.counters with noise := (s.cue.counters.noise + 1) % 4294967296 }) ∧
         (3 ≤ b.hits →
           let len : LengthClass := if b.hits ≤ 9 then .short else .long
           let action := s.cue.action ⟨d, len⟩
           let entryOf (how : Disposition) : LogEntry := ⟨s.cue.nextSeq, ⟨d, len⟩, action, some how, s.tape.counter⟩
           let logged (how : Disposition) : List LogEntry := (s.cue.log ++ [entryOf how]).drop (s.cue.log.length - 31)
           t.cue.nextSeq = (s.cue.nextSeq + 1) % 65536 ∧
           (b.echo = true → t.cue.log = logged .echo ∧
             t.cue.counters = { s.cue.counters with echo := (s.cue.counters.echo + 1) % 4294967296 }) ∧
           (b.echo = false → action = .mark ∨ action = .nothing → t.cue.log = logged .noted ∧
             t.cue.counters = { s.cue.counters with noted := (s.cue.counters.noted + 1) % 4294967296 }))))

/-- R155, R156, R159: the focus motor (the reason words: log entry 24). That FOCUS_BLANKING_END and FOCUS_RUN_END without a
driven run change nothing is log entry 4; the focus rest time while the motor is driven is log entry 46. -/
def Obligations.TheFocusMotorRuns : Prop :=
  (∀ (s : State) (ms : Int), LineFree s →
     (let time := (max 20 (min 2000 ms)).toNat
      let reply (word : String) : Reply := .accepted "FOCUS" [fw word, fc time (decide (ms < 20 ∨ 2000 < ms))]
      let run (dir : FocusDir) (r : Option FocusRun) (rest : Nat) : FocusRun × Nat := match r with
       | some r =>
         if r.driving then
           (if r.dir = dir then (⟨dir, .line, true, 0, some time, r.blanking⟩, rest)
             else (⟨dir, .line, false, 0, some time, none⟩, 0))
         else if 30 ≤ rest then (⟨dir, .line, true, 0, some time, some 0⟩, rest)
         else (⟨dir, .line, false, 0, some time, none⟩, rest)
       | none =>
         if 30 ≤ rest then (⟨dir, .line, true, 0, some time, some 0⟩, rest)
         else (⟨dir, .line, false, 0, some time, none⟩, rest)
      (s.supplyLow = false →
       exec (.focusIn ms) s = .next ((s.onKeys fun k =>
         { k with focus := some (run .inward k.focus k.focusRest).1, focusRest := (run .inward k.focus k.focusRest).2 }).answered
           (reply "IN")) ∧
       exec (.focusOut ms) s = .next ((s.onKeys fun k =>
         { k with focus := some (run .outward k.focus k.focusRest).1, focusRest := (run .outward k.focus k.focusRest).2 }).answered
           (reply "OUT")))) ∧
     (s.supplyLow = true →
       exec (.focusIn ms) s = .next (s.answered (.refused .state "FOCUS")) ∧
       exec (.focusOut ms) s = .next (s.answered (.refused .state "FOCUS"))) ∧
     (s.keys.focus = none → exec .focusStop s = .next (s.answered (.accepted "FOCUS" [fw "STOP"]))) ∧
     (∀ r, s.keys.focus = some r →
       exec .focusStop s = .next (s.takes (fun s => (s.onKeys fun k =>
         { k with focus := none, focusRest := if r.driving then 0 else k.focusRest }).report .key
           [fw "FOCUS", fw "END", fw r.dir.word, fw "STOPPED"]) (.accepted "FOCUS" [fw "STOP"])))) ∧
  (∀ s : State, Between s →
     (s.keys.focus = none →
       exec .focusRestEnd s = .next (s.onKeys fun k => { k with focusRest := 30 }) ∧
       exec .focusBlankingEnd s = .next s ∧ exec .focusRunEnd s = .next s ∧
       (∀ high, exec (.focusCurrentChange high) s = .next (s.onPins fun p => { p with focusOver := high }))) ∧
     (∀ r, s.keys.focus = some r →
       (r.driving = false →
         exec .focusRestEnd s = .next (s.onKeys fun k =>
           { k with focusRest := 30, focus := some { r with driving := true, blanking := some 0 } }) ∧
         exec .focusRunEnd s = .next s) ∧
       (r.driving = true →
         exec .focusRunEnd s = .next ((s.onKeys fun k => { k with focus := none, focusRest := 0 }).report .key
           [fw "FOCUS", fw "END", fw r.dir.word, fw (if r.requested = none then "RUNLIMIT" else "DONE")])) ∧
       (r.blanking ≠ none → s.pins.focusOver = false →
         exec .focusBlankingEnd s = .next (s.onKeys fun k => { k with focus := some { r with blanking := none } })) ∧
       (r.driving = true → r.blanking ≠ none → s.pins.focusOver = true →
         exec .focusBlankingEnd s = .next ((s.onKeys fun k => { k with focus := none, focusRest := 0 }).report .key
           [fw "FOCUS", fw "LIMIT", fw r.dir.word])) ∧
       (r.blanking ≠ none →
         exec (.focusCurrentChange true) s = .next (s.onPins fun p => { p with focusOver := true })) ∧
       (r.driving = true → r.blanking = none →
         exec (.focusCurrentChange true) s = .next (((s.onPins fun p => { p with focusOver := true }).onKeys fun k =>
           { k with focus := none, focusRest := 0 }).report .key [fw "FOCUS", fw "LIMIT", fw r.dir.word]))))

/-- R142 to R146, R152, R157. That the rows carry measured durations is log entry 10; that the release and the expiry change
nothing without a key or digits is log entry 4; the IGNORED and RELEASE words are log entry 24. The release timer at 0 in
IDLE is the model's choice (log entry 42), as is the kind DATA of the decoder in WAITING and in GAP (log entry 43); the
entry timer at 0 with an empty entry is log entry 47 (DEDUCED). -/
def Obligations.FramesAndKeysAreJudged : Prop :=
  (∀ (s : State) (f : IrDataTiming), f.wellFormed = true → Between s → s.keys.decoder.phase = .waiting →
     let v := bitsToNat (f.bits.map fun b => decide (1125 ≤ b.2))
     let address := v % 16
     let code := v / 16 % 64
     let good := v / 1024 = (code + 3 * address) % 64
     let own := s.keys.address = none ∨ s.keys.address = some address
     (¬ good → exec (.irDataFrame f) s = .next (s.onKeys fun k =>
       { k with decoder := ⟨.waiting, [], .data, false⟩, invalid := min 65535 (k.invalid + 1) })) ∧
     (good → ¬ own → exec (.irDataFrame f) s = .next (s.onKeys fun k =>
       { k with decoder := ⟨.waiting, [], .data, false⟩, foreign := min 65535 (k.foreign + 1) })) ∧
     (good → own → s.keys.held = none → (code = 0 ∨ 25 < code ∨ (9 < code ∧ code < 16)) →
       exec (.irDataFrame f) s = .next (s.onKeys fun k =>
         { k with decoder := ⟨.waiting, [], .data, false⟩, unassigned := min 65535 (k.unassigned + 1) })) ∧
     (∀ d : Fin 10, good → own → s.keys.held = none → code = 16 + d.val → s.keys.digits.length < 3 →
       exec (.irDataFrame f) s = .next ((s.onKeys fun k =>
         { k with
           decoder := ⟨.waiting, [], .data, false⟩, held := some (.digit d), releaseTimer := 0
           digits := k.digits ++ [d], entryTimer := 0 }).report .key
             [fw "DIGITS", fw (digitText (s.keys.digits ++ [d]))])) ∧
     (good → own → s.keys.held = none → code = 5 → s.mode ≠ .manual →
       exec (.irDataFrame f) s = .next ((s.onKeys fun k =>
         { k with
           decoder := ⟨.waiting, [], .data, false⟩, held := some .lamp, releaseTimer := 0
           ignored := min 65535 (k.ignored + 1) }).report .key [fw "LAMP", fw "REMOTE", fw "IGNORED"]))) ∧
  (∀ s : State, Between s → s.keys.decoder.phase = .waiting →
     (∀ f : IrRepeatTiming, f.wellFormed = true →
       exec (.irRepeatFrame f) s = .next (s.onKeys fun k =>
         { k with
           decoder := ⟨.waiting, [], .data, false⟩
           releaseTimer := if k.held = none then k.releaseTimer else 0 })) ∧
     (∀ leader gap : Nat, 1800 ≤ leader → leader ≤ 3000 → gap < 450 ∨ (750 < gap ∧ gap < 900) ∨ 1500 < gap →
       exec (.irFrameInvalid [.mark leader, .space gap]) s = .next (s.onKeys fun k =>
         { k with decoder := ⟨.waiting, [], .data, false⟩, invalid := min 65535 (k.invalid + 1) })) ∧
     (∀ leader gap mark : Nat, 1800 ≤ leader → leader ≤ 3000 → 900 ≤ gap → gap ≤ 1500 → mark < 375 ∨ 625 < mark →
       exec (.irFrameInvalid [.mark leader, .space gap, .mark mark]) s = .next (s.onKeys fun k =>
         { k with
           decoder := if 1800 ≤ mark ∧ mark ≤ 3000 then ⟨.gap, [], .data, false⟩ else ⟨.waiting, [], .data, false⟩
           invalid := min 65535 (k.invalid + 1) }))) ∧
  (∀ s : State, Between s →
     (s.keys.held = none → exec .keyReleaseTimeout s = .next s) ∧
     (∀ k, s.keys.held = some k →
       (k ≠ .focusIn → k ≠ .focusOut →
         exec .keyReleaseTimeout s = .next (s.onKeys fun k => { k with held := none, releaseTimer := 0 })) ∧
       (∀ r, s.keys.focus = some r → r.origin = .key → r.driving = true →
         (k = .focusIn ∧ r.dir = .inward) ∨ (k = .focusOut ∧ r.dir = .outward) →
         exec .keyReleaseTimeout s = .next ((s.onKeys fun k =>
           { k with held := none, releaseTimer := 0, focus := none, focusRest := 0 }).report .key
             [fw "FOCUS", fw "END", fw r.dir.word, fw "RELEASE"]))) ∧
     (s.keys.digits = [] → exec .digitsExpired s = .next s) ∧
     (s.keys.digits ≠ [] →
       exec .digitsExpired s = .next ((s.onKeys fun k => { k with digits := [], entryTimer := 0 }).report .key
         [fw "DIGITS", fw "EXPIRED"])))

/-- R146 to R154: the keys. That WIRED_DEBOUNCE_END with no debounce running changes nothing is log entry 4; the outcome
words are log entry 24; the tape count of a record is log entry 29. The kind DATA of the decoder in WAITING is the model's
choice (log entry 43), as is the start of PLAYING that a CUEREC waiting at RUN becomes (log entry 36); so are the rest times
while a motor is driven (log entry 46); the entry timer at 0 with an empty entry is log entry 47 (DEDUCED). -/
def Obligations.WiredKeysAreDebounced : Prop :=
  (∀ s : State, Between s →
     (∀ closed,
       exec (.wiredInputChange .fwd closed) s = .next ((s.onPins fun p => { p with wiredFwd := closed }).onKeys fun k =>
         { k with fwd := { k.fwd with
             debounce := if closed = k.fwd.closed then none else some (k.fwd.debounce.getD 0) } }) ∧
       exec (.wiredInputChange .rev closed) s = .next ((s.onPins fun p => { p with wiredRev := closed }).onKeys fun k =>
         { k with rev := { k.rev with
             debounce := if closed = k.rev.closed then none else some (k.rev.debounce.getD 0) } })) ∧
     (∀ key, (s.keys.wired key).debounce = none → exec (.wiredDebounceEnd key) s = .next s) ∧
     (∀ key, (s.keys.wired key).debounce ≠ none → (s.keys.wired key).closed = true →
       exec (.wiredDebounceEnd key) s = .next (s.onKeys (Keys.changeWired key fun _ => ⟨false, none⟩))) ∧
     (∀ key, (s.keys.wired key).debounce ≠ none → (s.keys.wired key).closed = false →
       let name := match key with | .fwd => "FORWARD" | .rev => "REVERSE"
       (s.triggers.perm .wired s.mode = .note →
         exec (.wiredDebounceEnd key) s = .next (((s.onKeys (Keys.changeWired key fun _ => ⟨true, none⟩)).onTriggers fun t =>
           { t with counters := { t.counters with noted := (t.counters.noted + 1) % 4294967296 } }).report .key
             [fw name, fw "WIRED", fw "NOTED"])) ∧
       (s.triggers.perm .wired s.mode = .drop →
         exec (.wiredDebounceEnd key) s = .next (((s.onKeys (Keys.changeWired key fun _ => ⟨true, none⟩)).onTriggers fun t =>
           { t with counters := { t.counters with dropped := (t.counters.dropped + 1) % 4294967296 } }).report .key
             [fw name, fw "WIRED", fw "DROPPED"])) ∧
       (s.triggers.perm .wired s.mode = .act → s.mode = .manual → SeatedAtRest s → 0 < s.changer.size →
         let slot := relativeSlot s.changer.size s.changer.skipZero s.changer.slot
           (match key with | .fwd => 1 | .rev => -1)
         slot < s.changer.size → slot ≠ s.changer.slot →
         exec (.wiredDebounceEnd key) s = .next (((s.onKeys (Keys.changeWired key fun _ => ⟨true, none⟩)).onChanger
           (Changer.liftFor ⟨slot, .wired, false, false⟩)).report .key [fw name, fw "WIRED", fw "ACTED"])))) ∧
  (∀ s : State, Between s →
     let acts (i : Instr) (base : State) (source : Source) (key : Key) : Prop :=
       let kind : TriggerKind := if key = .forward then .next else .back
       let action : CueAction := if key = .forward then .next else .back
       let len : LengthClass := if key = .forward then s.keys.progNext else s.keys.progBack
       let slot := relativeSlot s.changer.size s.changer.skipZero s.changer.slot (if key = .forward then 1 else -1)
       let origin : Origin := if source = .wired then .wired else .remote
       let told (outcome : List Field) (s : State) : State := s.report .key (fw key.word :: fw source.word :: outcome)
       let free := SeatedAtRest s ∧ 0 < s.changer.size ∧ slot < s.changer.size ∧ slot ≠ s.changer.slot
       let ignored (why : String) : State := told [fw "IGNORED", fw why]
         ((base.report .cue [fw "WRITE", fw "IGNORED", fw why]).onKeys fun k => { k with ignored := min 65535 (k.ignored + 1) })
       let written (d : Fin 3) : State :=
         ({ base with cue := { s.cue with
             writer := some ⟨⟨d, len⟩, s.cue.units[d].set.freq, s.now, match len with | .short => 120 | .long => 400⟩
             counters := { s.cue.counters with writes := (s.cue.counters.writes + 1) % 4294967296 }
             nextSeq := (s.cue.nextSeq + 1) % 65536
             log := (s.cue.log ++ [(⟨s.cue.nextSeq, ⟨d, len⟩, action, none, s.tape.counter⟩ : LogEntry)]).drop
               (s.cue.log.length - 31) } }).report .cue
           [fw "WRITE", fw (detectorWord d), fw len.word, fi s.tape.counter]
       (s.triggers.perm source s.mode = .act →
         (s.mode = .manual → s.changer.state = .noTray ∨ s.changer.state = .jammed →
           exec i s = .next (told [fw "REFUSED", fw "STATE"] base)) ∧
         (s.mode = .manual → free →
           exec i s = .next (told [fw "ACTED"] (base.onChanger (Changer.liftFor ⟨slot, origin, false, false⟩)))) ∧
         (s.mode = .show ∨ s.mode = .held → 8 ≤ s.triggers.queue.length →
           exec i s = .next (told [fw "FULL"] ((base.onTriggers fun t =>
             { t with counters := { t.counters with full := (t.counters.full + 1) % 4294967296 } }).report .show
               [fw "TRIG", fw "FULL", fw source.word, fw kind.word]))) ∧
         (s.mode = .show ∨ s.mode = .held → s.triggers.queue.length < 8 →
           s.engine.state ≠ .running ∨ s.engine.execution.map Execution.phase ≠ some .settled →
           s.triggers.hold = false ∧ (s.triggers.tapeHold = false ∨ s.triggers.toldShow ≠ .running ∨
             s.triggers.queue.length + 1 < s.triggers.holdAt) →
           exec i s = .next (told [fw "QUEUED"] (base.onTriggers fun t =>
             { t with
               queue := t.queue ++ [⟨t.nextSeq, source, kind, some (.keyCode (if key = .forward then 1 else 2)), countNow s⟩]
               nextSeq := (t.nextSeq + 1) % 65536
               counters := { t.counters with entered := (t.counters.entered + 1) % 4294967296 } }))) ∧
         (s.mode = .program → s.tape.state ≠ .cueRecord → exec i s = .next (ignored "STATE")) ∧
         (s.mode = .program → s.tape.state = .cueRecord → s.cue.writer ≠ none → exec i s = .next (ignored "BUSY")) ∧
         (s.mode = .program → s.tape.state = .cueRecord → s.cue.writer = none →
           (∀ d : Fin 3, s.cue.action ⟨d, len⟩ ≠ action) → exec i s = .next (ignored "NOMAP")) ∧
         (∀ d : Fin 3, s.mode = .program → s.tape.state = .cueRecord → s.cue.writer = none →
           s.cue.action ⟨d, len⟩ = action → (∀ e : Fin 3, e < d → s.cue.action ⟨e, len⟩ ≠ action) →
           (s.changer.state = .noTray ∨ s.changer.state = .jammed →
             exec i s = .next (told [fw "REFUSED", fw "STATE"] (written d))) ∧
           (free →
             exec i s = .next (told [fw "ACTED"]
               ((written d).onChanger (Changer.liftFor ⟨slot, origin, false, false⟩))))))
     (∀ f : IrDataTiming, f.wellFormed = true → s.keys.decoder.phase = .waiting → s.keys.held = none →
       let v := bitsToNat (f.bits.map fun b => decide (1125 ≤ b.2))
       let base (key : Key) : State := s.onKeys fun k =>
         { k with decoder := ⟨.waiting, [], .data, false⟩, held := some key, releaseTimer := 0 }
       v / 1024 = (v / 16 % 64 + 3 * (v % 16)) % 64 → s.keys.address = none ∨ s.keys.address = some (v % 16) →
       (v / 16 % 64 = 1 → acts (.irDataFrame f) (base .forward) .remote .forward) ∧
       (v / 16 % 64 = 2 → acts (.irDataFrame f) (base .reverse) .remote .reverse)) ∧
     (∀ w : WiredKey, (s.keys.wired w).debounce ≠ none → (s.keys.wired w).closed = false →
       acts (.wiredDebounceEnd w) (s.onKeys (Keys.changeWired w fun _ => ⟨true, none⟩)) .wired
         (match w with | .fwd => .forward | .rev => .reverse))) ∧
  (∀ (s : State) (f : IrDataTiming), f.wellFormed = true → Between s → s.keys.decoder.phase = .waiting →
     s.keys.held ≠ some .focusIn → s.keys.held ≠ some .focusOut →
     let v := bitsToNat (f.bits.map fun b => decide (1125 ≤ b.2))
     let code := v / 16 % 64
     let pressed (key : Key) : State := s.onKeys fun k =>
       { k with decoder := ⟨.waiting, [], .data, false⟩, held := some key, releaseTimer := 0 }
     let told (key : Key) (outcome : List Field) (s : State) : State := s.report .key (fw key.word :: fw "REMOTE" :: outcome)
     let ignored (key : Key) (why : List Field) (s : State) : State :=
       told key (fw "IGNORED" :: why) (s.onKeys fun k => { k with ignored := min 65535 (k.ignored + 1) })
     let permit := s.triggers.perm .remote s.mode
     v / 1024 = (code + 3 * (v % 16)) % 64 → s.keys.address = none ∨ s.keys.address = some (v % 16) →
     (∀ q ∈ [(1, Key.forward), (2, .reverse), (6, .show), (7, .stop)], code = q.1 →
       (permit = .note →
         exec (.irDataFrame f) s = .next (told q.2 [fw "NOTED"] ((pressed q.2).onTriggers fun t =>
           { t with counters := { t.counters with noted := (t.counters.noted + 1) % 4294967296 } }))) ∧
       (permit = .drop →
         exec (.irDataFrame f) s = .next (told q.2 [fw "DROPPED"] ((pressed q.2).onTriggers fun t =>
           { t with counters := { t.counters with dropped := (t.counters.dropped + 1) % 4294967296 } })))) ∧
     (code = 9 →
       exec (.irDataFrame f) s = .next (told .mute [fw "ACTED"] (((pressed .mute).onTape fun t =>
         { t with
           mute := !t.mute
           delivered := if t.mute ∧ (t.state = .playing ∨ t.state = .cueRecord) then t.value else 0 }).report .tape
             [fw "MUTE", fw (if s.tape.mute then "OFF" else "ON")]))) ∧
     (code = 5 → s.mode = .manual →
       exec (.irDataFrame f) s = .next (told .lamp [fw "ACTED"] ((pressed .lamp).onLamp fun l =>
         { l with
           ramp := ⟨l.value, if 0 < l.requested then 0 else l.lastLit, 500, 0, some .remote, true⟩
           requested := if 0 < l.requested then 0 else l.lastLit }))) ∧
     (∀ q ∈ [(3, Key.focusIn, FocusDir.inward), (4, .focusOut, .outward)], code = q.1 →
       (s.supplyLow = true → exec (.irDataFrame f) s = .next (ignored q.2.1 [fw "SUPPLY"] (pressed q.2.1))) ∧
       (s.supplyLow = false → s.keys.focus = none →
         exec (.irDataFrame f) s = .next ((pressed q.2.1).onKeys fun k =>
           { k with focus := some ⟨q.2.2, .key, decide (30 ≤ k.focusRest), 0, none,
             if 30 ≤ k.focusRest then some 0 else none⟩ }))) ∧
     (∀ d : Fin 10, code = 16 + d.val → 3 ≤ s.keys.digits.length →
       exec (.irDataFrame f) s = .next (ignored (.digit d) [fw "FULL"] (pressed (.digit d)))) ∧
     (code = 8 → s.keys.digits = [] →
       exec (.irDataFrame f) s = .next (ignored .go [fw "EMPTY"] (pressed .go))) ∧
     (code = 8 → s.keys.digits ≠ [] →
       let n := s.keys.digits.foldl (fun n d => 10 * n + d.val) 0
       let go : State := (pressed .go).onKeys fun k => { k with digits := [], entryTimer := 0 }
       (permit = .note →
         exec (.irDataFrame f) s = .next (told .go [fw "NOTED"] (go.onTriggers fun t =>
           { t with counters := { t.counters with noted := (t.counters.noted + 1) % 4294967296 } }))) ∧
       (permit = .drop →
         exec (.irDataFrame f) s = .next (told .go [fw "DROPPED"] (go.onTriggers fun t =>
           { t with counters := { t.counters with dropped := (t.counters.dropped + 1) % 4294967296 } }))) ∧
       (permit = .act → s.mode = .manual ∨ s.mode = .program →
         (s.changer.size ≤ n → exec (.irDataFrame f) s = .next (ignored .go [fw "RANGE"] go)) ∧
         (n < s.changer.size → s.changer.state = .noTray ∨ s.changer.state = .jammed →
           exec (.irDataFrame f) s = .next (told .go [fw "REFUSED", fw "STATE", fi n] go)) ∧
         (n < s.changer.size → SeatedAtRest s → n ≠ s.changer.slot →
           exec (.irDataFrame f) s = .next (told .go [fw "ACTED", fi n]
             (go.onChanger (Changer.liftFor ⟨n, .remote, false, false⟩))))) ∧
       (permit = .act → s.mode = .show ∨ s.mode = .held →
         (n = 0 ∨ s.engine.steps.length < n → exec (.irDataFrame f) s = .next (ignored .go [fw "RANGE"] go)) ∧
         (1 ≤ n → n ≤ s.engine.steps.length → 8 ≤ s.triggers.queue.length →
           exec (.irDataFrame f) s = .next (told .go [fw "FULL", fi n] ((go.onTriggers fun t =>
             { t with counters := { t.counters with full := (t.counters.full + 1) % 4294967296 } }).report .show
               [fw "TRIG", fw "FULL", fw "REMOTE", fw "JUMP"]))) ∧
         (1 ≤ n → n ≤ s.engine.steps.length → s.triggers.queue.length < 8 →
           s.engine.state ≠ .running ∨ s.engine.execution.map Execution.phase ≠ some .settled →
           s.triggers.hold = false ∧ (s.triggers.tapeHold = false ∨ s.triggers.toldShow ≠ .running ∨
             s.triggers.queue.length + 1 < s.triggers.holdAt) →
           exec (.irDataFrame f) s = .next (told .go [fw "QUEUED", fi n] (go.onTriggers fun t =>
             { t with
               queue := t.queue ++ [⟨t.nextSeq, .remote, .jump n, some (.keyCode 8), countNow s⟩]
               nextSeq := (t.nextSeq + 1) % 65536
               counters := { t.counters with entered := (t.counters.entered + 1) % 4294967296 } })))))) ∧
  (∀ (s : State) (f : IrDataTiming), f.wellFormed = true → Between s → s.keys.decoder.phase = .waiting →
     s.keys.held = none →
     let v := bitsToNat (f.bits.map fun b => decide (1125 ≤ b.2))
     let code := v / 16 % 64
     let pressed (key : Key) : State := s.onKeys fun k =>
       { k with decoder := ⟨.waiting, [], .data, false⟩, held := some key, releaseTimer := 0 }
     let told (key : Key) (outcome : List Field) (s : State) : State := s.report .key (fw key.word :: fw "REMOTE" :: outcome)
     let ignored (key : Key) : State :=
       told key [fw "IGNORED"] ((pressed key).onKeys fun k => { k with ignored := min 65535 (k.ignored + 1) })
     v / 1024 = (code + 3 * (v % 16)) % 64 → s.keys.address = none ∨ s.keys.address = some (v % 16) →
     s.triggers.perm .remote s.mode = .act →
     (code = 6 → s.mode = .program → exec (.irDataFrame f) s = .next (ignored .show)) ∧
     (code = 7 → s.mode = .manual ∨ s.mode = .program → exec (.irDataFrame f) s = .next (ignored .stop)) ∧
     (code = 6 → s.mode = .manual → s.engine.state = .empty ∨ s.engine.causes ≠ [] →
       exec (.irDataFrame f) s = .next (told .show [fw "REFUSED", fw "STATE"] (pressed .show))) ∧
     (code = 6 → s.mode = .held → (∃ c ∈ s.engine.causes, c ≠ .request ∧ c ≠ .supplyLow) →
       exec (.irDataFrame f) s = .next (told .show [fw "REFUSED", fw "STATE"] (pressed .show))) ∧
     (∀ st, s.engine.steps[0]? = some st → code = 6 → s.mode = .manual →
       s.engine.state = .ready ∨ s.engine.state = .ended → s.engine.causes = [] → s.tape.state ≠ .cueRecord →
       s.triggers.hold = false →
       s.triggers.tapeHold = false ∨ s.triggers.queue.length < s.triggers.holdAt →
       st.slide = none → st.sound = none → st.tape = none → 10 ≤ st.fadeIn →
       exec (.irDataFrame f) s = .next { told .show [fw "ACTED"] (((pressed .show).report .show [fw "RUNNING"]).report .show
             [fw "STEP", fi 1, fw "RUN", fw "NONE"]) with
         engine := { s.engine with
           state := .running, steps := s.engine.steps.map fun st => { st with reached := none }
           level := st.level.getD 1000
           execution := some
             { step := 1, reason := .run, target := none, phase := .fadingIn, rampAwaited := true, changeAwaited := false
               tape := .none, deferred := .none, catchUp := false, dwell := none, dwellRuns := false } }
         lamp := { s.lamp with
           ramp := ⟨s.lamp.value, st.level.getD 1000, st.fadeIn / 10 * 10, 0, some .show, true⟩
           requested := st.level.getD 1000
           lastLit := if 0 < st.level.getD 1000 then st.level.getD 1000 else s.lamp.lastLit }
         tape := { s.tape with guard := s.tape.guardAtRun }
         triggers := { s.triggers with toldShow := .running } }) ∧
     (code = 6 → s.mode = .show → s.engine.state = .running → s.engine.causes = [] → s.tape.state ≠ .playing →
       s.triggers.hold = false →
       exec (.irDataFrame f) s = .next { told .show [fw "ACTED"] ((pressed .show).report .show [fw "HELD", fw "REQUEST"]) with
         engine := { s.engine with
           state := .held, causes := [.request]
           execution := s.engine.execution.map fun x => { x with dwellRuns := false } }
         tape := { s.tape with
           reasons := { s.tape.reasons with byShow := true }, resume := s.tape.ramp.target
           ramp := ⟨s.tape.value, 0, 500, 0, .hold, true⟩ }
         triggers := { s.triggers with toldShow := .held } }) ∧
     (∀ x, s.engine.execution = some x → code = 6 → s.mode = .held → s.engine.state = .held →
       s.engine.causes = [.request] → s.triggers.hold = false → s.triggers.queue = [] → s.tape.state = .stopped →
       x.deferred = .none → x.changeAwaited = false → x.tape ≠ .owed →
       s.triggers.tapeHold = false ∨ 0 < s.triggers.holdAt →
       exec (.irDataFrame f) s = .next { told .show [fw "ACTED"] ((pressed .show).report .show [fw "RUNNING"]) with
         engine := { s.engine with
           state := .running, causes := []
           execution := some { x with dwellRuns := x.phase == .settled && x.dwell.isSome } }
         tape := { s.tape with
           guard := s.tape.guardAtRun, reasons := { s.tape.reasons with byShow := false }
           ramp := ⟨s.tape.value, s.tape.resume, 500, 0, .hold, true⟩ }
         triggers := { s.triggers with toldShow := .running } }) ∧
     (code = 7 → s.mode = .show → s.engine.state = .running → s.engine.causes = [] → s.triggers.hold = false →
       s.triggers.queue = [] → s.tape.state = .stopped → s.tape.motor = .off → s.tape.locate = none →
       exec (.irDataFrame f) s = .next { told .stop [fw "ACTED"] ((pressed .stop).report .show [fw "READY"]) with
         engine := { s.engine with state := .ready, execution := none }
         lamp := { s.lamp with ramp := ⟨s.lamp.value, 0, 2000, 0, some .show, true⟩, requested := 0 }
         tape := { s.tape with
           guard := none, holdPause := false, delivered := 0, ramp := ⟨s.tape.value, 0, 2000, 0, .show, true⟩ }
         triggers := { s.triggers with
           toldShow := .ready
           counters := { s.triggers.counters with flushed := s.triggers.counters.flushed % 4294967296 } } }))

/-- R161 to R163, R182, R183 (the order of the checks, and that the shape of AD is found with the form of the operands: log
entry 21, DEDUCED; that a step edited with KEEP loses its reached slot: log entry 20). -/
def Obligations.TheStepListIsEdited : Prop :=
  (∀ (s : State) (n : Nat) (keep : Bool) (fields : List StepField), LineFree s →
     (s.engine.state = .ready ∨ s.engine.state = .ended ∨ s.engine.state = .running ∨ s.engine.state = .held ∨
       (s.engine.state = .empty ∧ s.triggers.toldShow = .empty ∧ s.triggers.hold = false)) →
     s.engine.steps ≠ [] ∨ s.engine.state = .empty → stepdefRefusal n keep fields s = none →
     ∃ t, exec (.stepdef n keep fields) s = .next t ∧
       (∀ st, t.engine.steps[n - 1]? = some st →
         t = { s.takes (fun s => if s.engine.state = .empty then s.report .show [fw "READY"] else s)
             (.accepted "STEPDEF" ([fi n, ki "COUNT" t.engine.steps.length] ++
               stepFields st fun name => fields.any fun f => fieldName f == name && fieldClamped f)) with
           engine := { s.engine with
             steps := if n = s.engine.steps.length + 1 then s.engine.steps ++ [st] else s.engine.steps.set (n - 1) st
             state := if s.engine.state = .empty then .ready else s.engine.state }
           triggers := { s.triggers with toldShow := if s.engine.state = .empty then .ready else s.triggers.toldShow } } ∧
         st.reached = none ∧
         (∀ m, .slot m ∈ fields → st.slide = some (.slot m.toNat)) ∧
         (∀ k, .offset k ∈ fields → st.slide = some (.offset (max (-9) (min 9 k)))) ∧
         (∀ w, .slideWord w ∈ fields → st.slide = none) ∧
         (∀ w, .style w ∈ fields → st.style = if w = "CUT" then .cut else .fade) ∧
         (∀ a b, .fades a b ∈ fields → st.fadeOut = (max 0 (min 9900 a)).toNat / 10 * 10 ∧
           st.fadeIn = (max 0 (min 9900 b)).toNat / 10 * 10) ∧
         (∀ m, .level m ∈ fields → st.level = some (max 0 (min 1000 m)).toNat) ∧
         (∀ w, .levelWord w ∈ fields → st.level = none) ∧
         (∀ v m, .sound v m ∈ fields →
           st.sound = some ((max 0 (min 255 v)).toNat, (max 0 (min 9900 m)).toNat / 10 * 10)) ∧
         (∀ w, .soundWord w ∈ fields → st.sound = none) ∧
         (∀ w, .tape w ∈ fields → st.tape = if w = "PLAY" then some .play else if w = "PAUSE" then some .pause
           else if w = "STOP" then some .stop else if w = "RESTART" then some .restart else none) ∧
         (∀ w x, .advance w x ∈ fields → st.advance =
           let d := (max 1 (min 9999 ((x.getD 0 : Nat) : Int))).toNat
           if w = "KEY" then .key else if w = "LINE" then .line else if w = "DWELL" then .dwell d
           else if w = "CUE_OR_DWELL" then .cueOrDwell d else .cue) ∧
         (let base : Step := if keep then (s.engine.steps[n - 1]?).getD Step.default
           else ⟨none, .fade, 800, 800, none, none, none, .cue, none⟩
          ((∀ f ∈ fields, fieldName f ≠ "SL") → st.slide = base.slide) ∧
           ((∀ f ∈ fields, fieldName f ≠ "ST") → st.style = base.style) ∧
           ((∀ f ∈ fields, fieldName f ≠ "FD") → st.fadeOut = base.fadeOut ∧ st.fadeIn = base.fadeIn) ∧
           ((∀ f ∈ fields, fieldName f ≠ "LV") → st.level = base.level) ∧
           ((∀ f ∈ fields, fieldName f ≠ "SN") → st.sound = base.sound) ∧
           ((∀ f ∈ fields, fieldName f ≠ "TP") → st.tape = base.tape) ∧
           ((∀ f ∈ fields, fieldName f ≠ "AD") → st.advance = base.advance))) ∧
       t.engine.steps[n - 1]?.isSome = true) ∧
  (∀ (s : State) (n : Int) (keep : Bool) (fields : List StepField), LineFree s →
     let count : Int := s.engine.steps.length
     let refused (why : RefusalWord) := exec (.stepdef n keep fields) s = .next (s.answered (.refused why "STEPDEF"))
     let shut := (s.engine.state = .running ∨ s.engine.state = .held) ∧ (n ≤ count ∨ keep = true)
     let far := n < 1 ∨ count + 1 < n ∨ (keep = true ∧ n = count + 1) ∨ ∃ m, .slot m ∈ fields ∧ (m < 0 ∨ 139 < m)
     let full := n = count + 1 ∧ 120 ≤ count
     let strange := ∃ name, .unknown name ∈ fields
     let twice := ¬ (fields.map fieldName).Nodup
     let misshapen := ∃ w x, .advance w x ∈ fields ∧
       ((w ∈ ["DWELL", "CUE_OR_DWELL"] ∧ x = none) ∨ (w ∈ ["CUE", "KEY", "LINE"] ∧ x ≠ none))
     let unlisted := ∃ w,
       ((.slideWord w ∈ fields ∨ .levelWord w ∈ fields ∨ .soundWord w ∈ fields) ∧ w ≠ "NONE") ∨
         (.style w ∈ fields ∧ w ∉ ["CUT", "FADE"]) ∨
         (.tape w ∈ fields ∧ w ∉ ["PLAY", "PAUSE", "STOP", "RESTART", "NONE"]) ∨
         ∃ x, .advance w x ∈ fields ∧ w ∉ ["CUE", "KEY", "LINE", "DWELL", "CUE_OR_DWELL"]
     (shut → refused .state) ∧
     (¬ shut → far → refused .range) ∧
     (¬ shut → ¬ far → full → refused .full) ∧
     (¬ shut → ¬ far → ¬ full → strange → ¬ misshapen → refused .unknown) ∧
     (¬ shut → ¬ far → ¬ full → ¬ strange → twice ∨ misshapen → refused .syntaxErr) ∧
     (¬ shut → ¬ far → ¬ full → ¬ strange → ¬ twice → ¬ misshapen → unlisted → refused .range) ∧
     (¬ shut → ¬ far → ¬ full → ¬ strange → ¬ twice → ¬ misshapen → ¬ unlisted → stepdefRefusal n keep fields s = none)) ∧
  (∀ (s : State) (n : Int), LineFree s →
     (s.engine.state = .running ∨ s.engine.state = .held →
       exec (.stepdel n) s = .next (s.answered (.refused .state "STEPDEL"))) ∧
     (s.engine.state ≠ .running → s.engine.state ≠ .held → n < 1 ∨ s.engine.steps.length < n →
       exec (.stepdel n) s = .next (s.answered (.refused .range "STEPDEL")))) ∧
  (∀ (s : State) (n : Nat), LineFree s →
     (s.engine.state = .ready ∨ s.engine.state = .ended → 2 ≤ n → n ≤ s.engine.steps.length →
       exec (.stepdel n) s = .next ((s.onEngine fun e => { e with steps := e.steps.take (n - 1) }).answered
         (.accepted "STEPDEL" [fi n, ki "COUNT" (n - 1 : Nat)]))) ∧
     (s.engine.state = .ready ∨ s.engine.state = .ended → s.engine.steps ≠ [] → s.triggers.hold = false →
       s.triggers.toldShow = s.engine.state →
       exec (.stepdel 1) s = .next { s.takes (fun s => s.report .show [fw "EMPTY"])
           (.accepted "STEPDEL" [fi 1, ki "COUNT" 0]) with
         engine := { s.engine with steps := [], state := .empty }
         triggers := { s.triggers with toldShow := .empty } }))

/-- R164 to R166, R169, R170, R172 to R180, R185, R194, R195, R108, R110, R112, R113, R136, R187 (a refusal handed back at once, and a request
put off: log entry 20; the SHOW reply after the tellings: log entry 29). The end timer at 0 where a step or a command stops the motor
is the model's choice (log entry 35); so are that a CUEREC which waits in the guard at RUN becomes a start of PLAYING (log
entry 36), that STOP in HELD sends no other *SHOW HELD before *SHOW READY (log entry 44), and the rest time under a motor that
starts (log entry 46). What a telling causes follows it: log entry 2. -/
def Obligations.ShowCommandsRunTheShow : Prop :=
  (∀ s : State, ∀ st, s.engine.steps[0]? = some st → LineFree s →
     s.engine.state = .ready ∨ s.engine.state = .ended → s.engine.causes = [] → s.tape.state ≠ .cueRecord →
     s.triggers.hold = false → s.triggers.toldShow = s.engine.state →
     s.triggers.tapeHold = false ∨ s.triggers.queue.length < s.triggers.holdAt →
     st.slide = none → st.sound = none → st.tape = none → 10 ≤ st.fadeIn →
     exec .showRun s = .next { s.takes (fun s => (s.report .show [fw "RUNNING"]).report .show
           [fw "STEP", fi 1, fw "RUN", fw "NONE"]) (.accepted "SHOW" [fw "RUN", fw "RUNNING"]) with
       engine := { s.engine with
         state := .running, steps := s.engine.steps.map fun st => { st with reached := none }
         level := st.level.getD 1000
         execution := some
           { step := 1, reason := .run, target := none, phase := .fadingIn, rampAwaited := true, changeAwaited := false
             tape := .none, deferred := .none, catchUp := false, dwell := none, dwellRuns := false } }
       lamp := { s.lamp with
         ramp := ⟨s.lamp.value, st.level.getD 1000, st.fadeIn / 10 * 10, 0, some .show, true⟩
         requested := st.level.getD 1000
         lastLit := if 0 < st.level.getD 1000 then st.level.getD 1000 else s.lamp.lastLit }
       tape := { s.tape with guard := s.tape.guardAtRun }
       triggers := { s.triggers with toldShow := .running } }) ∧
  (∀ s : State, LineFree s → s.engine.state = .running ∨ s.engine.state = .held →
     s.triggers.toldShow = s.engine.state →
     let n := s.triggers.queue.length
     let flushed (s : State) : State := if n = 0 then s else s.report .show [fw "TRIG", fw "FLUSHED", fi n]
     let release : List Field := [fw "TRIG", fw "RELEASE", fi 0]
     let stopped (tape : Tape) (s : State) : State := { s with
       engine := { s.engine with
         state := .ready, execution := none, causes := s.engine.causes.filter (· ≠ .request) }
       lamp := { s.lamp with ramp := ⟨s.lamp.value, 0, 2000, 0, some .show, true⟩, requested := 0 }
       tape := { tape with
         state := .stopped, guard := none, holdPause := false, delivered := 0
         ramp := ⟨tape.value, 0, 2000, 0, .show, true⟩ }
       triggers := { s.triggers with
         queue := [], hold := false, toldShow := .ready
         toldTape := if tape.state = .stopped then s.triggers.toldTape else .stopped
         counters := { s.triggers.counters with flushed := (s.triggers.counters.flushed + n) % 4294967296 } } }
     (s.tape.state = .stopped → s.tape.motor = .off → s.tape.locate = none →
       exec .showStop s = .next (stopped { s.tape with reasons :=
           { s.tape.reasons with
             byQueue := if s.triggers.hold then false else s.tape.reasons.byQueue
             byShow := if s.engine.state = .held then false else s.tape.reasons.byShow } }
         (s.takes (fun s =>
           let s := flushed (s.report .show [fw "READY"])
           if s.triggers.hold then s.report .show release else s) (.accepted "SHOW" [fw "STOP", fw "READY"])))) ∧
     (s.engine.state = .running → s.tape.state = .paused → s.tape.holdPause = true → s.tape.reasons = ⟨true, false, false⟩ →
       s.triggers.hold = true → s.tape.motor = .off → s.tape.locate = none → s.cue.detecting = false →
       CueQuiet s.cue → s.cue.writer = none →
       ∃ t, exec .showStop s = .next t ∧
         t = { stopped { s.tape with
               reasons := ⟨false, false, false⟩, rest := 0, endTimer := 0, lastDir := .forward }
             (s.takes (fun s => ((((flushed (s.report .show [fw "READY"])).report .tape [fw "PLAYING"]).report .show
               release).report .tape [fw "STOPPED"])) (.accepted "SHOW" [fw "STOP", fw "READY"])) with cue := t.cue } ∧
         t.cue.detecting = false ∧ t.cue.log = s.cue.log ∧
         t.cue.counters = s.cue.counters ∧ (∀ d : Fin 3, t.cue.units[d].window = none))) ∧
  (∀ s : State, ∀ st, s.engine.steps[0]? = some st → LineFree s →
     s.engine.state = .ready ∨ s.engine.state = .ended → s.engine.causes = [] → s.tape.state = .cueRecord →
     s.tape.guard = none → s.tape.reasons = ⟨false, false, false⟩ → s.triggers.hold = false →
     s.triggers.tapeHold = false ∨ s.triggers.queue.length < s.triggers.holdAt → PlainStep st →
     exec .showRun s = .next { s.takes (fun s =>
           let entered := ((s.report .show [fw "RUNNING"]).report .tape [fw "PLAYING"]).report .show
             [fw "STEP", fi 1, fw "RUN", fw "NONE"]
           match s.cue.writer with
           | some w => entered.report .cue w.abandonedFields
           | none => entered) (.accepted "SHOW" [fw "RUN", fw "RUNNING"]) with
       engine := { s.engine with
         state := .running, steps := s.engine.steps.map fun st => { st with reached := none }
         level := st.level.getD 1000
         execution := some { Execution.entered 1 .run none .fadingIn with rampAwaited := true } }
       lamp := s.lamp.rampsTo (st.level.getD 1000) st.fadeIn
       tape := { s.tape with
         state := .playing, motor := .play, lastDir := .forward, holdPause := false
         endTimer := if s.tape.motor = .off then 0 else s.tape.endTimer
         delivered := if s.tape.mute then 0 else s.tape.value }
       cue := s.cue.abandoned s.now
       triggers := { s.triggers with toldShow := .running, toldTape := .playing } }) ∧
  (∀ t : Tape, t.guardAtRun = match t.guard with
     | some .cueRecord => some .playing
     | g => g) ∧
  (∀ s : State, LineFree s → s.triggers.hold = false →
     (s.engine.state = .running → s.engine.causes = [] →
       exec .showHold s = .next { s.takes (fun s => s.report .show [fw "HELD", fw "REQUEST"])
           (.accepted "SHOW" [fw "HOLD", fw "HELD"]) with
         engine := { s.engine with
           state := .held, causes := [.request]
           execution := s.engine.execution.map fun x => { x with dwellRuns := false } }
         tape := { s.tape with
           reasons := { s.tape.reasons with byShow := true }, resume := s.tape.ramp.target
           ramp := ⟨s.tape.value, 0, 500, 0, .hold, true⟩ }
         triggers := { s.triggers with toldShow := .held } }) ∧
     (∀ x, s.engine.execution = some x → s.engine.state = .held → s.engine.causes = [.request] →
       s.triggers.queue = [] → s.tape.state = .stopped → x.deferred = .none → x.changeAwaited = false →
       x.tape ≠ .owed → s.triggers.tapeHold = false ∨ 0 < s.triggers.holdAt →
       exec .showResume s = .next { s.takes (fun s => s.report .show [fw "RUNNING"])
           (.accepted "SHOW" [fw "RESUME", fw "RUNNING"]) with
         engine := { s.engine with
           state := .running, causes := []
           execution := some { x with dwellRuns := x.phase == .settled && x.dwell.isSome } }
         tape := { s.tape with
           guard := s.tape.guardAtRun, reasons := { s.tape.reasons with byShow := false }
           ramp := ⟨s.tape.value, s.tape.resume, 500, 0, .hold, true⟩ }
         triggers := { s.triggers with toldShow := .running } })) ∧
  (∀ s : State, ∀ st, s.engine.steps[0]? = some st → ∀ slide, st.slide = some slide → LineFree s →
     s.engine.state = .ready ∨ s.engine.state = .ended → s.engine.causes = [] → s.tape.state ≠ .cueRecord →
     s.triggers.hold = false → s.triggers.tapeHold = false ∨ s.triggers.queue.length < s.triggers.holdAt →
     st.sound = none → st.tape = none →
     let level := st.level.getD 1000
     let target : Nat := match slide with
       | .slot n => n
       | .offset k => s.changer.relative k
     let shown (s : State) : State := (s.report .show [fw "RUNNING"]).report .show [fw "STEP", fi 1, fw "RUN", fi target]
     let engine (x : Execution) : Engine := { s.engine with
       state := .running, steps := s.engine.steps.map fun st => { st with reached := none }
       level := level, execution := some x }
     (st.style = .fade → 10 ≤ st.fadeOut →
       exec .showRun s = .next { s.takes shown (.accepted "SHOW" [fw "RUN", fw "RUNNING"]) with
         engine := engine { Execution.entered 1 .run (some target) .fadingOut with rampAwaited := true }
         lamp := s.lamp.rampsTo 0 st.fadeOut
         tape := { s.tape with guard := s.tape.guardAtRun }
         triggers := { s.triggers with toldShow := .running } }) ∧
     (st.style = .cut → 10 ≤ st.fadeIn → SeatedAtRest s → target < s.changer.size → target ≠ s.changer.slot →
       exec .showRun s = .next { s.takes shown (.accepted "SHOW" [fw "RUN", fw "RUNNING"]) with
         engine := engine { Execution.entered 1 .run (some target) .changing with rampAwaited := true, changeAwaited := true }
         changer := Changer.liftFor ⟨target, .show, false, false⟩ s.changer
         lamp := s.lamp.rampsTo level st.fadeIn
         tape := { s.tape with guard := s.tape.guardAtRun }
         triggers := { s.triggers with toldShow := .running } }) ∧
     (st.style = .cut → 10 ≤ st.fadeIn → SeatedAtRest s → s.changer.size ≤ target →
       exec .showRun s = .next { s.takes (fun s => (shown s).report .show
             [fw "CHANGE", fi 1, fw "REFUSED", fw "RANGE"]) (.accepted "SHOW" [fw "RUN", fw "RUNNING"]) with
         engine := engine { Execution.entered 1 .run (some target) .fadingIn with rampAwaited := true }
         lamp := s.lamp.rampsTo level st.fadeIn
         tape := { s.tape with guard := s.tape.guardAtRun }
         triggers := { s.triggers with toldShow := .running } }) ∧
     (st.style = .cut → 10 ≤ st.fadeIn → s.changer.state = .noTray ∨ s.changer.state = .jammed →
       s.tape.state ≠ .playing →
       exec .showRun s = .next { s.takes (fun s => ((shown s).report .show
             [fw "CHANGE", fi 1, fw "REFUSED", fw "STATE"]).report .show [fw "HELD", fw "REQUEST"])
           (.accepted "SHOW" [fw "RUN", fw "HELD"]) with
         engine := { engine { Execution.entered 1 .run (some target) .changing with
             rampAwaited := true, changeAwaited := true } with state := .held, causes := [.request] }
         lamp := s.lamp.rampsTo level st.fadeIn
         tape := { s.tape with
           guard := s.tape.guardAtRun, reasons := { s.tape.reasons with byShow := true }, resume := s.tape.ramp.target
           ramp := ⟨s.tape.value, 0, 500, 0, .hold, true⟩ }
         triggers := { s.triggers with toldShow := .held } })) ∧
  (∀ s : State, ∀ st, s.engine.steps[0]? = some st → LineFree s →
     s.engine.state = .ready ∨ s.engine.state = .ended → s.engine.causes = [] → s.tape.state ≠ .cueRecord →
     s.triggers.hold = false → s.triggers.tapeHold = false ∨ s.triggers.queue.length < s.triggers.holdAt →
     st.slide = none → 10 ≤ st.fadeIn →
     let runs (tape : TapeWait) (t : Tape) (told : TapeState) (reports : List (ReportClass × List Field)) : Prop :=
       exec .showRun s = .next { s.takes (fun s => reports.foldl (fun s r => s.report r.1 r.2)
             ((s.report .show [fw "RUNNING"]).report .show [fw "STEP", fi 1, fw "RUN", fw "NONE"]))
           (.accepted "SHOW" [fw "RUN", fw "RUNNING"]) with
         engine := { s.engine with
           state := .running, steps := s.engine.steps.map fun st => { st with reached := none }
           level := st.level.getD 1000
           execution := some { Execution.entered 1 .run none .fadingIn with rampAwaited := true, tape := tape } }
         lamp := s.lamp.rampsTo (st.level.getD 1000) st.fadeIn
         tape := t
         triggers := { s.triggers with toldShow := .running, toldTape := told } }
     (∀ v, st.sound = some v → 10 ≤ v.2 → st.tape = none →
       runs .none { s.tape with
         guard := s.tape.guardAtRun, ramp := ⟨s.tape.value, v.1, v.2 / 10 * 10, 0, .show, true⟩ } s.triggers.toldTape []) ∧
     (∀ a, st.tape = some a → st.sound = none → s.tape.state = .noTape → s.supplyLow = false →
       runs (if a = .restart then .ready else .none) { s.tape with guard := s.tape.guardAtRun } s.triggers.toldTape
         [(.show, [fw "TAPE", fi 1, fw "REFUSED"])]) ∧
     (st.tape = some .stop → st.sound = none → s.tape.state = .windingFwd ∨ s.tape.state = .windingRev →
       s.tape.motor ≠ .off → s.tape.locate = none →
       runs .none { s.tape with
           state := .stopped, motor := .off, rest := 0, endTimer := 0, guard := none, holdPause := false, delivered := 0 }
         .stopped [(.tape, [fw "STOPPED"])]) ∧
     (st.tape = some .pause → st.sound = none → s.tape.state = .windingFwd ∨ s.tape.state = .windingRev →
       s.tape.motor ≠ .off → s.tape.locate = none →
       runs .none { s.tape with
           state := .paused, motor := .off, rest := 0, endTimer := 0, guard := none, holdPause := false, delivered := 0 }
         .paused [(.tape, [fw "PAUSED"])]) ∧
     (st.tape = some .play → st.sound = none → s.tape.state = .stopped → s.tape.motor = .off → s.tape.endFlag = .none →
       s.supplyLow = false → s.tape.locate = none → s.tape.lastDir = .reverse → s.tape.rest < 300 →
       runs .none { s.tape with guard := some .playing, holdPause := false, delivered := 0 } s.triggers.toldTape []) ∧
     (st.tape = some .restart → st.sound = none → s.tape.state = .stopped → s.tape.motor = .off →
       s.tape.endFlag = .none → s.supplyLow = false → s.tape.locate = none →
       s.tape.counter < -30 ∨ 30 < s.tape.counter →
       let dir : Direction := if s.tape.counter < 0 then .forward else .reverse
       let free := s.tape.lastDir = dir ∨ 300 ≤ s.tape.rest
       runs .locating { s.tape with
           state := .locating, guard := none, holdPause := false, delivered := 0
           locate := some ⟨0, true, .show, if free then .winding else .waiting, dir⟩
           motor := if free then (if s.tape.counter < 0 then .fwd else .rev) else .off
           lastDir := if free then dir else s.tape.lastDir
           endTimer := if free then 0 else s.tape.endTimer }
         .locating [(.tape, [fw "LOCATING"])])) ∧
  (∀ s : State, ∀ x, s.engine.execution = some x → Between s → ShowOk s.engine → s.pins.lampCurrent = .normal →
     s.lamp.dwellCap ≠ 1000 ∨ s.lamp.dwell + 10 < s.lamp.dwellLimit * 1000 →
     s.lamp.ramp.active = true → s.lamp.ramp.duration ≤ s.lamp.ramp.elapsed + 10 → s.lamp.ramp.origin = some .show →
     x.rampAwaited = true →
     ∃ t, exec .lampUpdate s = .next t ∧
       (s.triggers.queue = [] → x.phase ≠ .fadingOut ∨ s.engine.state = .held → t.lamp.value = s.lamp.ramp.target ∧
         t.lamp.ramp = { s.lamp.ramp with elapsed := s.lamp.ramp.elapsed + 10, active := false }) ∧
       (let goesOn (x : Execution) (reports : List (List Field)) : State := { reports.foldl (fun s r => s.report .show r)
             (s.report .lamp [fw "DONE", fi s.lamp.ramp.target]) with
           lamp := t.lamp, engine := { s.engine with execution := some x } }
        (x.phase = .fadingOut → s.engine.state = .held →
           t = goesOn { x with rampAwaited := false, deferred := .goto } []) ∧
        (∀ slot, x.target = some slot → x.phase = .fadingOut → s.engine.state = .running → SeatedAtRest s →
           slot < s.changer.size → slot ≠ s.changer.slot →
           t = { goesOn { x with rampAwaited := false, changeAwaited := true, phase := .changing } [] with
             changer := Changer.liftFor ⟨slot, .show, false, x.catchUp⟩ s.changer }) ∧
        (x.phase = .fadingIn → AwaitsOnlyItsRamp x → s.triggers.queue = [] →
           let dwell := (s.engine.present x).advance.dwellMs
           t = goesOn { x with
               rampAwaited := false, phase := .settled, dwell := dwell
               dwellRuns := dwell.isSome && s.engine.state == .running }
             [[fw "SETTLED", fi x.step]]) ∧
        (x.phase = .changing ∨ x.phase = .fadingIn → ¬ AwaitsOnlyItsRamp x →
           t = goesOn { x with rampAwaited := false } []))) ∧
  (∀ s : State, ∀ x, s.engine.execution = some x → ∀ b : Target, s.changer.inFlight = some b → Between s →
     s.changer.state = .settling → s.changer.pendingTarget = none → s.lamp.gateCleared = false → b.origin = .show →
     x.changeAwaited = true → x.target = some b.slot →
     let st := s.engine.present x
     let done (x : Execution) (reports : List (List Field)) : State :=
       { reports.foldl (fun s r => s.report .show r) ((s.onChanger fun c =>
           { c with state := .idle, inFlight := none, phaseTimer := none, settleTimer := none }).report .slide
             [fi b.slot, fw (if s.changer.occupancy = .slide then "SEATED" else "EMPTY")]) with
         engine := { s.engine with
           steps := s.engine.steps.modify (x.step - 1) fun st => { st with reached := some b.slot }
           execution := some x } }
     (st.style = .fade → s.engine.state ≠ .held → x.catchUp = false → 10 ≤ st.fadeIn →
       exec .settleEnd s = .next { done { x with changeAwaited := false, phase := .fadingIn, rampAwaited := true } [] with
         lamp := s.lamp.rampsTo s.engine.level st.fadeIn }) ∧
     (st.style = .fade → s.engine.state = .held →
       exec .settleEnd s = .next (done { x with changeAwaited := false, deferred := .fadeIn } [])) ∧
     (st.style = .cut → x.rampAwaited = true →
       exec .settleEnd s = .next (done { x with changeAwaited := false, phase := .fadingIn } [])) ∧
     (st.style = .cut → x.rampAwaited = false → x.phase = .changing → x.tape = .none ∨ x.tape = .ready →
       x.deferred = .none → s.triggers.queue = [] →
       exec .settleEnd s = .next (done { x with
           changeAwaited := false, phase := .settled, dwell := st.advance.dwellMs
           dwellRuns := st.advance.dwellMs.isSome && s.engine.state == .running }
         [[fw "SETTLED", fi x.step]]))) ∧
  (∀ s : State, ∀ x, s.engine.execution = some x → LineFree s → s.engine.state = .held →
     s.engine.causes = [.request] → s.triggers.queue = [] → s.triggers.hold = false →
     s.triggers.tapeHold = false ∨ 0 < s.triggers.holdAt → s.tape.state = .stopped ∨ s.tape.state = .noTape →
     let resumed (x : Execution) (reports : List (List Field)) : State :=
       { s.takes (fun s => reports.foldl (fun s r => s.report .show r) (s.report .show [fw "RUNNING"]))
           (.accepted "SHOW" [fw "RESUME", fw "RUNNING"]) with
         engine := { s.engine with state := .running, causes := [], execution := some x }
         tape := { s.tape with
           guard := s.tape.guardAtRun, reasons := { s.tape.reasons with byShow := false }
           ramp := ⟨s.tape.value, s.tape.resume, 500, 0, .hold, true⟩ }
         triggers := { s.triggers with toldShow := .running } }
     (∀ slot, x.target = some slot → x.deferred = .goto → x.tape ≠ .owed → SeatedAtRest s → slot < s.changer.size →
       slot ≠ s.changer.slot →
       exec .showResume s = .next { resumed { x with
           deferred := .none, phase := .changing, changeAwaited := true, dwellRuns := false } [] with
         changer := Changer.liftFor ⟨slot, .show, false, x.catchUp⟩ s.changer }) ∧
     (x.deferred = .fadeIn → x.tape ≠ .owed → x.catchUp = false → 10 ≤ (s.engine.present x).fadeIn →
       exec .showResume s = .next { resumed { x with
           deferred := .none, phase := .fadingIn, rampAwaited := true, dwellRuns := false } [] with
         lamp := s.lamp.rampsTo s.engine.level (s.engine.present x).fadeIn }) ∧
     (∀ slot, x.target = some slot → x.deferred = .none → x.changeAwaited = true → x.tape ≠ .owed → SeatedAtRest s →
       slot < s.changer.size → slot ≠ s.changer.slot →
       exec .showResume s = .next { resumed { x with dwellRuns := x.phase == .settled && x.dwell.isSome } [] with
         changer := Changer.liftFor ⟨slot, .show, false, x.catchUp⟩ s.changer }) ∧
     (x.tape = .owed → s.tape.state = .noTape → s.supplyLow = false → x.deferred = .none → x.changeAwaited = false →
       x.rampAwaited = false → x.phase = .fadingIn →
       let dwell := (s.engine.present x).advance.dwellMs
       exec .showResume s = .next (resumed { x with
           tape := .ready, phase := .settled, dwell := dwell, dwellRuns := dwell.isSome }
         [[fw "TAPE", fi x.step, fw "REFUSED"], [fw "SETTLED", fi x.step]]))) ∧
  (∀ s : State, ∀ x, s.engine.execution = some x → ∀ l : Locate, s.tape.locate = some l → l.origin = .show →
     x.tape = .locating → s.triggers.queue = [] →
     let settles := x.rampAwaited = false ∧ x.changeAwaited = false ∧ x.deferred = .none ∧
       (x.phase = .changing ∨ x.phase = .fadingIn)
     let dwell := (s.engine.present x).advance.dwellMs
     let after : Execution := if settles then { x with
         tape := .ready, phase := .settled, dwell := dwell, dwellRuns := dwell.isSome && s.engine.state == .running }
       else { x with tape := .ready }
     let settled (s : State) : State := if settles then s.report .show [fw "SETTLED", fi x.step] else s
     (Between s → s.tape.motor = .off → s.tape.guard = none → l.phase = .arriving → l.play = true →
       s.tape.reasons ≠ ⟨false, false, false⟩ → s.tape.state = .locating →
       exec .reverseGuardEnd s = .next { settled (s.report .tape
             [fw "LOCATED", fi s.tape.counter, fw "PAUSED", fw "HOLD"]) with
         tape := { s.tape with rest := 300, locate := none, state := .paused, holdPause := true, delivered := 0 }
         triggers := { s.triggers with toldTape := .paused }
         engine := { s.engine with execution := some after } }) ∧
     (Between s → s.tape.motor = .off → s.tape.guard = none → l.phase = .arriving → l.play = true →
       s.tape.reasons = ⟨false, false, false⟩ → s.tape.state = .locating → s.cue.detecting = false →
       ∃ t, exec .reverseGuardEnd s = .next t ∧ t = { settled (s.report .tape
             [fw "LOCATED", fi s.tape.counter, fw "PLAYING"]) with
           tape := { s.tape with
             rest := 300, locate := none, state := .playing, holdPause := false, motor := .play, lastDir := .forward
             endTimer := 0, delivered := if s.tape.mute then 0 else s.tape.value }
           triggers := { s.triggers with toldTape := .playing }
           engine := { s.engine with execution := some after }
           cue := t.cue } ∧ t.cue.detecting = true) ∧
     (LineFree s → s.tape.state = .locating → s.tape.motor ≠ .off →
       exec .tapeStop s = .next { s.takes (fun s => settled (((s.report .tape [fw "LOCATE", fw "ENDED", fw "COMMAND"]).report
             .tape [fw "STOPPED"]).report .show [fw "TAPE", fi x.step, fw "COMMAND"]))
           (.accepted "TAPE" [fw "STOP", fw "STOPPED"]) with
         tape := { s.tape with
           locate := none, state := .stopped, motor := .off, rest := 0, endTimer := 0, guard := none, holdPause := false
           delivered := 0 }
         triggers := { s.triggers with toldTape := .stopped }
         engine := { s.engine with execution := some after } }))

/-- R167, R170, R175, R177, R189 to R192. That DWELL_EXPIRY without a running dwell changes nothing, and that it acts
whatever time has passed, is log entry 4; the tape count of a record is log entry 29. -/
def Obligations.ADwellRunsOut : Prop :=
  ∀ s : State, ∀ x, s.engine.execution = some x → Between s →
    (x.dwell = none ∨ x.dwellRuns = false → exec .dwellExpiry s = .next s) ∧
    (x.dwell ≠ none → x.dwellRuns = true →
      (s.triggers.perm .dwell s.mode = .note →
        exec .dwellExpiry s = .next (((s.onEngine fun e =>
          { e with execution := some { x with dwell := none, dwellRuns := false } }).onTriggers fun t =>
            { t with counters := { t.counters with noted := (t.counters.noted + 1) % 4294967296 } }).report .show
              [fw "TRIG", fw "NOTED", fw "DWELL", fw "NEXT"])) ∧
      (s.triggers.perm .dwell s.mode = .act → 8 ≤ s.triggers.queue.length →
        exec .dwellExpiry s = .next (((s.onEngine fun e =>
          { e with execution := some { x with dwell := none, dwellRuns := false } }).onTriggers fun t =>
            { t with counters := { t.counters with full := (t.counters.full + 1) % 4294967296 } }).report .show
              [fw "TRIG", fw "FULL", fw "DWELL", fw "NEXT"])) ∧
      (∀ st, s.engine.steps[x.step]? = some st →
        s.triggers.perm .dwell s.mode = .act → s.triggers.queue = [] → s.engine.state = .running →
        x.phase = .settled → 1 ≤ x.step →
        (s.engine.present x).advance.accepts .dwell = true →
        s.triggers.hold = false → 1 ≤ s.triggers.holdAt → 1 ≤ s.triggers.catchUp →
        st.slide = none → st.sound = none → st.tape = none → 10 ≤ st.fadeIn →
        let record : Trigger := ⟨s.triggers.nextSeq, .dwell, .next, none, countNow s⟩
        exec .dwellExpiry s = .next { (s.report .show [fw "TRIG", fw "TAKEN", fi record.seq, fw "DWELL", fw "NEXT"]).report
            .show [fw "STEP", fi (x.step + 1 : Nat), fw "NEXT", fw "NONE"] with
          engine := { s.engine with
            level := st.level.getD s.engine.level
            execution := some
              { step := x.step + 1, reason := .next, target := none, phase := .fadingIn, rampAwaited := true
                changeAwaited := false, tape := .none, deferred := .none, catchUp := false, dwell := none
                dwellRuns := false } }
          lamp := { s.lamp with
            ramp := ⟨s.lamp.value, st.level.getD s.engine.level, st.fadeIn / 10 * 10, 0, some .show, true⟩
            requested := st.level.getD s.engine.level
            lastLit := if 0 < st.level.getD s.engine.level then st.level.getD s.engine.level else s.lamp.lastLit }
          triggers := { s.triggers with
            nextSeq := (s.triggers.nextSeq + 1) % 65536
            counters := { s.triggers.counters with
              entered := (s.triggers.counters.entered + 1) % 4294967296
              taken := (s.triggers.counters.taken + 1) % 4294967296 } } }))

/-- R112, R167, R168, R171, R186, R190 to R195, R198, with R53, R174, R175 and R177 where a step settles with records
waiting. That the tape count of a record is judged by the transport state last told is log entry 29; the end timer at 0 where
the hold stops the motor is log entry 35; the rest time under a motor that the release starts is log entry 46. -/
def Obligations.LineTriggersEnterTheQueue : Prop :=
  (∀ s : State, LineFree s →
     (s.engine.state ≠ .running → s.engine.state ≠ .held →
       exec .next s = .next (s.answered (.refused .state "NEXT")) ∧
       exec .back s = .next (s.answered (.refused .state "BACK")) ∧
       (∀ n, exec (.jump n) s = .next (s.answered (.refused .state "JUMP")))) ∧
     (s.engine.state = .running ∨ s.engine.state = .held →
       (∀ n : Int, n < 1 ∨ s.engine.steps.length < n → exec (.jump n) s = .next (s.answered (.refused .range "JUMP"))) ∧
       (8 ≤ s.triggers.queue.length →
         exec .next s = .next (s.answered (.refused .full "NEXT")) ∧
         exec .back s = .next (s.answered (.refused .full "BACK")) ∧
         (∀ n : Nat, 1 ≤ n → n ≤ s.engine.steps.length →
           exec (.jump n) s = .next (s.answered (.refused .full "JUMP")))) ∧
       (s.triggers.queue.length < 8 → s.engine.state = .held ∨ s.engine.execution.map Execution.phase ≠ some .settled →
         s.triggers.hold = false →
         s.triggers.tapeHold = false ∨ s.triggers.toldShow ≠ .running ∨ s.triggers.queue.length + 1 < s.triggers.holdAt →
         let entered (kind : TriggerKind) (s : State) : State := s.onTriggers fun t =>
           { t with
             queue := t.queue ++ [⟨t.nextSeq, .line, kind, none,
               if t.toldTape ∈ [TapeState.playing, .cueRecord, .windingFwd, .windingRev, .locating]
               then some s.tape.counter else none⟩]
             nextSeq := (t.nextSeq + 1) % 65536
             counters := { t.counters with entered := (t.counters.entered + 1) % 4294967296 } }
         let fields : List Field := [fi s.triggers.nextSeq, fi (s.triggers.queue.length + 1 : Nat)]
         exec .next s = .next ((entered .next s).answered (.accepted "NEXT" fields)) ∧
         exec .back s = .next ((entered .back s).answered (.accepted "BACK" fields)) ∧
         (∀ n : Nat, 1 ≤ n → n ≤ s.engine.steps.length →
           exec (.jump n) s = .next ((entered (.jump n) s).answered (.accepted "JUMP" (fi n :: fields))))))) ∧
  (∀ s : State, ∀ x, s.engine.execution = some x → LineFree s → s.engine.state = .running → x.phase = .settled →
     s.triggers.queue = [] → s.triggers.hold = false → 1 ≤ s.triggers.holdAt → 1 ≤ s.triggers.catchUp → 1 ≤ x.step →
     let taken (word : String) (kind : TriggerKind) (reports : List (List Field)) (unused : Nat) (reply : Reply) : State :=
       { s.takes (fun s => reports.foldl (fun s r => s.report .show r)
             (s.report .show [fw "TRIG", fw word, fi s.triggers.nextSeq, fw "LINE", fw kind.word])) reply with
         triggers := { s.triggers with
           nextSeq := (s.triggers.nextSeq + 1) % 65536
           counters := { s.triggers.counters with
             entered := (s.triggers.counters.entered + 1) % 4294967296
             taken := (s.triggers.counters.taken + 1) % 4294967296
             unused := if unused = 0 then s.triggers.counters.unused
               else (s.triggers.counters.unused + unused) % 4294967296 } } }
     let fields : List Field := [fi s.triggers.nextSeq, fi 1]
     let enters (i : Instr) (kind : TriggerKind) (n : Nat) (reason : EntryReason) (word : String) (reply : Reply) : Prop :=
       ∀ st, s.engine.stepAt n = some st → PlainStep st →
         exec i s = .next { taken "TAKEN" kind [[fw "STEP", fi n, fw word, fw "NONE"]] 0 reply with
           engine := { s.engine with
             level := st.level.getD s.engine.level
             execution := some { Execution.entered n reason none .fadingIn with rampAwaited := true } }
           lamp := s.lamp.rampsTo (st.level.getD s.engine.level) st.fadeIn }
     enters .next .next (x.step + 1) .next "NEXT" (.accepted "NEXT" fields) ∧
     (1 < x.step → enters .back .back (x.step - 1) .back "BACK" (.accepted "BACK" fields)) ∧
     (x.step = 1 → exec .back s = .next (taken "UNUSED" .back [] 1 (.accepted "BACK" fields))) ∧
     (∀ n : Nat, 1 ≤ n → n ≤ s.engine.steps.length →
       enters (.jump n) (.jump n) n .jump "JUMP" (.accepted "JUMP" (fi n :: fields))) ∧
     (s.engine.steps.length ≤ x.step → s.engine.loop = true →
       enters .next .next 1 .next "LOOP" (.accepted "NEXT" fields)) ∧
     (s.engine.steps.length ≤ x.step → s.engine.loop = false → s.triggers.toldShow = .running → s.tape.state = .stopped →
       s.tape.motor = .off → s.tape.locate = none →
       let t := taken "TAKEN" .next [[fw "ENDED"]] 0 (.accepted "NEXT" fields)
       exec .next s = .next { t with
         engine := { s.engine with state := .ended, execution := none }
         lamp := { s.lamp with ramp := ⟨s.lamp.value, 0, 2000, 0, some .show, true⟩, requested := 0 }
         tape := { s.tape with
           guard := none, holdPause := false, delivered := 0, ramp := ⟨s.tape.value, 0, 2000, 0, .show, true⟩ }
         triggers := { t.triggers with
           toldShow := .ended
           counters := { t.triggers.counters with flushed := s.triggers.counters.flushed % 4294967296 } } })) ∧
  (∀ s : State, LineFree s → s.engine.state = .running → s.engine.execution.map Execution.phase ≠ some .settled →
     s.triggers.queue.length < 8 → s.triggers.hold = false → s.triggers.tapeHold = true → s.triggers.toldShow = .running →
     s.triggers.holdAt ≤ s.triggers.queue.length + 1 → s.tape.reasons.byQueue = false →
     let count : Int := (s.triggers.queue.length + 1 : Nat)
     let holds (i : Instr) (kind : TriggerKind) (verb : String) (first : List Field) : Prop :=
       let held (s : State) : State := { s with
         triggers := { s.triggers with
           queue := s.triggers.queue ++ [⟨s.triggers.nextSeq, .line, kind, none, countNow s⟩]
           nextSeq := (s.triggers.nextSeq + 1) % 65536, hold := true
           counters := { s.triggers.counters with entered := (s.triggers.counters.entered + 1) % 4294967296 } }
         tape := { s.tape with reasons := { s.tape.reasons with byQueue := true } } }
       let reply : Reply := .accepted verb (first ++ [fi s.triggers.nextSeq, fi count])
       (s.tape.state ≠ .playing →
         exec i s = .next (s.takes (fun s => (held s).report .show [fw "TRIG", fw "HOLD", fi count]) reply)) ∧
       (s.tape.state = .playing → s.tape.motor = .play → s.cue.detecting = true → CueQuiet s.cue →
         ∃ t, exec i s = .next t ∧
           t = { s.takes (fun s => ((held s).report .tape [fw "PAUSED", fw "HOLD"]).report .show
               [fw "TRIG", fw "HOLD", fi count]) reply with
             tape := { (held s).tape with
               state := .paused, holdPause := true, motor := .off, rest := 0, endTimer := 0, delivered := 0 }
             triggers := { (held s).triggers with toldTape := .paused }
             cue := t.cue } ∧
           DetectionEnded s.cue t.cue)
     holds .next .next "NEXT" [] ∧ holds .back .back "BACK" [] ∧
     (∀ n : Nat, 1 ≤ n → n ≤ s.engine.steps.length → holds (.jump n) (.jump n) "JUMP" [fi n])) ∧
  (∀ (s : State) (x : Execution) (b : Target) (r : Trigger) (rest : List Trigger) (st : Step), Between s →
     s.engine.state = .running → s.engine.execution = some x → x.phase = .changing → x.changeAwaited = true →
     x.target = some b.slot → x.rampAwaited = false → x.tape = .none ∨ x.tape = .ready → x.deferred = .none →
     (s.engine.present x).style = .cut → s.changer.state = .settling → s.changer.inFlight = some b → b.origin = .show →
     s.changer.pendingTarget = none → s.lamp.gateCleared = false → s.triggers.queue = r :: rest → r.kind = .next →
     (s.engine.present x).advance.accepts r.source = true → 1 ≤ x.step → s.engine.stepAt (x.step + 1) = some st →
     st.sound = none → st.tape = none →
     let nexts := (rest.filter fun q => q.kind == .next).length
     let level := st.level.getD s.engine.level
     let steps := s.engine.steps.modify (x.step - 1) fun st => { st with reached := some b.slot }
     let settled (s : State) : State := { (s.report .slide
         [fi b.slot, fw (if s.changer.occupancy = .slide then "SEATED" else "EMPTY")]).report .show
         [fw "SETTLED", fi x.step] with
       changer := { s.changer with state := .idle, inFlight := none, phaseTimer := none, settleTimer := none } }
     let taken (s : State) : State :=
       { s.report .show [fw "TRIG", fw "TAKEN", fi r.seq, fw r.source.word, fw "NEXT"] with
         triggers := { s.triggers with
           queue := rest
           counters := { s.triggers.counters with taken := (s.triggers.counters.taken + 1) % 4294967296 } } }
     (∀ n : Nat, st.slide = some (.slot n) → st.style = .cut → s.triggers.catchUp ≤ nexts → s.triggers.hold = false →
       s.triggers.tapeHold = false ∨ s.triggers.toldShow ≠ .running ∨ rest.length < s.triggers.holdAt →
       n < s.changer.size → n ≠ s.changer.slot → s.changer.status = .known → s.changer.arm = .seated →
       s.changer.occupancy = occupancyOf .seated s.pins.barrier → s.pins.topSwitch = false → s.pins.seatSwitch = true →
       s.changer.gateDrive = none → s.changer.gateDead = none →
       exec .settleEnd s = .next { ((taken (settled s)).report .show
           [fw "STEP", fi (x.step + 1 : Nat), fw "NEXT", fi n, fw "CATCHUP"]).report .lamp [fw "DONE", fi level] with
         engine := { s.engine with
           steps := steps, level := level
           execution := some { Execution.entered (x.step + 1) .next (some n) .changing with
             changeAwaited := true, catchUp := true } }
         changer := (settled s).changer.liftFor ⟨n, .show, false, true⟩
         lamp := { s.lamp.rampsTo level 0 with value := level, ramp := ⟨s.lamp.value, level, 0, 0, some .show, false⟩ } }) ∧
     (PlainStep st → nexts < s.triggers.catchUp → s.triggers.hold = true → s.triggers.tapeHold = true →
       s.triggers.toldShow = .running → rest.length ≤ s.triggers.releaseAt → s.tape.reasons = ⟨true, false, false⟩ →
       let entered (s : State) : State := { s.report .show [fw "STEP", fi (x.step + 1 : Nat), fw "NEXT", fw "NONE"] with
         engine := { s.engine with
           steps := steps, level := level
           execution := some { Execution.entered (x.step + 1) .next none .fadingIn with rampAwaited := true } }
         lamp := s.lamp.rampsTo level st.fadeIn }
       let released (s : State) : State := { s with
         tape := { s.tape with reasons := ⟨false, false, false⟩ }, triggers := { s.triggers with hold := false } }
       let release : List Field := [fw "TRIG", fw "RELEASE", fi rest.length]
       (s.tape.state ≠ .paused ∨ s.tape.holdPause = false →
         exec .settleEnd s = .next (entered ((released (taken (settled s))).report .show release))) ∧
       (s.tape.state = .paused → s.tape.holdPause = true → s.tape.motor = .off → s.cue.detecting = false →
         ∃ t, exec .settleEnd s = .next t ∧
           t = { entered (((released (taken (settled s))).report .tape [fw "PLAYING"]).report .show release) with
             tape := (released s).tape.playsAgain
             triggers := { (released (taken (settled s))).triggers with toldTape := .playing }
             cue := t.cue } ∧
           t.cue.detecting = true))) ∧
  (∀ (s : State) (x : Execution) (b : Target) (r : Trigger) (rest : List Trigger), Between s →
     s.engine.state = .running → s.engine.execution = some x → x.phase = .changing → x.changeAwaited = true →
     x.target = some b.slot → x.rampAwaited = false → x.tape = .none ∨ x.tape = .ready → x.deferred = .none →
     (s.engine.present x).style = .cut → s.changer.state = .settling → s.changer.inFlight = some b → b.origin = .show →
     s.changer.pendingTarget = none → s.lamp.gateCleared = false → s.triggers.queue = r :: rest → r.kind = .next →
     (s.engine.present x).advance.accepts r.source = true → 1 ≤ x.step → s.engine.steps.length ≤ x.step →
     s.engine.loop = false → s.triggers.toldShow = .running → s.triggers.hold = false →
     s.triggers.tapeHold = false ∨ rest.length < s.triggers.holdAt → s.tape.state = .stopped → s.tape.motor = .off →
     s.tape.locate = none →
     let told : State := (((s.report .slide
         [fi b.slot, fw (if s.changer.occupancy = .slide then "SEATED" else "EMPTY")]).report .show
         [fw "SETTLED", fi x.step]).report .show [fw "TRIG", fw "TAKEN", fi r.seq, fw r.source.word, fw "NEXT"]).report
         .show [fw "ENDED"]
     exec .settleEnd s = .next { (if rest = [] then told else told.report .show [fw "TRIG", fw "FLUSHED", fi rest.length]) with
       changer := { s.changer with state := .idle, inFlight := none, phaseTimer := none, settleTimer := none }
       engine := { s.engine with
         state := .ended, execution := none
         steps := s.engine.steps.modify (x.step - 1) fun st => { st with reached := some b.slot } }
       lamp := { s.lamp with ramp := ⟨s.lamp.value, 0, 2000, 0, some .show, true⟩, requested := 0 }
       tape := { s.tape with
         guard := none, holdPause := false, delivered := 0, ramp := ⟨s.tape.value, 0, 2000, 0, .show, true⟩ }
       triggers := { s.triggers with
         queue := [], toldShow := .ended
         counters := { s.triggers.counters with
           taken := (s.triggers.counters.taken + 1) % 4294967296
           flushed := (s.triggers.counters.flushed + rest.length) % 4294967296 } } }) ∧
  (∀ (s : State) (x : Execution) (r : Trigger) (rest : List Trigger) (st : Step), Between s → ShowOk s.engine →
     s.pins.lampCurrent = .normal → s.lamp.dwellCap ≠ 1000 ∨ s.lamp.dwell + 10 < s.lamp.dwellLimit * 1000 →
     s.lamp.ramp.active = true → s.lamp.ramp.duration ≤ s.lamp.ramp.elapsed + 10 → s.lamp.ramp.origin = some .show →
     s.engine.state = .running → s.engine.execution = some x → x.phase = .fadingIn → x.rampAwaited = true →
     AwaitsOnlyItsRamp x → s.triggers.queue = r :: rest → r.kind = .next →
     (s.engine.present x).advance.accepts r.source = true → 1 ≤ x.step → s.engine.stepAt (x.step + 1) = some st →
     st.sound = none → st.tape = none → s.triggers.hold = false →
     s.triggers.tapeHold = false ∨ s.triggers.toldShow ≠ .running ∨ rest.length < s.triggers.holdAt →
     let nexts := (rest.filter fun q => q.kind == .next).length
     let level := st.level.getD s.engine.level
     let settled (s : State) : State :=
       (s.report .lamp [fw "DONE", fi s.lamp.ramp.target]).report .show [fw "SETTLED", fi x.step]
     let taken (s : State) : State :=
       { s.report .show [fw "TRIG", fw "TAKEN", fi r.seq, fw r.source.word, fw "NEXT"] with
         triggers := { s.triggers with
           queue := rest
           counters := { s.triggers.counters with taken := (s.triggers.counters.taken + 1) % 4294967296 } } }
     (∀ n : Nat, st.slide = some (.slot n) → st.style = .cut → s.triggers.catchUp ≤ nexts → n < s.changer.size →
       n ≠ s.changer.slot → SeatedAtRest s →
       ∃ t, exec .lampUpdate s = .next t ∧
         t = { ((taken (settled s)).report .show
             [fw "STEP", fi (x.step + 1 : Nat), fw "NEXT", fi n, fw "CATCHUP"]).report .lamp [fw "DONE", fi level] with
           engine := { s.engine with
             level := level
             execution := some { Execution.entered (x.step + 1) .next (some n) .changing with
               changeAwaited := true, catchUp := true } }
           changer := s.changer.liftFor ⟨n, .show, false, true⟩, lamp := t.lamp } ∧
         t.lamp.ramp = ⟨s.lamp.ramp.target, level, 0, 0, some .show, false⟩ ∧ t.lamp.value = level ∧
         t.lamp.requested = level) ∧
     (PlainStep st → nexts < s.triggers.catchUp →
       ∃ t, exec .lampUpdate s = .next t ∧
         t = { (taken (settled s)).report .show [fw "STEP", fi (x.step + 1 : Nat), fw "NEXT", fw "NONE"] with
           engine := { s.engine with
             level := level
             execution := some { Execution.entered (x.step + 1) .next none .fadingIn with rampAwaited := true } }
           lamp := t.lamp } ∧
         t.lamp.ramp = ⟨s.lamp.ramp.target, level, st.fadeIn / 10 * 10, 0, some .show, true⟩ ∧
         t.lamp.value = s.lamp.ramp.target ∧ t.lamp.requested = level))

/-- R37, R62, R66, R68, R91, R93, R94, R203 to R205 (STILL: log entry 25; the after-run seconds at a CLEAR of HEAT_TRIP: log
entry 34). -/
def Obligations.ClearAndFaultmodeAct : Prop :=
  (∀ (s : State) (k : FaultKind), LineFree s → FaultLineOk s →
     ((s.faults.record k).latched = false →
       exec (.clear (some k)) s = .next (s.answered (.accepted "CLEAR" [fw k.word]))) ∧
     ((s.faults.record k).latched = true → (s.faults.record k).present = true →
       exec (.clear (some k)) s = .next (s.answered (.accepted "CLEAR" [fw k.word, kw "STILL" k.word]))) ∧
     ((∀ o, (s.faults.record o).latched = true → (s.faults.record o).present = true) →
       let still := FaultKind.all.filter fun o => (s.faults.record o).latched
       exec (.clear none) s = .next (s.answered (.accepted "CLEAR"
         (fw "ALL" :: if still = [] then [] else [kv "STILL" (still.map fun o => .word o.word)])))) ∧
     ((s.faults.record k).latched = true → (s.faults.record k).present = false →
       s.engine.state ≠ .running → s.engine.state ≠ .held → s.engine.causes = Cause.all.filter (· ∈ s.engine.causes) →
       k ∈ [FaultKind.trayOut, .lampOpen, .fanStall] ∨
         (k ∈ [FaultKind.jam, .slideStuck, .noZero] ∧ s.changer.state ≠ .jammed) ∨
         (k = .lampShort ∧ s.heat.state ≠ .on) ∨ (k = .shiftFail ∧ s.heat.state ≠ .on) ∨
         (k = .heatTrip ∧ s.heat.state ≠ .tripped) →
       ∃ t, exec (.clear (some k)) s = .next t ∧
         t = { s.takes (fun s => s.report .fault [fw k.word, fw "CLEARED"]) (.accepted "CLEAR" [fw k.word]) with
           faults := t.faults
           lamp := { s.lamp with
             shortHold := if k = .lampShort then false else s.lamp.shortHold
             shiftHold := if k = .shiftFail then false else s.lamp.shiftHold }
           engine := { s.engine with causes := s.engine.causes.filter fun c => causeOf k ≠ some c } } ∧
         t.faults.record k = { s.faults.record k with latched := false } ∧
         (∀ o, o ≠ k → t.faults.record o = s.faults.record o) ∧
         t.faults.asserted = FaultKind.all.any fun o => (t.faults.record o).active o)) ∧
  (∀ (s : State) (k : FaultKind) (phase : Phase), LineFree s →
     (s.faults.record k).latched = true → (s.faults.record k).present = false → s.changer.state = .jammed →
     s.changer.jam = some (k, phase) → s.changer.trayPresent = true → s.changer.status ≠ .unhomed →
     s.supplyLow = false → s.engine.state ≠ .running → s.engine.state ≠ .held → k ∈ [FaultKind.jam, .slideStuck, .noZero] →
     ∃ t, exec (.clear (some k)) s = .next t ∧
       t.changer = (if k = .noZero then { s.changer with state := .unhomed, jam := none, status := .unhomed, slot := 0 }
         else { s.changer with
           state := .idle, jam := none
           status := if k = .jam ∧ phase = .rotate then .unsure else s.changer.status }) ∧
       t.faults.record k = { s.faults.record k with latched := false } ∧
       (∀ o, o ≠ k → t.faults.record o = s.faults.record o) ∧
       t = { s with changer := t.changer, faults := t.faults, line := t.line, engine := t.engine } ∧
       t.engine = { s.engine with causes := t.engine.causes }) ∧
  (∀ (s : State) (k : FaultKind) (m : FaultMode), LineFree s →
     let modes : List FaultMode := match k with
       | .jam => [.retry, .latch]
       | .slideStuck | .noZero | .lampOpen | .lampShort | .shiftFail => [.latch]
       | .trayOut => [.latch, .report]
       | .fanStall => [.retry, .report]
       | .heatWarn | .sensorBad | .cueStuck => [.report, .off]
       | .heatTrip => [.retrySlow, .retryFast, .latch]
       | .supplyLow => [.retry]
     (m ∉ modes → exec (.faultmodeSet k m) s = .next (s.answered (.refused .range "FAULTMODE"))) ∧
     (m ∈ modes → ∃ t, exec (.faultmodeSet k m) s = .next t ∧
       t = { s.takes (fun s =>
           if (s.faults.record k).mode = .off ∧ m = .report ∧ (s.faults.record k).present = true
           then reportRaised k s else s) (.accepted "FAULTMODE" [fw k.word, fw m.word]) with faults := t.faults } ∧
       t.faults.record k = { s.faults.record k with mode := m } ∧
       (∀ o, o ≠ k → t.faults.record o = s.faults.record o) ∧ FaultLineOk t)) ∧
  (∀ s : State, LineFree s → (s.faults.record .heatTrip).latched = true → (s.faults.record .heatTrip).present = false →
     s.heat.state = .tripped → s.heat.fan = 4 → s.lamp.duty = 0 → s.engine.state ≠ .running → s.engine.state ≠ .held →
     s.engine.causes = Cause.all.filter (· ∈ s.engine.causes) →
     ∃ t, exec (.clear (some .heatTrip)) s = .next t ∧
       t = { s.takes (fun s => (s.report .fault [fw "HEAT_TRIP", fw "CLEARED"]).report .heat [fw "POWER", fw "COOLDOWN"])
           (.accepted "CLEAR" [fw "HEAT_TRIP"]) with
         faults := t.faults
         heat := { s.heat with state := .cooldown, request := false, afterSeconds := 0, rise := none, powerLimit := 0 }
         lamp := { s.lamp with pubPower := 0, level := s.lamp.leastLevel, openTimer := none }
         engine := { s.engine with causes := s.engine.causes.filter (· ≠ .heatTrip) } } ∧
       t.faults.record .heatTrip = { s.faults.record .heatTrip with latched := false } ∧
       (∀ k, k ≠ .heatTrip → t.faults.record k = s.faults.record k) ∧
       t.faults.asserted = FaultKind.all.any fun k => (t.faults.record k).active k) ∧
  (∀ (s : State) (k : FaultKind), LineFree s → FaultLineOk s → k = .lampShort ∨ k = .shiftFail → s.heat.state = .on →
     (s.faults.record k).latched = true → (s.faults.record k).present = false →
     s.engine.state ≠ .running → s.engine.state ≠ .held → s.engine.causes = Cause.all.filter (· ∈ s.engine.causes) →
     let hold := if k = .lampShort then s.lamp.shortHold else s.lamp.shiftHold
     ∃ t, exec (.clear (some k)) s = .next t ∧
       t = { s.takes (fun s => s.report .fault [fw k.word, fw "CLEARED"]) (.accepted "CLEAR" [fw k.word]) with
         faults := t.faults
         heat := if hold then { s.heat with rise := some ⟨0, s.heat.set.warmUp⟩, riseTimer := 0, powerLimit := 0 } else s.heat
         lamp := { s.lamp with
           shortHold := if k = .lampShort then false else s.lamp.shortHold
           shiftHold := if k = .shiftFail then false else s.lamp.shiftHold
           pubPower := if hold then 0 else s.lamp.pubPower }
         engine := { s.engine with causes := s.engine.causes.filter fun c => causeOf k ≠ some c } } ∧
       t.faults.record k = { s.faults.record k with latched := false } ∧
       (∀ o, o ≠ k → t.faults.record o = s.faults.record o) ∧ FaultLineOk t)

/-- R207, R201, R202, with R23, R43, R44, R69, R93, R94, R104, R111, R112, R116, R136 (the order of the blocks: log entry 25).
That a supply timer row outside its state changes nothing is log entry 4. The end timer at 0 at the stop of the motor is the
model's choice (log entry 35), and so is the rest time that stands still while it is driven (log entry 46). -/
def Obligations.TheSupplyIsWatched : Prop :=
  (∀ s : State, Between s →
     (∀ good, exec (.supplyComparatorChange good) s = .next ((s.onPins fun p => { p with supplyGood := good }).onFaults fun f =>
       match f.supply, good with
       | .good, false => { f with supply := .deglitch, supplyTimer := some 0 }
       | .deglitch, true => { f with supply := .good, supplyTimer := none }
       | .low, true => { f with supply := .recovering, supplyTimer := some 0 }
       | .recovering, false => { f with supply := .low, supplyTimer := none }
       | .good, true | .deglitch, false | .low, false | .recovering, true => f)) ∧
     (s.faults.supply ≠ .deglitch → exec .supplyDeglitchEnd s = .next s) ∧
     (s.faults.supply ≠ .recovering → exec .supplyRetryEnd s = .next s)) ∧
  (∀ s : State, Between s → s.faults.supply = .deglitch → s.changer.state = .idle ∨ s.changer.state = .unhomed →
     s.changer.trayDrive = none → s.changer.gateDrive = none → GateFollows s → s.tape.state = .stopped →
     s.tape.motor = .off → s.tape.guard = none → s.keys.focus = none → s.cue.writer = none → s.lamp.shift = none →
     (s.faults.record .supplyLow).mode = .retry → (s.faults.record .supplyLow).latched = false →
     s.engine.state ≠ .running → s.engine.state ≠ .held →
     ∃ t, exec .supplyDeglitchEnd s = .next t ∧
       t = { s with
         changer := { s.changer with
           state := .halted, held := some s.changer.state, startDue := false, blanking := none, deglitch := none }
         lamp := { s.lamp with level := s.lamp.leastLevel, duty := 0, openTimer := none }
         tape := { s.tape with reasons := { s.tape.reasons with bySupply := true } }
         faults := t.faults, line := t.line
         engine := { s.engine with causes := Cause.all.filter (· ∈ Cause.supplyLow :: s.engine.causes) } } ∧
       t.faults.supply = .low ∧ t.faults.supplyTimer = none ∧ t.faults.asserted = true ∧
       (t.faults.record .supplyLow).present = true ∧ (t.faults.record .supplyLow).latched = true ∧
       (t.faults.record .supplyLow).count = min 255 ((s.faults.record .supplyLow).count + 1) ∧
       (∀ k, k ≠ .supplyLow → t.faults.record k = s.faults.record k)) ∧
  (∀ s : State, Between s → s.faults.supply = .recovering → s.changer.state = .halted →
     s.changer.held = some .idle → s.changer.inFlight = none → s.tape.state = .stopped → s.lamp.shift = none →
     s.heat.state ≠ .on → (s.faults.record .supplyLow).present = true → (s.faults.record .supplyLow).latched = true →
     s.engine.state ≠ .running → s.engine.state ≠ .held → s.engine.causes = [.supplyLow] →
     ∃ t, exec .supplyRetryEnd s = .next t ∧
       t = { s with
         changer := { s.changer with state := .idle, held := none }
         tape := { s.tape with reasons := { s.tape.reasons with bySupply := false } }
         faults := t.faults, line := t.line, engine := { s.engine with causes := [] } } ∧
       t.faults.supply = .good ∧ t.faults.supplyTimer = none ∧
       t.faults.record .supplyLow = { s.faults.record .supplyLow with present := false, latched := false } ∧
       (∀ k, k ≠ .supplyLow → t.faults.record k = s.faults.record k)) ∧
  (∀ s : State, Between s → ChangerOk s → s.faults.supply = .deglitch → s.keys.focus = none →
     (s.faults.record .supplyLow).mode = .retry → (s.faults.record .supplyLow).latched = false →
     s.engine.state ≠ .running → s.engine.state ≠ .held → (s.tape.locate.all fun l => l.origin == .line) = true →
     (s.tape.state = .locating ↔ s.tape.locate.isSome = true) → CueQuiet s.cue →
     let c := s.changer
     let halts := c.state ∉ [ChangerState.jammed, .noTray, .halted]
     let guarded := s.tape.state = .stopped ∧ s.tape.guard.isSome = true
     let after : TapeState := match s.tape.state with
       | .playing | .cueRecord => .paused
       | .windingFwd | .windingRev | .locating => .stopped
       | .stopped => .stopped | .paused => .paused | .noTape => .noTape
     let reports : List (ReportClass × List Field) :=
       [(.fault, [fw "SUPPLY_LOW", fw "RAISED", fw "NONE", fi (min 255 ((s.faults.record .supplyLow).count + 1) : Nat)]),
         (.fault, [fw "SUPPLY_LOW", fw "LATCHED"])] ++
       (if halts then [(.slide, [fw "HALTED"])] else []) ++
       (if s.tape.state = .locating then [(.tape, [fw "LOCATE", fw "ENDED", fw "SUPPLY"])] else []) ++
       (if s.tape.state = .playing then [(.tape, [fw "PAUSED", fw "HOLD"])]
        else if after ≠ s.tape.state ∨ guarded then [(.tape, [fw after.word])] else []) ++
       (match s.cue.writer with
         | some w => [(.cue, w.abandonedFields)]
         | none => [])
     ∃ t, exec .supplyDeglitchEnd s = .next t ∧
       t = { reports.foldl (fun s r => s.report r.1 r.2) s with
         changer := if halts then { c with
             state := .halted, held := some c.state, arm := armOf s.pins.topSwitch s.pins.seatSwitch false
             trayDrive := none, gateDrive := none, trayDead := if c.trayDrive.isSome then some 0 else c.trayDead
             gateDead := if c.gateDrive.isSome then some 0 else c.gateDead
             startDue := false, blanking := none, deglitch := none }
           else c
         lamp := { s.lamp with
           level := s.lamp.leastLevel, duty := 0, openTimer := none
           shift := s.lamp.shift.map fun sh => { sh with driven := false } }
         tape := { s.tape with
           state := after, motor := .off, rest := if s.tape.motor = .off then s.tape.rest else 0
           endTimer := if s.tape.motor = .off then s.tape.endTimer else 0
           reasons := { s.tape.reasons with bySupply := true }
           locate := none, guard := if guarded then none else s.tape.guard
           holdPause := if after = s.tape.state then s.tape.holdPause else s.tape.state == .playing
           delivered := if after = s.tape.state then s.tape.delivered else 0 }
         triggers := { s.triggers with toldTape := if after = s.tape.state then s.triggers.toldTape else after }
         cue := t.cue, faults := t.faults
         engine := { s.engine with causes := Cause.all.filter (· ∈ Cause.supplyLow :: s.engine.causes) } } ∧
       (s.tape.state.listening = false → t.cue = s.cue.abandoned s.now) ∧
       (s.tape.state.listening = true → t.cue.detecting = false ∧ t.cue.log = s.cue.log ∧
         (s.cue.detecting = true → DetectionEnded (s.cue.abandoned s.now) t.cue)) ∧
       t.faults.supply = .low ∧ (t.faults.record .supplyLow).present = true ∧
       (t.faults.record .supplyLow).latched = true ∧ t.faults.asserted = true ∧
       (∀ k, k ≠ .supplyLow → t.faults.record k = s.faults.record k)) ∧
  (∀ s : State, Between s → s.faults.supply = .recovering → s.heat.state = .on →
     s.changer.state = .noTray ∨ s.changer.state = .jammed ∨
       (s.changer.state = .halted ∧ s.changer.inFlight = none ∧
         (s.changer.held = some .idle ∨ s.changer.held = some .unhomed)) →
     (s.faults.record .supplyLow).present = true → (s.faults.record .supplyLow).latched = true →
     s.engine.state ≠ .running → s.engine.state ≠ .held → s.engine.causes = [.supplyLow] →
     s.tape.reasons = ⟨false, false, true⟩ → s.tape.motor = .off → s.cue.detecting = false →
     let plays := s.tape.state = .paused ∧ s.tape.holdPause = true
     ∃ t, exec .supplyRetryEnd s = .next t ∧
       t = { s with
         changer := if s.changer.state = .halted then { s.changer with state := s.changer.held.getD .idle, held := none }
           else s.changer
         heat := { s.heat with rise := some ⟨0, s.heat.set.warmUp⟩, riseTimer := 0, powerLimit := 0 }
         lamp := { s.lamp with
           pubPower := 0, shift := s.lamp.shift.map fun sh => { sh with driven := true, drive := 0 } }
         tape := { s.tape with
           reasons := ⟨false, false, false⟩, state := if plays then .playing else s.tape.state
           holdPause := if plays then false else s.tape.holdPause, motor := if plays then .play else .off
           lastDir := if plays then .forward else s.tape.lastDir, endTimer := if plays then 0 else s.tape.endTimer
           delivered := if plays then (if s.tape.mute then 0 else s.tape.value) else s.tape.delivered }
         triggers := { s.triggers with toldTape := if plays then .playing else s.triggers.toldTape }
         cue := t.cue, faults := t.faults, line := t.line, engine := { s.engine with causes := [] } } ∧
       t.cue.detecting = decide plays ∧ (¬ plays → t.cue = s.cue) ∧ t.faults.supply = .good ∧
       t.faults.record .supplyLow = { s.faults.record .supplyLow with present := false, latched := false } ∧
       (∀ k, k ≠ .supplyLow → t.faults.record k = s.faults.record k))

/-- R2, R3, R4, R7, R9: `LineOk` is kept by every step. -/
def Obligations.TheLineKeepsItsBounds : Prop :=
  ∀ s t : State, LineOk s → step s = .next t → LineOk t

/-- R56, R59, R61, R62, R74: `LampOk` and `CurveRises` are kept by every step. -/
def Obligations.TheDarkLampStaysDark : Prop :=
  ∀ s t : State, (LampOk s ∧ CurveRises s.lamp.curve) → step s = .next t → (LampOk t ∧ CurveRises t.lamp.curve)

/-- R20, R22 to R24, R41, R43: `ChangerOk` is kept by every step. -/
def Obligations.OneChangerMotorAtATime : Prop :=
  ∀ s t : State, ChangerOk s → step s = .next t → ChangerOk t

/-- R102 to R104, R109, R112, R115: `TapeOk` is kept by every step. -/
def Obligations.TheTransportStaysInOrder : Prop :=
  ∀ s t : State, TapeOk s → step s = .next t → TapeOk t

/-- R207, with R43, R69, R116, R136, R156: `PowerOk` is kept by every step. -/
def Obligations.SupplyLowShedsThePowerStage : Prop :=
  ∀ s t : State, PowerOk s → step s = .next t → PowerOk t

/-- R108, R186, R187, R190, R191, R195: `QueueOk` and `NoRecordingInAShow` are kept by every step. That no start of CUE_RECORD
waits in the guard while the show is RUNNING or HELD, a part of `NoRecordingInAShow`, is the model's choice (log entry 36);
R108 and R187 speak of the state CUE_RECORD alone. -/
def Obligations.TheTriggerQueueIsAccounted : Prop :=
  ∀ s t : State, (QueueOk s ∧ NoRecordingInAShow s) → step s = .next t → (QueueOk t ∧ NoRecordingInAShow t)

/-- R203: `FaultLineOk` is kept by every step. -/
def Obligations.TheFaultLineFollowsTheRecords : Prop :=
  ∀ s t : State, Between s → QueueOk s → FaultLineOk s → step s = .next t → FaultLineOk t

/-- R161 to R164, R170, R178: `ShowOk` is kept by every step. -/
def Obligations.TheShowStaysConsistent : Prop :=
  ∀ s t : State, ShowOk s.engine → step s = .next t → ShowOk t.engine

/-- R81, R83, R85, R134: `HeatOk` and `CueLogOk` are kept by every step. -/
def Obligations.HeatAndCueLogStayBounded : Prop :=
  ∀ s t : State, (HeatOk s.heat ∧ CueLogOk s.cue) → step s = .next t → (HeatOk t.heat ∧ CueLogOk t.cue)

/-- The invariants hold of `State.reset`, whose pins are the model's choice (log entry 1); that `NoRecordingInAShow` speaks of
the guard too is log entry 36. -/
def Obligations.ResetStateIsInOrder : Prop :=
  LineOk State.reset ∧ LampOk State.reset ∧ CurveRises State.reset.lamp.curve ∧ PowerOk State.reset ∧
    QueueOk State.reset ∧ NoRecordingInAShow State.reset ∧ FaultLineOk State.reset ∧ ShowOk State.reset.engine ∧ HeatOk State.reset.heat ∧
    CueLogOk State.reset.cue
end

