-- ==== Sys2Proof/Laws/Frames.lean ====
section
/-! SUPPORT. What the shared operations change, said once for each: the parts of the state that an operation touches, and
for the fault list the records it leaves. -/

namespace Sys2Proof.Machine

/-! ## The fault list -/

/-- Changing one record changes no other. -/
theorem Faults.record_change_of_ne {k o : FaultKind} (h : o ≠ k) (f : FaultRecord → FaultRecord) (t : Faults) :
    (Faults.change k f t).record o = t.record o := by
  have : faultIndex k ≠ faultIndex o := by revert h; cases k <;> cases o <;> decide
  simp [Faults.change, Faults.record, Fin.val_inj, this]

/-- The record that is changed. -/
@[simp] theorem Faults.record_change (k : FaultKind) (f : FaultRecord → FaultRecord) (t : Faults) :
    (Faults.change k f t).record k = f (t.record k) := by
  simp [Faults.change, Faults.record]

/-- R201: a latch changes the fault list, the line and what is told. -/
theorem setLatch_frame (k : FaultKind) (s : State) :
    setLatch k s =
      { s with faults := (setLatch k s).faults, line := (setLatch k s).line, signals := (setLatch k s).signals } := by
  unfold setLatch
  split
  · rfl
  · cases causeOf k <;> rfl

/-- R201: an occurrence changes the fault list, the line and what is told. -/
theorem tellPresent_frame (k : FaultKind) (detail : Option FaultDetail) (s : State) :
    tellPresent k detail s =
      { s with
        faults := (tellPresent k detail s).faults, line := (tellPresent k detail s).line
        signals := (tellPresent k detail s).signals } := by
  unfold tellPresent
  dsimp only
  split
  · rfl
  · split
    · rw [setLatch_frame]; rfl
    · rfl

/-- R202: a released latch changes the fault list, the line and what is told. -/
theorem releaseLatch_frame (k : FaultKind) (word : String) (s : State) :
    releaseLatch k word s =
      { s with
        faults := (releaseLatch k word s).faults, line := (releaseLatch k word s).line
        signals := (releaseLatch k word s).signals } := by
  unfold releaseLatch
  cases causeOf k <;> rfl

/-- R202: a condition that goes changes the fault list, the line and what is told. -/
theorem tellGone_frame (k : FaultKind) (s : State) :
    tellGone k s =
      { s with faults := (tellGone k s).faults, line := (tellGone k s).line, signals := (tellGone k s).signals } := by
  unfold tellGone
  dsimp only
  split
  · rfl
  · split
    · split <;> rfl
    · split
      · rw [releaseLatch_frame]; rfl
      · rfl

/-- R203: the evaluation of the fault line leaves the records. -/
@[simp] theorem evaluateFaultLine_record (o : FaultKind) (s : State) :
    (evaluateFaultLine s).faults.record o = s.faults.record o := rfl

/-- R201: a report leaves the fault list. -/
@[simp] theorem reportFault_faults (k : FaultKind) (fields : List Field) (s : State) :
    (reportFault k fields s).faults = s.faults := rfl
@[simp] theorem reportRaised_faults (k : FaultKind) (s : State) : (reportRaised k s).faults = s.faults := rfl

/-- R201: a latch leaves every other record. -/
theorem setLatch_record {k o : FaultKind} (h : o ≠ k) (s : State) :
    (setLatch k s).faults.record o = s.faults.record o := by
  unfold setLatch
  cases causeOf k <;> dsimp only <;> split <;> simp [Faults.record_change_of_ne h]

/-- R201: an occurrence leaves every other record. -/
theorem tellPresent_record {k o : FaultKind} (h : o ≠ k) (detail : Option FaultDetail) (s : State) :
    (tellPresent k detail s).faults.record o = s.faults.record o := by
  unfold tellPresent
  dsimp only
  split
  · simp [Faults.record_change_of_ne h]
  · split <;> simp [setLatch_record h, Faults.record_change_of_ne h]

/-- R202: a released latch leaves every other record. -/
theorem releaseLatch_record {k o : FaultKind} (h : o ≠ k) (word : String) (s : State) :
    (releaseLatch k word s).faults.record o = s.faults.record o := by
  unfold releaseLatch
  cases causeOf k <;> simp [Faults.record_change_of_ne h]

/-- R202: a condition that goes leaves every other record. -/
theorem tellGone_record {k o : FaultKind} (h : o ≠ k) (s : State) :
    (tellGone k s).faults.record o = s.faults.record o := by
  unfold tellGone
  dsimp only
  split
  · rfl
  · split
    · split <;> simp [Faults.record_change_of_ne h]
    · split <;> simp [releaseLatch_record h, Faults.record_change_of_ne h]

/-! ## The lamp -/

/-- R64: the open check changes the open timer and nothing else. -/
theorem checkOpen_frame (s : State) :
    checkOpen s = s.onLamp fun l => { l with openTimer := if openSeen s then some (l.openTimer.getD 0) else none } := by
  unfold checkOpen
  split <;> simp_all

/-- R66: the short check changes the lamp, the fault list, the line and what is told. -/
theorem checkShort_frame (s : State) :
    checkShort s =
      { s with
        lamp := (checkShort s).lamp, faults := (checkShort s).faults, line := (checkShort s).line
        signals := (checkShort s).signals } := by
  unfold checkShort
  split
  · dsimp only; rw [tellPresent_frame]; rfl
  · rfl

/-- R66: a short check makes the duty 0 or leaves it. -/
theorem checkShort_duty (s : State) :
    (checkShort s).lamp.duty = s.lamp.duty ∨ (checkShort s).lamp.duty = 0 := by
  unfold checkShort
  split
  · dsimp only; rw [tellPresent_frame]; exact .inr rfl
  · exact .inl rfl

/-- R59: the duty computed at once does not rise. -/
theorem dutyAtOnce_le (s : State) : (dutyAtOnce s).lamp.duty ≤ s.lamp.duty := by
  unfold dutyAtOnce checkLampCurrent
  rw [checkOpen_frame]
  rcases checkShort_duty (s.onLamp fun l =>
    { l with level := l.leastLevel, duty := min l.duty (tableDuty s l.leastLevel) }) with h | h
  · exact h.trans_le (Nat.min_le_left _ _)
  · exact h.trans_le (Nat.zero_le _)

/-- R59: the duty computed at once changes the lamp, the fault list, the line and what is told. -/
theorem dutyAtOnce_frame (s : State) :
    dutyAtOnce s =
      { s with
        lamp := (dutyAtOnce s).lamp, faults := (dutyAtOnce s).faults, line := (dutyAtOnce s).line
        signals := (dutyAtOnce s).signals } := by
  unfold dutyAtOnce checkLampCurrent
  rw [checkOpen_frame, checkShort_frame]; rfl

/-- R59, R62: leaving the path position changes the lamp, the fault list, the line and what is told, and with no record ACTIVE
there it changes nothing. -/
theorem leavePath_frame (s : State) :
    leavePath s =
        { s with
          lamp := (leavePath s).lamp, faults := (leavePath s).faults, line := (leavePath s).line
          signals := (leavePath s).signals } ∧
      ((∀ pos, s.lamp.path = some pos → (s.lamp.record pos).state ≠ .active) → leavePath s = s) := by
  unfold leavePath
  constructor
  · split
    · split
      · rw [dutyAtOnce_frame]; rfl
      · rfl
    · rfl
  · intro h
    split
    · rename_i pos hp
      rw [if_neg (h pos hp)]
    · rfl

/-- R56, R61: a change of occupancy changes the lamp, the fault list, the line and what is told. -/
theorem lampSeesOccupancy_frame (old : Occupancy) (s : State) :
    lampSeesOccupancy old s =
      { s with
        lamp := (lampSeesOccupancy old s).lamp, faults := (lampSeesOccupancy old s).faults
        line := (lampSeesOccupancy old s).line, signals := (lampSeesOccupancy old s).signals } := by
  unfold lampSeesOccupancy
  rw [dutyAtOnce_frame]
  dsimp only
  split <;> split <;> (try split) <;> rfl

/-! ## The changer -/

/-- R20: the refreshed gate record follows its sensors. -/
theorem refreshGate_follows (s : State) : GateFollows (refreshGate s) := by
  unfold refreshGate
  dsimp only
  split
  · exact ⟨rfl, rfl⟩
  · rw [lampSeesOccupancy_frame]; exact ⟨rfl, rfl⟩

/-- R20: the refreshing of the gate record changes the changer's two fields, the lamp, the fault list, the line and what is
told. -/
theorem refreshGate_frame (s : State) :
    refreshGate s =
      { s with
        changer := { s.changer with
          arm := armOf s.pins.topSwitch s.pins.seatSwitch s.changer.gateDrive.isSome
          occupancy := occupancyOf (armOf s.pins.topSwitch s.pins.seatSwitch s.changer.gateDrive.isSome) s.pins.barrier }
        lamp := (refreshGate s).lamp, faults := (refreshGate s).faults, line := (refreshGate s).line
        signals := (refreshGate s).signals } := by
  unfold refreshGate
  dsimp only
  split
  · rfl
  · rw [lampSeesOccupancy_frame]; rfl

/-! ## The transport -/

/-- R106: a change of transport state without a report. -/
theorem moveTape_frame (new : TapeState) (hold : Bool) (s : State) :
    moveTape new hold s =
      { s with
        tape := Tape.deliver { s.tape with state := new, holdPause := hold }
        triggers := (moveTape new hold s).triggers, signals := (moveTape new hold s).signals } := by
  unfold moveTape
  dsimp only
  split <;> rfl

/-- R106: a change of transport state with its report. -/
theorem moveTapeTold_frame (new : TapeState) (hold : Bool) (s : State) :
    moveTapeTold new hold s =
      { s with
        tape := Tape.deliver { s.tape with state := new, holdPause := hold }
        triggers := (moveTapeTold new hold s).triggers, line := (moveTapeTold new hold s).line
        signals := (moveTapeTold new hold s).signals } := by
  unfold moveTapeTold
  dsimp only
  split <;> rfl

/-- R107: a driven state is entered: the transport is in it, or in a hold pause in place of PLAYING; no start waits that did
not wait before. -/
theorem enterDriven_state (st : TapeState) (s : State) :
    ((enterDriven st s).tape.state = st ∨ (st = .playing ∧ (enterDriven st s).tape.state = .paused)) ∧
      (enterDriven st s).tape.guard = s.tape.guard := by
  unfold enterDriven
  split
  · rename_i h
    rw [moveTapeTold_frame]
    refine ⟨.inr ⟨h.1, rfl⟩, ?_⟩
    simp only [Tape.deliver, State.onTape, Tape.motorOff]; split <;> rfl
  · rw [moveTapeTold_frame]; exact ⟨.inl rfl, rfl⟩

/-- R108, R187: told that the show is RUNNING, the transport is not in CUE_RECORD and no start of it waits; one that was
neither is left as it was. -/
theorem tapeSeesRunning_leaves_record (s : State) :
    (tapeSeesRunning s).tape.state ≠ .cueRecord ∧ (tapeSeesRunning s).tape.guard ≠ some .cueRecord ∧
      (s.tape.state ≠ .cueRecord → s.tape.guard ≠ some .cueRecord → tapeSeesRunning s = s) := by
  have hg : s.tape.guardAtRun ≠ some .cueRecord := by
    unfold Tape.guardAtRun; split <;> simp_all
  unfold tapeSeesRunning
  dsimp only
  by_cases h : s.tape.state = .cueRecord
  · rw [if_pos (show (s.onTape fun t => { t with guard := t.guardAtRun }).tape.state = .cueRecord from h)]
    obtain ⟨hs, hw⟩ := enterDriven_state .playing (s.onTape fun t => { t with guard := t.guardAtRun })
    refine ⟨?_, hw ▸ hg, fun hn => absurd h hn⟩
    rcases hs with hs | ⟨-, hs⟩ <;> simp [hs]
  · rw [if_neg (show ¬ (s.onTape fun t => { t with guard := t.guardAtRun }).tape.state = .cueRecord from h)]
    refine ⟨h, hg, fun _ hn => ?_⟩
    have : s.tape.guardAtRun = s.tape.guard := if_neg hn
    simp [State.onTape, this]

/-! ## The trigger queue -/

/-- R189: a judgement changes the counters and the line. -/
theorem judge_frame (source : Source) (s : State) :
    (judge source s).1 = { s with triggers := (judge source s).1.triggers, line := (judge source s).1.line } := by
  unfold judge
  dsimp only
  cases s.triggers.perm source s.mode <;> dsimp only <;> (try split) <;> rfl

/-- R189: the answer of a judgement is the entry of the table in the mode of that moment. -/
theorem judge_answer (source : Source) (s : State) :
    (judge source s).2 = (s.triggers.perm source s.mode, s.mode) := rfl

/-- R190: an entry changes the queue, the line and what is told. -/
theorem enterRecord_frame (source : Source) (kind : TriggerKind) (detail : Option TriggerDetail) (s : State) :
    (enterRecord source kind detail s).1 =
      { s with
        triggers := (enterRecord source kind detail s).1.triggers, line := (enterRecord source kind detail s).1.line
        signals := (enterRecord source kind detail s).1.signals } := by
  unfold enterRecord
  split <;> rfl

/-! ## Completions and the clock -/

/-- R61: a completion changes the lamp and the line, and nothing unless a fresh slide has been seated. -/
theorem dwellSeesCompletion_frame (occ : Occupancy) (s : State) :
    dwellSeesCompletion occ s =
        { s with lamp := (dwellSeesCompletion occ s).lamp, line := (dwellSeesCompletion occ s).line } ∧
      (occ ≠ .slide ∨ s.lamp.gateCleared = false → dwellSeesCompletion occ s = s) := by
  unfold dwellSeesCompletion
  constructor
  · dsimp only
    split
    · split <;> rfl
    · rfl
  · intro h
    rw [if_neg]
    rintro ⟨rfl, hc⟩
    simp_all

/-- R136: at an instant reached, the clock is at the later of the two, and only a burst being written has run. -/
theorem reachInstant_eq (time : Nat) (s : State) :
    reachInstant time s =
      { s with
        now := max s.now time
        cue := { s.cue with writer := s.cue.writer.map (Writing.runTo (max s.now time)) } } := rfl

end Sys2Proof.Machine
end

