-- ==== Sys2Proof/Laws/PerInstr.lean ====
section
/-! SUPPORT. A family of statements made one command at a time: a request row and the request it stands for spell each other. -/

namespace Sys2Proof.Laws

/-- The request that a row stands for has that row as its own, and an event row stands for no request. -/
def RequestRoundTrip.Statement (i : Instr) : Prop := ∀ r, i.asRequest = some r → r.row = i

theorem RequestRoundTrip.hardReset (pins : Pins) : RequestRoundTrip.Statement (.hardReset pins) := by
  intro r h; cases h
theorem RequestRoundTrip.softReset : RequestRoundTrip.Statement .softReset := by
  intro r h; cases h
theorem RequestRoundTrip.characterReceived (c : RxChar) : RequestRoundTrip.Statement (.characterReceived c) := by
  intro r h; cases h
theorem RequestRoundTrip.transmitLineEnd : RequestRoundTrip.Statement .transmitLineEnd := by
  intro r h; cases h
theorem RequestRoundTrip.lineRefusedForm (fault : LineFault) : RequestRoundTrip.Statement (.lineRefusedForm fault) := by
  intro r h; cases h
theorem RequestRoundTrip.set (name : Setting) (value : SetValue) : RequestRoundTrip.Statement (.set name value) := by
  intro r h; cases h; rfl
theorem RequestRoundTrip.askSetting (name : Setting) : RequestRoundTrip.Statement (.askSetting name) := by
  intro r h; cases h; rfl
theorem RequestRoundTrip.askLine : RequestRoundTrip.Statement .askLine := by
  intro r h; cases h; rfl
theorem RequestRoundTrip.report (sel : ReportSel) : RequestRoundTrip.Statement (.report sel) := by
  intro r h; cases h; rfl
theorem RequestRoundTrip.reset : RequestRoundTrip.Statement .reset := by
  intro r h; cases h; rfl
theorem RequestRoundTrip.goto (slot : Int) : RequestRoundTrip.Statement (.goto slot) := by
  intro r h; cases h; rfl
theorem RequestRoundTrip.move (k : Int) : RequestRoundTrip.Statement (.move k) := by
  intro r h; cases h; rfl
theorem RequestRoundTrip.park : RequestRoundTrip.Statement .park := by
  intro r h; cases h; rfl
theorem RequestRoundTrip.home : RequestRoundTrip.Statement .home := by
  intro r h; cases h; rfl
theorem RequestRoundTrip.askSlide : RequestRoundTrip.Statement .askSlide := by
  intro r h; cases h; rfl
theorem RequestRoundTrip.indexPulse (zero : Bool) : RequestRoundTrip.Statement (.indexPulse zero) := by
  intro r h; cases h
theorem RequestRoundTrip.topSwitchChange (closed : Bool) : RequestRoundTrip.Statement (.topSwitchChange closed) := by
  intro r h; cases h
theorem RequestRoundTrip.seatSwitchChange (closed : Bool) : RequestRoundTrip.Statement (.seatSwitchChange closed) := by
  intro r h; cases h
theorem RequestRoundTrip.gateBarrierChange (interrupted : Bool) : RequestRoundTrip.Statement (.gateBarrierChange interrupted) := by
  intro r h; cases h
theorem RequestRoundTrip.motorDeadTimeEnd (motor : ChangerMotor) : RequestRoundTrip.Statement (.motorDeadTimeEnd motor) := by
  intro r h; cases h
theorem RequestRoundTrip.motorBlankingEnd : RequestRoundTrip.Statement .motorBlankingEnd := by
  intro r h; cases h
theorem RequestRoundTrip.motorCurrentChange (high : Bool) : RequestRoundTrip.Statement (.motorCurrentChange high) := by
  intro r h; cases h
theorem RequestRoundTrip.overcurrentDeglitchEnd : RequestRoundTrip.Statement .overcurrentDeglitchEnd := by
  intro r h; cases h
theorem RequestRoundTrip.phaseTimeout : RequestRoundTrip.Statement .phaseTimeout := by
  intro r h; cases h
theorem RequestRoundTrip.backoffDriveEnd : RequestRoundTrip.Statement .backoffDriveEnd := by
  intro r h; cases h
theorem RequestRoundTrip.settleEnd : RequestRoundTrip.Statement .settleEnd := by
  intro r h; cases h
theorem RequestRoundTrip.trayOut : RequestRoundTrip.Statement .trayOut := by
  intro r h; cases h
theorem RequestRoundTrip.trayIn (zero : Bool) : RequestRoundTrip.Statement (.trayIn zero) := by
  intro r h; cases h
theorem RequestRoundTrip.lamp (level : Int) (fade : Option Int) : RequestRoundTrip.Statement (.lamp level fade) := by
  intro r h; cases h; rfl
theorem RequestRoundTrip.curveLoad (i duty : Int) : RequestRoundTrip.Statement (.curveLoad i duty) := by
  intro r h; cases h; rfl
theorem RequestRoundTrip.curveRead (i : Int) : RequestRoundTrip.Statement (.curveRead i) := by
  intro r h; cases h; rfl
theorem RequestRoundTrip.lampmodShift : RequestRoundTrip.Statement .lampmodShift := by
  intro r h; cases h; rfl
theorem RequestRoundTrip.lampmodAuto (on : Bool) : RequestRoundTrip.Statement (.lampmodAuto on) := by
  intro r h; cases h; rfl
theorem RequestRoundTrip.lampmodReplace (pos : LampPos) : RequestRoundTrip.Statement (.lampmodReplace pos) := by
  intro r h; cases h; rfl
theorem RequestRoundTrip.lampmodRemove (pos : LampPos) : RequestRoundTrip.Statement (.lampmodRemove pos) := by
  intro r h; cases h; rfl
theorem RequestRoundTrip.askLamp : RequestRoundTrip.Statement .askLamp := by
  intro r h; cases h; rfl
theorem RequestRoundTrip.lampUpdate : RequestRoundTrip.Statement .lampUpdate := by
  intro r h; cases h
theorem RequestRoundTrip.lampCurrentChange (current : LampCurrent) : RequestRoundTrip.Statement (.lampCurrentChange current) := by
  intro r h; cases h
theorem RequestRoundTrip.openTimerExpiry : RequestRoundTrip.Statement .openTimerExpiry := by
  intro r h; cases h
theorem RequestRoundTrip.shiftSwitchChange (position : Option LampPos) : RequestRoundTrip.Statement (.shiftSwitchChange position) := by
  intro r h; cases h
theorem RequestRoundTrip.shiftTimeout : RequestRoundTrip.Statement .shiftTimeout := by
  intro r h; cases h
theorem RequestRoundTrip.powerOn : RequestRoundTrip.Statement .powerOn := by
  intro r h; cases h; rfl
theorem RequestRoundTrip.powerOff : RequestRoundTrip.Statement .powerOff := by
  intro r h; cases h; rfl
theorem RequestRoundTrip.askHeat : RequestRoundTrip.Statement .askHeat := by
  intro r h; cases h; rfl
theorem RequestRoundTrip.thermalPeriod (reading : Int) : RequestRoundTrip.Statement (.thermalPeriod reading) := by
  intro r h; cases h
theorem RequestRoundTrip.fanTachPulse : RequestRoundTrip.Statement .fanTachPulse := by
  intro r h; cases h
theorem RequestRoundTrip.riseStep : RequestRoundTrip.Statement .riseStep := by
  intro r h; cases h
theorem RequestRoundTrip.tapePlay : RequestRoundTrip.Statement .tapePlay := by
  intro r h; cases h; rfl
theorem RequestRoundTrip.tapePause : RequestRoundTrip.Statement .tapePause := by
  intro r h; cases h; rfl
theorem RequestRoundTrip.tapeStop : RequestRoundTrip.Statement .tapeStop := by
  intro r h; cases h; rfl
theorem RequestRoundTrip.tapeFwd : RequestRoundTrip.Statement .tapeFwd := by
  intro r h; cases h; rfl
theorem RequestRoundTrip.tapeRew : RequestRoundTrip.Statement .tapeRew := by
  intro r h; cases h; rfl
theorem RequestRoundTrip.tapeCuerec : RequestRoundTrip.Statement .tapeCuerec := by
  intro r h; cases h; rfl
theorem RequestRoundTrip.locate (count : Int) (play : Bool) : RequestRoundTrip.Statement (.locate count play) := by
  intro r h; cases h; rfl
theorem RequestRoundTrip.zero : RequestRoundTrip.Statement .zero := by
  intro r h; cases h; rfl
theorem RequestRoundTrip.vol (level : Int) (fade : Option Int) : RequestRoundTrip.Statement (.vol level fade) := by
  intro r h; cases h; rfl
theorem RequestRoundTrip.muteOn : RequestRoundTrip.Statement .muteOn := by
  intro r h; cases h; rfl
theorem RequestRoundTrip.muteOff : RequestRoundTrip.Statement .muteOff := by
  intro r h; cases h; rfl
theorem RequestRoundTrip.askTape : RequestRoundTrip.Statement .askTape := by
  intro r h; cases h; rfl
theorem RequestRoundTrip.tapeOut : RequestRoundTrip.Statement .tapeOut := by
  intro r h; cases h
theorem RequestRoundTrip.tapeIn : RequestRoundTrip.Statement .tapeIn := by
  intro r h; cases h
theorem RequestRoundTrip.tapePulse : RequestRoundTrip.Statement .tapePulse := by
  intro r h; cases h
theorem RequestRoundTrip.reverseGuardEnd : RequestRoundTrip.Statement .reverseGuardEnd := by
  intro r h; cases h
theorem RequestRoundTrip.endOfTape : RequestRoundTrip.Statement .endOfTape := by
  intro r h; cases h
theorem RequestRoundTrip.volumeUpdate : RequestRoundTrip.Statement .volumeUpdate := by
  intro r h; cases h
theorem RequestRoundTrip.tone (d : Int) (items : List ToneItem) : RequestRoundTrip.Statement (.tone d items) := by
  intro r h; cases h; rfl
theorem RequestRoundTrip.cuemapSet (d : Int) (length : LengthClass) (action : CueAction) : RequestRoundTrip.Statement (.cuemapSet d length action) := by
  intro r h; cases h; rfl
theorem RequestRoundTrip.cuemapRead (d : Int) (length : LengthClass) : RequestRoundTrip.Statement (.cuemapRead d length) := by
  intro r h; cases h; rfl
theorem RequestRoundTrip.cuewrite (d : Int) (length : LengthClass) : RequestRoundTrip.Statement (.cuewrite d length) := by
  intro r h; cases h; rfl
theorem RequestRoundTrip.cuelog (n : Option Int) (before : Option Int) : RequestRoundTrip.Statement (.cuelog n before) := by
  intro r h; cases h; rfl
theorem RequestRoundTrip.cuelogCounts : RequestRoundTrip.Statement .cuelogCounts := by
  intro r h; cases h; rfl
theorem RequestRoundTrip.detectorWindowEnd (d : Detector) : RequestRoundTrip.Statement (.detectorWindowEnd d) := by
  intro r h; cases h
theorem RequestRoundTrip.cueWritten : RequestRoundTrip.Statement .cueWritten := by
  intro r h; cases h
theorem RequestRoundTrip.keyaddr (addr : Option KeyAddrArg) : RequestRoundTrip.Statement (.keyaddr addr) := by
  intro r h; cases h; rfl
theorem RequestRoundTrip.focusIn (ms : Int) : RequestRoundTrip.Statement (.focusIn ms) := by
  intro r h; cases h; rfl
theorem RequestRoundTrip.focusOut (ms : Int) : RequestRoundTrip.Statement (.focusOut ms) := by
  intro r h; cases h; rfl
theorem RequestRoundTrip.focusStop : RequestRoundTrip.Statement .focusStop := by
  intro r h; cases h; rfl
theorem RequestRoundTrip.askKeys : RequestRoundTrip.Statement .askKeys := by
  intro r h; cases h; rfl
theorem RequestRoundTrip.irDataFrame (frame : IrDataTiming) : RequestRoundTrip.Statement (.irDataFrame frame) := by
  intro r h; cases h
theorem RequestRoundTrip.irRepeatFrame (frame : IrRepeatTiming) : RequestRoundTrip.Statement (.irRepeatFrame frame) := by
  intro r h; cases h
theorem RequestRoundTrip.irFrameInvalid (segments : List IrSegment) : RequestRoundTrip.Statement (.irFrameInvalid segments) := by
  intro r h; cases h
theorem RequestRoundTrip.keyReleaseTimeout : RequestRoundTrip.Statement .keyReleaseTimeout := by
  intro r h; cases h
theorem RequestRoundTrip.digitsExpired : RequestRoundTrip.Statement .digitsExpired := by
  intro r h; cases h
theorem RequestRoundTrip.wiredInputChange (key : WiredKey) (closed : Bool) : RequestRoundTrip.Statement (.wiredInputChange key closed) := by
  intro r h; cases h
theorem RequestRoundTrip.wiredDebounceEnd (key : WiredKey) : RequestRoundTrip.Statement (.wiredDebounceEnd key) := by
  intro r h; cases h
theorem RequestRoundTrip.focusRestEnd : RequestRoundTrip.Statement .focusRestEnd := by
  intro r h; cases h
theorem RequestRoundTrip.focusBlankingEnd : RequestRoundTrip.Statement .focusBlankingEnd := by
  intro r h; cases h
theorem RequestRoundTrip.focusCurrentChange (high : Bool) : RequestRoundTrip.Statement (.focusCurrentChange high) := by
  intro r h; cases h
theorem RequestRoundTrip.focusRunEnd : RequestRoundTrip.Statement .focusRunEnd := by
  intro r h; cases h
theorem RequestRoundTrip.stepdef (n : Int) (keep : Bool) (fields : List StepField) : RequestRoundTrip.Statement (.stepdef n keep fields) := by
  intro r h; cases h; rfl
theorem RequestRoundTrip.stepdel (n : Int) : RequestRoundTrip.Statement (.stepdel n) := by
  intro r h; cases h; rfl
theorem RequestRoundTrip.stepask (n : Int) : RequestRoundTrip.Statement (.stepask n) := by
  intro r h; cases h; rfl
theorem RequestRoundTrip.showRun : RequestRoundTrip.Statement .showRun := by
  intro r h; cases h; rfl
theorem RequestRoundTrip.showStop : RequestRoundTrip.Statement .showStop := by
  intro r h; cases h; rfl
theorem RequestRoundTrip.showHold : RequestRoundTrip.Statement .showHold := by
  intro r h; cases h; rfl
theorem RequestRoundTrip.showResume : RequestRoundTrip.Statement .showResume := by
  intro r h; cases h; rfl
theorem RequestRoundTrip.showStatus : RequestRoundTrip.Statement .showStatus := by
  intro r h; cases h; rfl
theorem RequestRoundTrip.dwellExpiry : RequestRoundTrip.Statement .dwellExpiry := by
  intro r h; cases h
theorem RequestRoundTrip.next : RequestRoundTrip.Statement .next := by
  intro r h; cases h; rfl
theorem RequestRoundTrip.back : RequestRoundTrip.Statement .back := by
  intro r h; cases h; rfl
theorem RequestRoundTrip.jump (n : Int) : RequestRoundTrip.Statement (.jump n) := by
  intro r h; cases h; rfl
theorem RequestRoundTrip.permitSet (source : Source) (mode : Mode) (value : Perm) : RequestRoundTrip.Statement (.permitSet source mode value) := by
  intro r h; cases h; rfl
theorem RequestRoundTrip.permitRead (source : Source) (mode : Mode) : RequestRoundTrip.Statement (.permitRead source mode) := by
  intro r h; cases h; rfl
theorem RequestRoundTrip.permitStatus : RequestRoundTrip.Statement .permitStatus := by
  intro r h; cases h; rfl
theorem RequestRoundTrip.clear (kind : Option FaultKind) : RequestRoundTrip.Statement (.clear kind) := by
  intro r h; cases h; rfl
theorem RequestRoundTrip.faultmodeSet (kind : FaultKind) (mode : FaultMode) : RequestRoundTrip.Statement (.faultmodeSet kind mode) := by
  intro r h; cases h; rfl
theorem RequestRoundTrip.faultmodeRead (kind : FaultKind) : RequestRoundTrip.Statement (.faultmodeRead kind) := by
  intro r h; cases h; rfl
theorem RequestRoundTrip.askFaults : RequestRoundTrip.Statement .askFaults := by
  intro r h; cases h; rfl
theorem RequestRoundTrip.supplyComparatorChange (good : Bool) : RequestRoundTrip.Statement (.supplyComparatorChange good) := by
  intro r h; cases h
theorem RequestRoundTrip.supplyDeglitchEnd : RequestRoundTrip.Statement .supplyDeglitchEnd := by
  intro r h; cases h
theorem RequestRoundTrip.supplyRetryEnd : RequestRoundTrip.Statement .supplyRetryEnd := by
  intro r h; cases h
theorem RequestRoundTrip.risingCrossing (d : Detector) : RequestRoundTrip.Statement (.risingCrossing d) := by
  intro r h; cases h

end Sys2Proof.Laws
end

