-- ==== Sys2Proof/Laws/Show.lean ====
section
/-! SUPPORT. What the show's hold and its resumption, the tape that plays again and an abandoned burst leave, said once field
by field, when the review of the queue's hold and the show's entry into HELD do no more than that, and what the checks of STEPDEF on its
fields find. -/

namespace Sys2Proof.Machine

/-! ## The show HELD by a set of causes -/

section
variable (cs : List Cause) (s : State)
@[simp] theorem State.heldFor_pins : (s.heldFor cs).pins = s.pins := rfl
@[simp] theorem State.heldFor_now : (s.heldFor cs).now = s.now := rfl
@[simp] theorem State.heldFor_line : (s.heldFor cs).line = s.line.offer .show (heldFields cs) := rfl
@[simp] theorem State.heldFor_changer : (s.heldFor cs).changer = s.changer := rfl
@[simp] theorem State.heldFor_lamp : (s.heldFor cs).lamp = s.lamp := rfl
@[simp] theorem State.heldFor_heat : (s.heldFor cs).heat = s.heat := rfl
@[simp] theorem State.heldFor_cue : (s.heldFor cs).cue = s.cue := rfl
@[simp] theorem State.heldFor_keys : (s.heldFor cs).keys = s.keys := rfl
@[simp] theorem State.heldFor_faults : (s.heldFor cs).faults = s.faults := rfl
@[simp] theorem State.heldFor_signals : (s.heldFor cs).signals = s.signals := rfl
@[simp] theorem State.heldFor_pending : (s.heldFor cs).pending = s.pending := rfl
@[simp] theorem State.heldFor_state : (s.heldFor cs).engine.state = .held := rfl
@[simp] theorem State.heldFor_causes : (s.heldFor cs).engine.causes = cs := rfl
@[simp] theorem State.heldFor_tape_state : (s.heldFor cs).tape.state = s.tape.state := rfl
@[simp] theorem State.heldFor_byShow : (s.heldFor cs).tape.reasons.byShow = true := rfl
@[simp] theorem State.heldFor_triggers : (s.heldFor cs).triggers = { s.triggers with toldShow := .held } := rfl
end

/-- R194: while the show is HELD, the review of a hold that neither falls due nor ends changes nothing. -/
theorem reviewHold_of_stays {s : State} (hs : s.triggers.toldShow = .held) (h : QueueHoldStays s.triggers) :
    reviewHold s = s := by
  obtain h | ⟨ht, hq⟩ := h
  · simp [reviewHold, h, hs]
  · simp [reviewHold, hs, ht, Triggers.count, ShowState.inShow, Nat.not_le.mpr hq]

/-- R187, R194: a queue whose hold stays takes the state HELD and does nothing else. -/
theorem queueSeesShow_held {s : State} (h : QueueHoldStays s.triggers) :
    queueSeesShow .held s = s.onTriggers fun t => { t with toldShow := .held } := by
  simpa [queueSeesShow] using reviewHold_of_stays (s := s.onTriggers fun t => { t with toldShow := .held }) rfl h

/-- R113, R178, R179: a show becomes HELD by its causes while the queue's hold stays. -/
theorem becomeHeld_eq {s : State} (h : QueueHoldStays s.triggers) : becomeHeld s = s.heldFor s.engine.causes := by
  have h' : QueueHoldStays ((s.onEngine fun e => { e with state := .held }).report .show
      (heldFields s.engine.causes)).triggers := h
  simp only [becomeHeld, setShow, ShowState.word, if_true, State.onEngine_engine]
  rw [show (fw "HELD" :: [({ parts := s.engine.causes.map fun c => Atom.word c.word } : Field)]) =
    heldFields s.engine.causes from rfl, queueSeesShow_held h']
  rfl

/-! ## The show that resumes -/

section
variable (s : State)
@[simp] theorem State.runsAgain_pins : s.runsAgain.pins = s.pins := by unfold State.runsAgain; dsimp only; split <;> rfl
@[simp] theorem State.runsAgain_now : s.runsAgain.now = s.now := by unfold State.runsAgain; dsimp only; split <;> rfl
@[simp] theorem State.runsAgain_changer : s.runsAgain.changer = s.changer := by
  unfold State.runsAgain; dsimp only; split <;> rfl
@[simp] theorem State.runsAgain_lamp : s.runsAgain.lamp = s.lamp := by unfold State.runsAgain; dsimp only; split <;> rfl
@[simp] theorem State.runsAgain_heat : s.runsAgain.heat = s.heat := by unfold State.runsAgain; dsimp only; split <;> rfl
@[simp] theorem State.runsAgain_cue : s.runsAgain.cue = s.cue := by unfold State.runsAgain; dsimp only; split <;> rfl
@[simp] theorem State.runsAgain_keys : s.runsAgain.keys = s.keys := by unfold State.runsAgain; dsimp only; split <;> rfl
@[simp] theorem State.runsAgain_faults : s.runsAgain.faults = s.faults := by
  unfold State.runsAgain; dsimp only; split <;> rfl
@[simp] theorem State.runsAgain_state : s.runsAgain.engine.state = .running := rfl
@[simp] theorem State.runsAgain_causes : s.runsAgain.engine.causes = [] := rfl
@[simp] theorem State.runsAgain_byShow : s.runsAgain.tape.reasons.byShow = false := by
  unfold State.runsAgain; dsimp only; split <;> rfl
end

/-! ## A tape that plays again, and an abandoned burst -/

section
variable (t : Tape)
@[simp] theorem Tape.playsAgain_state : t.playsAgain.state = .playing := rfl
@[simp] theorem Tape.playsAgain_motor : t.playsAgain.motor = .play := rfl
@[simp] theorem Tape.playsAgain_reasons : t.playsAgain.reasons = t.reasons := rfl
@[simp] theorem Tape.playsAgain_counter : t.playsAgain.counter = t.counter := rfl
@[simp] theorem Tape.playsAgain_guard : t.playsAgain.guard = t.guard := rfl
@[simp] theorem Tape.playsAgain_ramp : t.playsAgain.ramp = t.ramp := rfl
@[simp] theorem Tape.playsAgain_holdPause : t.playsAgain.holdPause = false := rfl
end

section
variable (now : Nat) (c : Cue)
@[simp] theorem Cue.abandoned_of_idle {c : Cue} (h : c.writer = none) : c.abandoned now = c := by simp [Cue.abandoned, h]
@[simp] theorem Cue.abandoned_writer : (c.abandoned now).writer = none := by unfold Cue.abandoned; split <;> simp_all
@[simp] theorem Cue.abandoned_log : (c.abandoned now).log = c.log := by unfold Cue.abandoned; split <;> rfl
@[simp] theorem Cue.abandoned_map : (c.abandoned now).map = c.map := by unfold Cue.abandoned; split <;> rfl
@[simp] theorem Cue.abandoned_counters : (c.abandoned now).counters = c.counters := by unfold Cue.abandoned; split <;> rfl
@[simp] theorem Cue.abandoned_detecting : (c.abandoned now).detecting = c.detecting := by
  unfold Cue.abandoned; split <;> rfl
end

/-- R136: the writer abandons its burst: the report, then the cue unit without it. -/
theorem abandonWrite_of_writing {s : State} {w : Writing} (h : s.cue.writer = some w) :
    abandonWrite s = (s.report .cue w.abandonedFields).onCue (Cue.abandoned s.now) := by
  have hc : (s.cue.abandoned s.now) = Cue.changeUnit w.symbol.detector (fun u => { u with lastWritten := some s.now })
      { s.cue with writer := none } := by simp [Cue.abandoned, h, Cue.changeUnit]
  have : (s.report .cue w.abandonedFields).onCue (Cue.abandoned s.now) =
      { s.report .cue w.abandonedFields with cue := s.cue.abandoned s.now } := rfl
  rw [this, hc]
  simp only [abandonWrite, h, Writing.abandonedFields]
  cases w.symbol.length <;> rfl

/-! ## The checks of STEPDEF -/

/-- R182: an absolute slot lies outside 0 to 139. -/
theorem any_slotOutside (fields : List StepField) : fields.any slotOutside = true ↔ ∃ m, .slot m ∈ fields ∧ (m < 0 ∨ 139 < m) := by
  constructor
  · intro h; obtain ⟨f, hf, h⟩ := List.any_eq_true.mp h
    cases f <;> simp [slotOutside] at h
    exact ⟨_, hf, by simp only [outside, Bool.or_eq_true, decide_eq_true_iff] at h; exact h⟩
  · rintro ⟨m, hm, h⟩; exact List.any_eq_true.mpr ⟨_, hm, by simp only [slotOutside, outside, Bool.or_eq_true, decide_eq_true_iff]; exact h⟩

/-- R182: a name stands outside the list. -/
theorem any_fieldUnknown (fields : List StepField) : fields.any fieldUnknown = true ↔ ∃ name, .unknown name ∈ fields := by
  constructor
  · intro h; obtain ⟨f, hf, h⟩ := List.any_eq_true.mp h
    cases f <;> simp [fieldUnknown] at h
    exact ⟨_, hf⟩
  · rintro ⟨m, hm⟩; exact List.any_eq_true.mpr ⟨_, hm, rfl⟩

/-- R182: an AD is out of its shape. -/
theorem any_advanceMalformed (fields : List StepField) : fields.any advanceMalformed = true ↔ ∃ w x, .advance w x ∈ fields ∧
       ((w ∈ ["DWELL", "CUE_OR_DWELL"] ∧ x = none) ∨ (w ∈ ["CUE", "KEY", "LINE"] ∧ x ≠ none)) := by
  constructor
  · intro h; obtain ⟨f, hf, h⟩ := List.any_eq_true.mp h
    cases f <;> simp [advanceMalformed] at h
    rename_i w x
    refine ⟨w, x, hf, ?_⟩
    split at h
    · left; rename_i g; exact ⟨by simpa using g, by simpa using h⟩
    · right; exact ⟨by simpa using h.1, by cases x <;> simp_all⟩
  · rintro ⟨w, x, hm, h⟩; refine List.any_eq_true.mpr ⟨_, hm, ?_⟩
    rcases h with ⟨h, rfl⟩ | ⟨h, hx⟩
    · simp at h; simp [advanceMalformed, h]
    · simp at h; cases x
      · simp at hx
      · rcases h with rfl | rfl | rfl <;> simp [advanceMalformed]

/-- R182: a keyword stands outside its field's list. -/
theorem any_keywordOutside (fields : List StepField) : fields.any keywordOutside = true ↔ ∃ w,
       ((.slideWord w ∈ fields ∨ .levelWord w ∈ fields ∨ .soundWord w ∈ fields) ∧ w ≠ "NONE") ∨
         (.style w ∈ fields ∧ w ∉ ["CUT", "FADE"]) ∨
         (.tape w ∈ fields ∧ w ∉ ["PLAY", "PAUSE", "STOP", "RESTART", "NONE"]) ∨
         ∃ x, .advance w x ∈ fields ∧ w ∉ ["CUE", "KEY", "LINE", "DWELL", "CUE_OR_DWELL"] := by
  constructor
  · intro h; obtain ⟨f, hf, h⟩ := List.any_eq_true.mp h
    cases f <;> simp [keywordOutside] at h <;> rename_i w <;> first
      | (refine ⟨w, ?_⟩; simp_all)
      | (rename_i w' ; refine ⟨w', .inr (.inr (.inr ⟨_, hf, by simpa using h⟩))⟩)
  · rintro ⟨w, ⟨h | h | h, hw⟩ | ⟨h, hw⟩ | ⟨h, hw⟩ | ⟨x, h, hw⟩⟩ <;>
      refine List.any_eq_true.mpr ⟨_, h, ?_⟩ <;> simp_all [keywordOutside]

end Sys2Proof.Machine
end

