-- ==== Sys2Proof/Machine/Render.lean ====
section
/-! DEFINITION. The text of the lines that the part sends (R16). The transmitter of the model holds a line by its parts; this
is what its characters are, but for the CR that ends it. -/

namespace Sys2Proof.Machine

/-- R16: pieces joined by a separator. -/
def joined (sep : String) : List String → String
  | [] => ""
  | [a] => a
  | a :: as => a ++ sep ++ joined sep as

/-- R16: an item. -/
def Atom.text : Atom → String
  | .word w => w
  | .num n => toString n
  | .signed n => if 0 ≤ n then "+" ++ toString n else toString n
  | .tenths t => toString (t / 10) ++ "." ++ toString (t % 10)
  | .pair w n => w ++ ":" ++ toString n

/-- R16: a field. -/
def Field.text (f : Field) : String :=
  (match f.key with
    | some k => k ++ "="
    | none => "") ++ joined "/" (f.parts.map Atom.text) ++ (if f.clamped then " CLAMPED" else "")

/-- R16: a head and, after one space, the fields. -/
def headAndFields (head : String) (fields : List Field) : String :=
  match fields with
  | [] => head
  | fs => head ++ " " ++ joined "," (fs.map Field.text)

/-- R16: a line. -/
def OutLine.text : OutLine → String
  | .accepted verb fields => headAndFields ("=" ++ verb) fields
  | .refused why what => "?" ++ why.word ++ " " ++ what
  | .report cls fields => headAndFields ("*" ++ cls.word) fields
  | .start hard => if hard then "*START HARD" else "*START SOFT"
  | .lostLine n => "*LOST LINE," ++ toString n
  | .lostReports n => "*LOST REPORTS," ++ toString n

/-- R1: the bit times of a line on the wire, its CR included (DESIGN CHOICE, log entry 27). -/
def OutLine.bitTimes (x : OutLine) : Nat := (x.text.length + 1) * 10

end Sys2Proof.Machine
end

