-- ==== Sys2Proof/Tests/Slice0.lean ====
section
/-! SUPPORT. Tests of the model: the checks of operands refuse what they must, one step at a time against the tables and the
worked examples of the manual (the chapter is named at each test), and a state that meets the hypotheses of each statement. -/

namespace Sys2Proof.Tests

open Sys2Proof.Machine

/-! ## Helpers -/

/-- The state after a command. -/
def after (c : Instr) (s : State) : State :=
  match exec c s with
  | .next t => t
  | .fault _ | .refused _ => s

/-- The reply that waits behind *START HARD after a command on a reset part, as text. -/
def reply (c : Instr) (s : State) : Option String := (after c s).line.slot.map OutLine.text

/-- The reports that wait after a command, as text. -/
def reports (c : Instr) (s : State) : List String := (after c s).line.queue.map OutLine.text

/-- A changer at rest at a slot, its arm seated on an empty place. -/
def restingAt (slot : Nat) : State := State.reset.onChanger fun c => { c with state := .idle, status := .known, slot := slot }

/-- A lamp that is lit at a ramp value, power ON, a slide in the gate (chapter 03, the worked fade). -/
def litAt (value duty : Nat) : State :=
  (((restingAt 5).onPins fun p => { p with barrier := true }).onChanger fun c => { c with occupancy := .slide }).onLamp
    (fun l =>
      { l with
        ramp := ⟨value, value, 0, 0, some .line, false⟩, value := value, requested := value, guard := 1000, power := 1000
        pubPower := 1000, level := value, duty := duty })
  |>.onHeat fun h => { h with state := .on, request := true, powerLimit := 1000, fan := 3, fanDuty := 2900 }

/-- A transport state with its motor, far from any guard. -/
def tapeIn (st : TapeState) (m : TapeMotor) (count : Int) : State :=
  (State.reset.onTape fun t =>
    { t with
      state := st, motor := m, counter := count, rest := 300, present := st != .noTape
      lastDir := m.direction.getD .forward }).onTriggers fun q => { q with toldTape := st }

/-- A show with the given steps in a show state. -/
def showOf (st : ShowState) (steps : List Step) : State :=
  (State.reset.onEngine fun e => { e with state := st, steps := steps }).onTriggers fun q => { q with toldShow := st }

/-- A step that names nothing but its advance. -/
def plainStep (a : Advance) : Step := { Step.default with advance := a }

/-- The record of a step in progress. -/
def inStep (n : Nat) (phase : StepPhase) : Execution :=
  { step := n, reason := .run, target := none, phase := phase, rampAwaited := false, changeAwaited := false, tape := .none,
    deferred := .none, catchUp := false, dwell := none, dwellRuns := false }

/-- A show in progress. -/
def runningShow (st : ShowState) (steps : List Step) (x : Execution) : State :=
  (showOf st steps).onEngine fun e => { e with execution := some x }

/-- A fault record in a given condition. -/
def withFault (k : FaultKind) (present latched : Bool) (s : State) : State :=
  (s.onFaults (Faults.change k fun r => { r with present := present, latched := latched, count := 1 })).onFaults fun f =>
    { f with asserted := f.anyActive }

/-- A fault record in a given mode. -/
def withMode (k : FaultKind) (m : FaultMode) (s : State) : State :=
  s.onFaults (Faults.change k fun r => { r with mode := m })

/-- R17: a data frame with nominal durations, least significant bit first. -/
def frame (address code : Nat) : IrDataTiming :=
  let w := address + 16 * code + 1024 * ((code + 3 * address) % 64)
  { leader := 2400, gap := 1200
    bits := (List.range 16).map fun i => (500, if (w / 2 ^ i) % 2 = 1 then 1500 else 500), trailer := 500 }

/-- A write in progress. -/
def writing : Writing := ⟨⟨0, .short⟩, 800, 0, 120⟩

/-- Changes one detector. -/
def withUnit (d : Detector) (f : DetectorUnit → DetectorUnit) (s : State) : State := s.onCue (Cue.changeUnit d f)

/-- R123: a nominal 20 ms window at 800 Hz that began at 0 (16 crossings expected, band 14 to 18). -/
def window (count : Nat) : Window := ⟨0, 80, 14, 18, false, count⟩

/-! ## The checks of operands -/

theorem test_six_digits : (Instr.goto 1000000).wellFormed = false ∧ (Instr.goto 999999).wellFormed = true := by decide
theorem test_goto_unsigned : (Instr.goto (-1)).wellFormed = false := by decide
theorem test_move_digits : (Instr.move 1000000).wellFormed = false := by decide
theorem test_lamp_fade_digits : (Instr.lamp 0 (some 1000000)).wellFormed = false := by decide
theorem test_vol_digits : (Instr.vol (-1000000) none).wellFormed = false := by decide
theorem test_curve_digits : (Instr.curveLoad 0 1000000).wellFormed = false := by decide
theorem test_one_number_digits :
    ([Instr.curveRead 1000000, .focusIn 1000000, .focusOut 1000000, .stepdel 1000000, .stepask 1000000, .jump 1000000,
      .locate 1000000 true].all fun i => !i.wellFormed) = true := by decide
theorem test_set_keyword_shape : (Instr.set .loop (.word "1ON")).wellFormed = false := by decide
theorem test_set_keyword_length : (Instr.set .loop (.word "ABCDEFGHIJKLM")).wellFormed = false := by decide
theorem test_set_number_digits : (Instr.set .settle (.num 1000000)).wellFormed = false := by decide
theorem test_report_names_a_class : (Instr.report (.classes [])).wellFormed = false := by decide
theorem test_tone_items :
    (Instr.tone 0 [.freq 1000000]).wellFormed = false ∧ (Instr.tone 1000000 []).wellFormed = false ∧
      (Instr.tone 0 [.hop "O N"]).wellFormed = false := by decide
theorem test_cue_detector_digits :
    (Instr.cuemapSet 1000000 .short .next).wellFormed = false ∧ (Instr.cuemapRead 1000000 .short).wellFormed = false ∧
      (Instr.cuewrite 1000000 .long).wellFormed = false := by decide
theorem test_cuelog_digits : (Instr.cuelog none (some 1000000)).wellFormed = false := by decide
theorem test_keyaddr_digits : (Instr.keyaddr (some (.num 1000000))).wellFormed = false := by decide
theorem test_stepdef_number : (Instr.stepdef 1000000 false []).wellFormed = false := by decide
theorem test_stepdef_slot_unsigned : (Instr.stepdef 1 false [.slot (-1)]).wellFormed = false := by decide
theorem test_stepdef_offset_digits : (Instr.stepdef 1 false [.offset 1000000]).wellFormed = false := by decide
theorem test_stepdef_keyword : (Instr.stepdef 1 false [.style "CU T"]).wellFormed = false := by decide
theorem test_stepdef_numbers :
    (Instr.stepdef 1 false [.fades 0 1000000]).wellFormed = false ∧ (Instr.stepdef 1 false [.level 1000000]).wellFormed = false ∧
      (Instr.stepdef 1 false [.sound 1000000 0]).wellFormed = false := by decide
theorem test_stepdef_dwell_needs_time : (Instr.stepdef 1 false [.advance "DWELL" none]).wellFormed = false := by decide
theorem test_stepdef_cue_takes_no_time : (Instr.stepdef 1 false [.advance "CUE" (some 10)]).wellFormed = false := by decide
theorem test_stepdef_unknown_name : (Instr.stepdef 1 false [.unknown "SL"]).wellFormed = false := by decide
theorem test_unknown_verb : (Instr.lineRefusedForm (.unknownVerb "GOTO")).wellFormed = false := by decide
theorem test_unknown_verb_shape :
    (Instr.lineRefusedForm (.unknownVerb "")).wellFormed = false ∧ (Instr.lineRefusedForm (.unknownVerb "A1")).wellFormed = false ∧
      (Instr.lineRefusedForm (.unknownVerb "FOO")).wellFormed = true := by decide
theorem test_frame_durations :
    (Instr.irDataFrame { frame 5 20 with leader := 1799 }).wellFormed = false ∧
      (Instr.irDataFrame { frame 5 20 with leader := 1800 }).wellFormed = true ∧
      (Instr.irDataFrame { frame 5 20 with bits := [] }).wellFormed = false := by decide
theorem test_repeat_durations :
    (Instr.irRepeatFrame ⟨2400, 751, 500⟩).wellFormed = false ∧ (Instr.irRepeatFrame ⟨2400, 750, 500⟩).wellFormed = true := by
  decide
theorem test_invalid_frame_begins_with_a_leader :
    (Instr.irFrameInvalid [.space 2400]).wellFormed = false ∧ (Instr.irFrameInvalid [.mark 2400]).wellFormed = true := by decide

/-! ## Chapter 01 -/

theorem test_set_clamps : reply (.set .settle (.num 2500)) State.reset = some "=SET SETTLE,2000 CLAMPED" := by decide
theorem test_set_keyword_to_a_number : reply (.set .settle (.word "FAST")) State.reset = some "?SYNTAX SET" := by decide
theorem test_ask_setting : reply (.askSetting .settle) State.reset = some "=ASK SETTLE,300" := by decide
theorem test_ask_line :
    reply .askLine (State.reset.onLine fun l => { l with mask := [.slide, .show, .fault], queue := List.replicate 3 (.lostLine 1), totalReports := 2 }) =
      some "=ASK LINE BAUD=38400,RX=0,TXQ=3,MASK=SLIDE/SHOW/FAULT,LOSTLINES=0,LOSTREPORTS=2" := by decide
theorem test_report_in_class_order : reply (.report (.classes [.show, .slide, .fault])) State.reset = some "=REPORT SLIDE,SHOW,FAULT" := by
  decide
theorem test_reset_waits_for_its_reply :
    (after .reset State.reset).line.resetPending = true ∧ reply .reset State.reset = some "=RESET" := by decide
theorem test_reset_follows_its_reply :
    (after .transmitLineEnd (State.reset.onLine fun l =>
      { l with transmitter := some (.accepted "RESET" []), resetPending := true })).line.transmitter = some (.start false) := by decide
theorem test_lowercase_is_folded :
    (after (.characterReceived (.byte 0x67)) State.reset).line.receiver.chars = ['G'] := by decide
theorem test_line_is_read :
    reply (.characterReceived (.byte 13)) (State.reset.onLine fun l => { l with receiver := ⟨"GOTO 80".toList, 7, false, false, false⟩ }) =
      some "?RANGE GOTO" := by decide
/-- R5: COUNTS of CUELOG has no second operand in its format. -/
theorem test_cuelog_counts_takes_no_operand :
    reply (.characterReceived (.byte 13)) (State.reset.onLine fun l =>
      { l with receiver := ⟨"CUELOG COUNTS,".toList, 14, false, false, false⟩ }) = some "?SYNTAX CUELOG" := by decide
theorem test_unknown_verb_is_refused : reply (.lineRefusedForm (.unknownVerb "FOO")) State.reset = some "?UNKNOWN FOO" := by decide
theorem test_hard_reset_reads_the_strap :
    (after (.hardReset { Pins.quiet with strap := .low }) State.reset).line.baud = .b9600 := by decide
theorem test_soft_reset_keeps_the_count : (after .softReset (tapeIn .playing .play 77)).tape.counter = 77 := by decide

/-! ## Chapter 02 -/

theorem test_goto : reply (.goto 45) (restingAt 40) = some "=GOTO 45" := by decide
theorem test_goto_outside_the_tray : reply (.goto 80) (restingAt 40) = some "?RANGE GOTO" := by decide
theorem test_move_skips_zero : reply (.move 1) (restingAt 79) = some "=MOVE 1,1" := by decide
theorem test_move_clamps : reply (.move (-12)) (restingAt 1) = some "=MOVE -9 CLAMPED,72" := by decide
theorem test_park : reply .park (restingAt 3) = some "=PARK" := by decide
theorem test_home_unsure : (after .home (restingAt 21)).changer.status = .unsure := by decide
theorem test_ask_slide :
    reply .askSlide ((restingAt 5).onChanger fun c =>
      { c with
        state := .rotating, arm := .lifted, direction := .reverse, inFlight := some ⟨70, .line, false, false⟩ }) =
      some "=ASK SLIDE STATE=ROTATING,SLOT=5,STATUS=KNOWN,TRAY=IN,SIZE=80,ARM=LIFTED,GATE=EMPTY,TARGET=70/LINE,PENDING=NONE,RECORD=70,DIR=REVERSE,RETRIES=0,JAM=NONE" := by
  decide +kernel
theorem test_pulse_wraps : (after (.indexPulse true) (restingAt 79)).changer.slot = 0 := by decide
theorem test_pulse_slips : reports (.indexPulse true) (restingAt 4) = ["*SLIDE SLIP,5"] := by decide
theorem test_seat_switch_opens : (after (.seatSwitchChange false) State.reset).changer.arm = .unknown := by decide
theorem test_top_switch_lifts : (after (.topSwitchChange true) (after (.seatSwitchChange false) State.reset)).changer.arm = .lifted := by
  decide
theorem test_barrier_shows_a_slide : (after (.gateBarrierChange true) State.reset).changer.occupancy = .slide := by decide
theorem test_tray_out : reports .trayOut (restingAt 3) = ["*SLIDE TRAY,OUT"] := by decide
theorem test_settled_is_seated :
    reports .settleEnd ((restingAt 45).onChanger fun c =>
      { c with state := .settling, inFlight := some ⟨45, .line, false, false⟩, occupancy := .slide }) = ["*SLIDE 45,SEATED"] := by
  decide
/-- R34, R35: an over-current in ROTATING with a retry left. -/
theorem test_jam_backs_off :
    (after .overcurrentDeglitchEnd (((restingAt 16).onPins fun p => { p with topSwitch := true, seatSwitch := false }).onChanger
      fun c =>
        { c with
          state := .rotating, trayDrive := some .forward, arm := .lifted, deglitch := some 20
          inFlight := some ⟨30, .line, false, false⟩ })).changer.state = .backoff := by decide

/-! ## Chapter 03 -/

theorem test_lamp_truncates_its_fade : reply (.lamp 600 (some 1505)) State.reset = some "=LAMP 600,1500" := by decide
theorem test_lamp_clamps : reply (.lamp 1200 (some 12345)) State.reset = some "=LAMP 1000 CLAMPED,9900 CLAMPED" := by decide
theorem test_curve_keeps_its_order : reply (.curveLoad 5 1500) State.reset = some "?RANGE CURVE" := by decide
theorem test_curve_load : reply (.curveLoad 10 3900) State.reset = some "=CURVE 10,3900" := by decide
theorem test_lampmod_shift_needs_a_good_lamp :
    reply .lampmodShift (State.reset.onLamp fun l => { l with spare := { l.spare with state := .failed } }) =
      some "?STATE LAMPMOD" := by decide
theorem test_lampmod_replace :
    reply (.lampmodReplace .spare) (State.reset.onLamp fun l => { l with spare := { l.spare with state := .failed } }) =
      some "=LAMPMOD REPLACE,SPARE,GOOD" := by decide
theorem test_lampmod_shift : reports .lampmodShift (litAt 900 3317) = ["*LAMP SHIFT,SPARE"] := by decide
/-- R76, the worked exchange: the shift has left PRIMARY GOOD, and REMOVE during it is ?BUSY. -/
theorem test_lampmod_busy :
    reply (.lampmodRemove .primary) (State.reset.onLamp fun l =>
      { l with shift := some ⟨.spare, 0, true⟩, primary := { l.primary with state := .good } }) =
      some "?BUSY LAMPMOD" := by decide
/-- R6: STATE comes before BUSY. -/
theorem test_lampmod_remove_of_an_active_lamp :
    reply (.lampmodRemove .primary) (State.reset.onLamp fun l => { l with shift := some ⟨.spare, 0, true⟩ }) =
      some "?STATE LAMPMOD" := by decide
/-- R70: GUARD OFF is adopted at the next update: a slide that leaves the gate before it still closes the guard. -/
theorem test_guard_off_waits_for_the_update :
    (let s := after (.set .guard (.word "OFF")) (litAt 900 3317)
     (after (.gateBarrierChange false) s).lamp.guard = 0 ∧
       (after (.gateBarrierChange false) (after .lampUpdate s)).lamp.guard = 1000) := by decide
theorem test_lampmod_auto : (after (.lampmodAuto false) State.reset).lamp.autoShift = false := by decide
/-- R53, the worked fade: 100 ms into a fade of 800 ms from 900 the value is 788 (900 - 900 x 100 / 800 = 900 - 112). -/
theorem test_ramp_truncates :
    (after .lampUpdate ((litAt 900 3317).onLamp fun l => { l with ramp := ⟨900, 0, 800, 90, some .line, true⟩ })).lamp.value = 788 := by
  decide
/-- R58: the curve between its points: level 650 gives 1741 (1474 + (533 x 50 + 50) / 100). -/
theorem test_curve_interpolates : curveDuty defaultCurve 650 = 1741 := by decide
theorem test_open_timer_fails_the_lamp :
    (after .openTimerExpiry ((litAt 900 3317).onLamp fun l => { l with openTimer := some 100 })).lamp.primary.state = .failed := by
  decide
theorem test_short_makes_the_lamp_dark : (after (.lampCurrentChange .aboveShort) (litAt 900 3317)).lamp.duty = 0 := by decide
theorem test_shift_arrives :
    reports (.shiftSwitchChange (some .spare)) (State.reset.onLamp fun l =>
      { l with path := none, primary := { l.primary with state := .good }, shift := some ⟨.spare, 900, true⟩ }) =
      ["*LAMP SHIFTED,SPARE"] := by decide
/-- R57, R59: a switch that moves with no record ACTIVE is no event of the list: the level waits for the next update. -/
theorem test_a_dark_carrier_moves :
    (after (.shiftSwitchChange none) ((litAt 900 0).onLamp fun l =>
      { l with value := 0, primary := { l.primary with state := .failed } })).lamp.level = 900 := by decide
theorem test_shift_times_out :
    (after .shiftTimeout (State.reset.onLamp fun l =>
      { l with path := none, primary := { l.primary with state := .good }, shift := some ⟨.spare, 1500, true⟩ })).lamp.shiftHold = true := by
  decide

/-! ## Chapter 04 -/

theorem test_power_on : reply .powerOn State.reset = some "=POWER ON,WARMING" := by decide
theorem test_power_on_reports : reports .powerOn State.reset = ["*HEAT POWER,WARMING"] := by decide
theorem test_power_off : reply .powerOff (litAt 900 3317) = some "=POWER OFF,COOLDOWN" := by decide
theorem test_fan_threshold_order : reply (.set (.fanUp 2) (.num 560)) State.reset = some "?RANGE SET" := by decide
theorem test_trip_order : reply (.set .tripAt (.num 1050)) State.reset = some "?RANGE SET" := by decide
/-- R86, its table. -/
theorem test_thermal_cap_table :
    ([999, 1000, 1020, 1060, 1100, 1140, 1199, 1200].map fun e => thermCapOf 1000 1200 e) =
      [1000, 1000, 900, 700, 500, 300, 300, 0] := by decide
/-- R81, the worked example of three periods: the first, from T = 700 with a duty of 1741 at fan step 3. -/
theorem test_period_of_the_example :
    (after (.thermalPeriod 671) ((litAt 650 1741).onHeat fun h => { h with estimate := 700, tachNow := 12, bad := 1, firstPeriod := false })).heat.estimate =
      684 := by decide
/-- R81, R85: its second period, in which the stall is found and C[0] is used. -/
theorem test_stall_of_the_example :
    (after (.thermalPeriod 680) ((litAt 650 1741).onHeat fun h => { h with estimate := 684, tachNow := 9, bad := 2, firstPeriod := false })).heat.estimate =
      690 := by decide
theorem test_tach_saturates : (after .fanTachPulse (State.reset.onHeat fun h => { h with tachNow := 255 })).heat.tachNow = 255 := by
  decide
theorem test_rise_step :
    (after .riseStep (State.reset.onHeat fun h => { h with state := .warming, rise := some ⟨390, 800⟩ })).heat.powerLimit = 500 := by
  decide

/-! ## Chapter 05 -/

theorem test_rewind_waits : reply .tapeRew (tapeIn .playing .play 2210) = some "=TAPE REW,STOPPED,GUARD" := by decide
theorem test_play_goes_on_forward : reply .tapePlay (tapeIn .windingFwd .fwd 2210) = some "=TAPE PLAY,PLAYING" := by decide
theorem test_fast_forward : reports .tapeFwd (tapeIn .stopped .off 5) = ["*TAPE WINDING_FWD"] := by decide
theorem test_pause : reply .tapePause (tapeIn .playing .play 5) = some "=TAPE PAUSE,PAUSED" := by decide
theorem test_stop : reports .tapeStop (tapeIn .playing .play 5) = ["*TAPE STOPPED"] := by decide
theorem test_cuerec_detects : (after .tapeCuerec (tapeIn .stopped .off 5)).cue.detecting = true := by decide
theorem test_locate_clamps : reply (.locate 40000 false) (tapeIn .stopped .off 5) = some "=LOCATE 32000 CLAMPED" := by decide
theorem test_locate_at_the_end :
    reply (.locate 20000 false) ((tapeIn .stopped .off 18420).onTape fun t => { t with endFlag := .fwd }) = some "?STATE LOCATE" := by
  decide
theorem test_zero : (after .zero (tapeIn .paused .off 317)).tape.counter = 0 := by decide
theorem test_vol : reply (.vol 300 (some 1005)) State.reset = some "=VOL 255 CLAMPED,1000" := by decide
/-- R114, its table: at 500 ms the value is 40 + 215 x 500 / 1000 = 147. -/
theorem test_vol_ramp :
    (after .volumeUpdate (State.reset.onTape fun t => { t with ramp := ⟨40, 255, 1000, 480, .line, true⟩, value := 143 })).tape.value =
      147 := by decide
theorem test_mute_delivers_nothing :
    (after .muteOn ((tapeIn .playing .play 5).onTape fun t => { t with value := 180, delivered := 180 })).tape.delivered = 0 := by
  decide
theorem test_mute_off_delivers :
    (after .muteOff ((tapeIn .playing .play 5).onTape fun t => { t with value := 180, mute := true })).tape.delivered = 180 := by
  decide
theorem test_pulse_counts_down : (after .tapePulse (tapeIn .windingRev .rev 10)).tape.counter = 9 := by decide
theorem test_end_of_tape : reports .endOfTape (tapeIn .windingFwd .fwd 18420) = ["*TAPE END,FWD"] := by decide
theorem test_guard_starts_the_wind :
    reports .reverseGuardEnd ((tapeIn .stopped .off 5).onTape fun t => { t with guard := some .windingRev }) = ["*TAPE WINDING_REV"] := by
  decide
theorem test_tape_out : reports .tapeOut (tapeIn .stopped .off 5) = ["*TAPE OUT"] := by decide
theorem test_tape_in : (after .tapeIn (tapeIn .noTape .off 5)).tape.counter = 0 := by decide

/-! ## Chapter 06 -/

theorem test_tone :
    reply (.tone 0 [.hop "ON", .tol 30]) State.reset =
      some "=TONE 0,IN=CUE,FREQ=800,WIN=20,TOL=25 CLAMPED,HOP=ON,BAND=12/20,LONGBAND=15/25" := by decide
theorem test_tone_range : reply (.tone 2 [.input "LEFT"]) State.reset = some "?RANGE TONE" := by decide
theorem test_cuemap : reply (.cuemapSet 2 .short .next) State.reset = some "=CUEMAP 2,SHORT,NEXT" := by decide
theorem test_cuemap_default : reply (.cuemapRead 1 .long) State.reset = some "=CUEMAP 1,LONG,TAPE_STOP" := by decide
theorem test_cuewrite :
    reply (.cuewrite 0 .short) ((tapeIn .cueRecord .play 2204).onCue fun c => { c with nextSeq := 17 }) =
      some "=CUEWRITE 0,SHORT,17,2204" := by decide
theorem test_cuewrite_reports : reports (.cuewrite 0 .short) (tapeIn .cueRecord .play 2204) = ["*CUE WRITE,TD0,SHORT,2204"] := by decide
/-- R136: a burst abandoned after a window of 20 ms has lasted 20 ms. -/
theorem test_abandoned_write_gives_its_time :
    let s := (tapeIn .cueRecord .play 2204).onCue fun c => { c with
      detecting := true, writer := some ⟨⟨0, .short⟩, 800, 0, 120⟩ }
    reports .tapeStop (after (.detectorWindowEnd 0) (withUnit 0 (fun u => { u with window := some (window 0) }) s)) =
      ["*TAPE STOPPED", "*CUE WRITE,ABANDONED,TD0,SHORT,20"] := by decide +kernel
theorem test_cue_written : reports .cueWritten (State.reset.onCue fun c => { c with writer := some writing }) = ["*CUE WRITTEN,TD0,SHORT"] := by
  decide
theorem test_cuelog :
    reply (.cuelog (some 2) none) (State.reset.onCue fun c =>
      { c with log := [⟨39, ⟨0, .long⟩, .back, some .dropped, 1300⟩, ⟨40, ⟨1, .short⟩, .mark, some .noted, 1402⟩,
        ⟨41, ⟨0, .short⟩, .next, some .queued, 1539⟩] }) =
      some "=CUELOG 2,40/READ/TD1/SHORT/MARK/NOTED/1402,41/READ/TD0/SHORT/NEXT/QUEUED/1539" := by decide
theorem test_crossing_counts :
    ((after (.risingCrossing 0) (withUnit 0 (fun u => { u with window := some (window 15) }) State.reset)).cue.units[0].window.map
      Window.count) = some 16 := by decide
/-- R123, R126: 16 crossings lie in the band of 14 to 18, and the hit begins a burst. -/
theorem test_window_hits :
    (after (.detectorWindowEnd 0) (withUnit 0 (fun u => { u with window := some (window 16) }) State.reset)).cue.units[0].classifier =
      .burst ⟨1, 0, 0, 80, false⟩ := by decide +kernel
theorem test_window_misses :
    (after (.detectorWindowEnd 0) (withUnit 0 (fun u => { u with window := some (window 13) }) State.reset)).cue.units[0].classifier =
      .quiet := by decide +kernel

/-! ## Chapter 07 -/

theorem test_keyaddr : reply (.keyaddr (some (.num 5))) State.reset = some "=KEYADDR 5" := by decide
theorem test_keyaddr_range : reply (.keyaddr (some (.num 16))) State.reset = some "?RANGE KEYADDR" := by decide
theorem test_focus_clamps : reply (.focusOut 5000) State.reset = some "=FOCUS OUT,2000 CLAMPED" := by decide
theorem test_focus_runs_at_once :
    ((after (.focusIn 150) (State.reset.onKeys fun k => { k with focusRest := 30 })).keys.focus.map FocusRun.driving) = some true := by
  decide
theorem test_digit_is_entered : reports (.irDataFrame (frame 5 20)) State.reset = ["*KEY DIGITS,4"] := by decide
theorem test_bad_check_is_invalid :
    (after (.irDataFrame { frame 5 20 with bits := (frame 5 20).bits.set 15 (500, 500) }) State.reset).keys.invalid = 1 := by
  decide
theorem test_repeat_restarts_the_release :
    (after (.irRepeatFrame ⟨2400, 600, 500⟩) (State.reset.onKeys fun k => { k with held := some .mute, releaseTimer := 100 })).keys.releaseTimer =
      0 := by decide
theorem test_bad_gap_is_invalid : (after (.irFrameInvalid [.mark 2400, .space 800]) State.reset).keys.invalid = 1 := by decide
theorem test_digits_expire :
    reports .digitsExpired (State.reset.onKeys fun k => { k with digits := [4] }) = ["*KEY DIGITS,EXPIRED"] := by decide
theorem test_release : (after .keyReleaseTimeout (State.reset.onKeys fun k => { k with held := some .mute })).keys.held = none := by decide
theorem test_wired_debounce_starts : (after (.wiredInputChange .fwd true) State.reset).keys.fwd = ⟨false, some 0⟩ := by decide
theorem test_wired_forward_steps :
    ((after (.wiredDebounceEnd .fwd) ((restingAt 4).onKeys fun k => { k with fwd := ⟨false, some 30⟩ })).changer.inFlight.map Target.slot) =
      some 5 := by decide

/-! ## Chapter 08 -/

theorem test_stepdef :
    reply (.stepdef 1 false [.slot 1, .fades 500 500, .level 800, .sound 200 1000, .tape "RESTART", .advance "CUE" none]) State.reset =
      some "=STEPDEF 1,COUNT=1,SL=1,ST=FADE,FD=500/500,LV=800,SN=200/1000,TP=RESTART,AD=CUE,REACHED=NONE" := by decide
theorem test_stepdef_clamps :
    reply (.stepdef 2 false [.offset 12, .style "CUT", .fades 0 0]) (showOf .ready [plainStep .cue]) =
      some "=STEPDEF 2,COUNT=2,SL=+9 CLAMPED,ST=CUT,FD=0/0,LV=NONE,SN=NONE,TP=NONE,AD=CUE,REACHED=NONE" := by decide
/-- R5, check 5: a bare keyword in the place of field=value is a fault of form. -/
theorem test_stepdef_bare_keyword :
    readText "STEPDEF 1,SL=1,FOO".toList = .refused .syntaxErr "STEPDEF" := by decide
theorem test_stepdel : reply (.stepdel 3) (showOf .ended (List.replicate 4 (plainStep .cue))) = some "=STEPDEL 3,COUNT=2" := by decide
theorem test_stepdel_all : reports (.stepdel 1) (showOf .ended [plainStep .cue]) = ["*SHOW EMPTY"] := by decide
theorem test_stepask_range : reply (.stepask 2) (showOf .ended [plainStep .cue]) = some "?RANGE STEPASK" := by decide
theorem test_show_run : reply .showRun (showOf .ready [plainStep .cue]) = some "=SHOW RUN,RUNNING" := by decide
/-- R187: a CUEREC that waits in the guard at RUN does not come to record in the show. -/
theorem test_a_waiting_cuerec_at_run :
    (after .showRun ((showOf .ready [plainStep .cue]).onTape fun t => { t with guard := some .cueRecord })).tape.guard =
      some .playing := by decide
theorem test_show_stop : reply .showStop (runningShow .running [plainStep .cue] (inStep 1 .settled)) = some "=SHOW STOP,READY" := by decide
theorem test_show_hold : reports .showHold (runningShow .running [plainStep .cue] (inStep 1 .settled)) = ["*SHOW HELD,REQUEST"] := by
  decide
theorem test_show_resume_waits_for_clear :
    reply .showResume ((runningShow .held [plainStep .cue] (inStep 1 .settled)).onEngine fun e => { e with causes := [.request, .jam] }) =
      some "?STATE SHOW" := by decide
theorem test_dwell_enters_the_next_step :
    reports .dwellExpiry (runningShow .running [plainStep (.dwell 50), plainStep .cue]
      { inStep 1 .settled with dwell := some 0, dwellRuns := true }) =
      ["*SHOW TRIG,TAKEN,0,DWELL,NEXT", "*SHOW STEP,2,NEXT,NONE"] := by decide

/-! ## Chapters 09 and 10 -/

theorem test_next :
    reply .next ((runningShow .running [plainStep .cue, plainStep .cue] (inStep 1 .settled)).onTriggers fun t => { t with nextSeq := 12 }) =
      some "=NEXT 12,1" := by decide
theorem test_next_outside_a_show : reply .next State.reset = some "?STATE NEXT" := by decide
theorem test_back : reply .back (runningShow .held [plainStep .cue] (inStep 1 .fadingIn)) = some "=BACK 0,1" := by decide
theorem test_jump_range : reply (.jump 3) (runningShow .held [plainStep .cue] (inStep 1 .fadingIn)) = some "?RANGE JUMP" := by decide
theorem test_permit_line : reply (.permitSet .line .show .drop) State.reset = some "?RANGE PERMIT" := by decide
theorem test_permit_read : reply (.permitRead .remote .held) State.reset = some "=PERMIT REMOTE,HELD,NOTE" := by decide
theorem test_clear_of_a_held_condition :
    reply (.clear (some .trayOut)) (withFault .trayOut true true State.reset) = some "=CLEAR TRAY_OUT,STILL=TRAY_OUT" := by decide
theorem test_clear : reports (.clear (some .lampOpen)) (withFault .lampOpen false true State.reset) = ["*FAULT LAMP_OPEN,CLEARED"] := by
  decide
theorem test_faultmode_not_allowed : reply (.faultmodeSet .supplyLow .off) State.reset = some "?RANGE FAULTMODE" := by decide
theorem test_faultmode_read : reply (.faultmodeRead .jam) State.reset = some "=FAULTMODE JAM,RETRY" := by decide
theorem test_supply_falls : (after (.supplyComparatorChange false) State.reset).faults.supply = .deglitch := by decide
theorem test_supply_low :
    (after .supplyDeglitchEnd (State.reset.onFaults fun f => { f with supply := .deglitch })).changer.state = .halted := by decide
theorem test_supply_returns :
    (after .supplyRetryEnd (after (.supplyComparatorChange true)
      (after .supplyDeglitchEnd (State.reset.onFaults fun f => { f with supply := .deglitch })))).changer.state = .unhomed := by decide

/-! ## States that meet the hypotheses of the statements

Each theorem is named after the statement, or the part of one, that it serves. Where a statement asks only for a free line,
or only for a state between commands, `witness_free_line` serves it: `ASK` and the other readings, `ZERO`, `VOL`, `MUTE`,
`KEYADDR`, `PERMIT`, `TONE`, `CUEMAP`, `FAULTMODE`, the refused forms of a line, the pulses and the levels of the pins. -/

theorem witness_free_line : LineFree State.reset ∧ LineFree (State.reset.onLine fun l => { l with transmitter := none }) ∧
    Between State.reset := by decide

theorem witness_AnEmptyQueueRunsTheClock :
    (State.reset.pending = [] ∧ due State.reset = none) ∧
    due (State.reset.onLamp fun l => { l with updateTimer := 10 }) = some .lampUpdate := by decide

/-- The line with a reply in the slot. -/
def replying : State := State.reset.onLine fun l => { l with slot := some (.accepted "ZERO" []) }

theorem witness_ALineWaitsOrIsLost :
    (replying.line.slot ≠ none ∧ replying.line.buffer.length < 2) ∧
    (State.reset.onLine fun l => { l with resetPending := true }).line.resetPending = true ∧
    (let s := replying.onLine fun l => { l with buffer := [.request .zero, .request .park], queue := List.replicate 16 (.start false) }
     s.line.slot ≠ none ∧ 2 ≤ s.line.buffer.length ∧ 16 ≤ s.line.queue.length) ∧
    (let s := replying.onLine fun l => { l with buffer := [.request .zero, .request .park], queue := List.replicate 15 (.start false) }
     s.line.slot ≠ none ∧ 2 ≤ s.line.buffer.length ∧ s.line.queue.length < 16 ∧ s.line.transmitter ≠ none) := by decide

theorem witness_CharactersAreAssembled :
    (State.reset.line.receiver.resync = false ∧ State.reset.line.receiver.count < 72) ∧
    (let s := State.reset.onLine fun l => { l with receiver := ⟨List.replicate 72 'A', 72, false, false, false⟩ }
     s.line.receiver.resync = false ∧ 72 ≤ s.line.receiver.count) ∧
    (32 ≤ (32 : Byte).toNat ∧ (126 : Byte).toNat ≤ 126) ∧ (10 : Byte).toNat = 10 ∧
    ((31 : Byte).toNat ≠ 10 ∧ (31 : Byte).toNat ≠ 13 ∧ (31 : Byte).toNat < 32) ∧ 126 < (127 : Byte).toNat := by decide

theorem witness_ACompletedLineRunsItsRequest :
    let s := State.reset.onLine fun l => { l with receiver := ⟨"ZERO".toList, 4, false, false, false⟩ }
    LineFree s ∧ s.line.receiver = ⟨"ZERO".toList, "ZERO".toList.length, false, false, false⟩ ∧
      readText (trim "ZERO".toList) = .request .zero := by decide

theorem witness_TheTransmitterSendsRepliesBeforeReports :
    (replying.line.transmitter = some (.start true) ∧ replying.line.resetPending = false ∧ replying.line.buffer = [] ∧
      replying.line.slot = some (.accepted "ZERO" [])) ∧
    (State.reset.line.slot = none ∧ State.reset.line.queue = []) ∧
    (let s := State.reset.onLine fun l => { l with queue := [.lostLine 1] }
     s.line.slot = none ∧ s.line.queue = .lostLine 1 :: []) ∧
    (let s := replying.onLine fun l => { l with buffer := [.request .zero] }
     Between s ∧ s.line.buffer = [.request .zero] ∧ s.line.slot = some (.accepted "ZERO" [])) := by decide

theorem witness_ResetFollowsItsReply :
    let s := State.reset.onLine fun l => { l with transmitter := some (.accepted "RESET" []), resetPending := true }
    s.line.resetPending = true ∧ s.line.transmitter = some (.accepted "RESET" []) := by decide

theorem witness_ReportsAreOffered :
    ReportClass.cue ∉ (State.reset.onLine fun l => { l with mask := [] }).line.mask ∧
    (let s := State.reset.onLine fun l => { l with queue := List.replicate 15 (.start false) }
     ReportClass.cue ∈ s.line.mask ∧ s.line.queue.length < 16 ∧ s.line.transmitter ≠ none) ∧
    (let s := State.reset.onLine fun l => { l with transmitter := none }
     ReportClass.cue ∈ s.line.mask ∧ s.line.queue = [] ∧ s.line.transmitter = none ∧ s.line.slot = none ∧
       s.line.taking = false ∧ s.line.pendingLines = 0 ∧ s.line.pendingReports = 0) ∧
    (let s := State.reset.onLine fun l => { l with queue := List.replicate 16 (.start false) }
     ReportClass.cue ∈ s.line.mask ∧ 16 ≤ s.line.queue.length) := by decide

theorem witness_ReportSetsTheMask :
    LineFree State.reset ∧
      ReportClass.all.filter (· ∈ [ReportClass.show, .slide]) =
        [ReportClass.slide, .lamp, .heat, .tape, .cue, .key, .show, .fault].filter (· ∈ [ReportClass.show, .slide]) := by decide

theorem witness_SetNumberTakesItsValue :
    (settingRange .settle = some (0, 2000) ∧ Setting.settle ∉ [Setting.holdAt, .releaseAt] ∧
      (2000 : Int) = max 0 (min 2000 2001) ∧ breaksOrder State.reset .settle 2000 = false ∧
      State.reset.heat.fanDuty = fanDutyOf State.reset.heat.set State.reset.heat.fan) ∧
    (settingRange .warmUp = some (200, 3000) ∧ (800 : Int) = (max 200 (min 3000 805)) / 10 * 10 ∧
      breaksOrder State.reset .warmUp 800 = false) := by decide

theorem witness_SetKeywordTakesItsValue :
    "OFF" ∈ settingWords .loop ∧ Setting.loop ∈ [Setting.skipZero, .progNext, .progBack, .loop] ∧
      "LONG" ∈ settingWords .progNext := by decide

theorem witness_SetTrayUnhomesTheTray :
    (State.reset.engine.state ≠ .running ∧ State.reset.engine.state ≠ .held ∧
      State.reset.changer.state ∈ [ChangerState.noTray, .unhomed, .idle] ∧ State.reset.changer.size = 80) ∧
    (showOf .running []).engine.state = .running ∧
    (State.reset.onChanger fun c => { c with state := .jammed }).changer.state ∉ [ChangerState.noTray, .unhomed, .idle] := by decide

theorem witness_SetGuardAndTheHoldActAtOnce :
    State.reset.lamp.guardOn = true ∧
    (let s := (litAt 0 0).onLamp fun l => { l with guardOn := false }
     LineFree s ∧ s.lamp.guardOn = false ∧ s.changer.occupancy = .slide ∧ s.lamp.recovery = none) ∧
    (let s := State.reset.onLamp fun l => { l with guardOn := false }
     LineFree s ∧ s.lamp.guardOn = false ∧ s.changer.occupancy ≠ .slide ∧ s.pins.lampCurrent = .normal) ∧
    (State.reset.triggers.hold = false ∧ State.reset.triggers.toldShow ≠ .running ∧ State.reset.triggers.releaseAt < 8 ∧
      5 < State.reset.triggers.holdAt) ∧
    (let s := (showOf .running [plainStep .cue]).onTriggers fun t => { t with queue := List.replicate 3 ⟨0, .line, .next, none, none⟩ }
     LineFree s ∧ s.triggers.hold = false ∧ s.triggers.toldShow = .running ∧ s.triggers.tapeHold = true ∧
       s.tape.state ≠ .playing ∧ s.tape.reasons.byQueue = false ∧ s.triggers.releaseAt < 3 ∧ 3 ≠ s.triggers.holdAt ∧
       3 ≤ s.triggers.queue.length) ∧
    (let s := ((showOf .running [plainStep .cue]).onTriggers fun t => { t with hold := true }).onTape fun t =>
       { t with reasons := ⟨true, false, false⟩ }
     LineFree s ∧ s.triggers.hold = true ∧ s.triggers.tapeHold = true ∧ s.tape.state ≠ .paused ∧
       s.tape.reasons.byQueue = true) := by decide

theorem witness_SetIsRefusedOutOfOrder :
    State.reset.heat.set.tripAt < max 500 (min 1500 (1101 : Int)) + 100 ∧
    max 600 (min 2000 (1099 : Int)) < State.reset.heat.set.warnAt + 100 ∧
    max 2 (min 8 (-7 : Int)) ≤ (State.reset.triggers.releaseAt : Int) ∧
    (((State.reset.onTriggers fun t => { t with holdAt := 5 }).triggers.holdAt : Int) ≤ max 0 (min 5 900)) ∧
    (∀ q ∈ [((0 : Fin 4), (501 : Int), (1 : Fin 4)), (2, 560, 1), (3, -5, 2), (1, 651, 2)],
      let v := max 100 (min 2000 q.2.1)
      (q.2.2.val + 1 = q.1.val ∧ v < State.reset.heat.set.fanUp[q.2.2] + 50) ∨
        (q.2.2.val = q.1.val + 1 ∧ State.reset.heat.set.fanUp[q.2.2] < v + 50)) ∧
    (settingRange .loop = none ∧ Setting.loop ≠ .tray ∧ "MAYBE" ∉ settingWords .loop) := by decide

theorem witness_SettingsAndMapsAreRead :
    settingValue State.reset .settle = .num 300 ∧ settingValue State.reset .loop = .word "ON" ∧
    (let e : LogEntry := ⟨7, ⟨0, .short⟩, .next, none, 0⟩
     (State.reset.onCue fun c => { c with log := [e] }).cue.log = [] ++ e :: [] ∧ (e.seq : Int) = 7) ∧
    (∀ e ∈ State.reset.cue.log, (e.seq : Int) ≠ 0) := by decide

theorem witness_StepaskReadsAStep :
    let s := showOf .ready [plainStep .cue]
    LineFree s ∧ s.engine.steps[(1 : Int).toNat - 1]? = some (plainStep .cue) ∧ (0 : Int) < 1 ∧ s.engine.steps.length < 2 := by
  decide

/-! ### The changer -/

theorem witness_RequestsAtRestStartALift :
    LineFree (restingAt 5) ∧ SeatedAtRest (restingAt 5) ∧ (restingAt 5).engine.state ≠ .running ∧
      (restingAt 5).engine.state ≠ .held ∧ 79 < (restingAt 5).changer.size ∧ 79 ≠ (restingAt 5).changer.slot ∧
      2 ≤ (restingAt 5).changer.size ∧
      (((restingAt 5).changer.slot + max (-9) (min 9 (-5 : Int))) % (restingAt 5).changer.size).toNat = 0 ∧
      (restingAt 5).changer.size - 1 ≠ (restingAt 5).changer.slot := by decide

/-- A changer in a change toward slot 45. -/
def changing (st : ChangerState) : State :=
  (restingAt 5).onChanger fun c => { c with state := st, inFlight := some ⟨45, .line, false, false⟩ }

theorem witness_ARequestReplacesTheTarget :
    (LineFree (changing .lifting) ∧ (changing .lifting).changer.state = .lifting ∧ 44 < (changing .lifting).changer.size) ∧
    (changing .homing).changer.state = .homing ∧
    (let s := (changing .rotating).onChanger fun c => { c with trayDrive := some .forward }
     s.changer.state = .rotating ∧ 44 ≠ s.changer.slot ∧
       s.changer.trayDrive = some (directionTo s.changer.size s.changer.slot 44)) ∧
    (changing .dropping).changer.state = .dropping ∧ (changing .settling).changer.state = .settling := by decide

theorem witness_ChangerRequestsAreRefused :
    (LineFree (showOf .running []) ∧ (showOf .running []).engine.state = .running) ∧
    (let s := State.reset.onChanger fun c => { c with state := .jammed }
     LineFree s ∧ s.changer.state = .jammed) ∧
    ((changing .lifting).engine.state ≠ .running ∧ (changing .lifting).engine.state ≠ .held ∧
      (changing .lifting).changer.state ∉ [ChangerState.noTray, .jammed, .halted] ∧ (changing .lifting).changer.size ≤ 80 ∧
      (changing .lifting).changer.state ≠ .idle ∧ (changing .lifting).changer.state ≠ .unhomed) := by decide

theorem witness_IndexPulsesMoveTheSlot :
    (let s := State.reset.onChanger fun c => { c with trayPresent := false }
     Between s ∧ s.changer.trayPresent = false) ∧
    (let s := changing .rotating
     Between s ∧ s.changer.trayPresent = true ∧ s.changer.homes = false ∧ s.changer.status = .known ∧
       s.changer.state = .rotating ∧ s.changer.lastDriven = .forward ∧ s.changer.slot + 1 < s.changer.size ∧
       s.changer.inFlight.map Target.slot ≠ some 6 ∧ s.changer.inFlight ≠ none) ∧
    (let s := restingAt 78
     s.changer.trayPresent = true ∧ s.changer.state = .idle ∧ s.changer.slot + 1 < s.changer.size) ∧
    (let s := restingAt 79
     s.changer.trayPresent = true ∧ s.changer.homes = false ∧ s.changer.status = .known ∧ s.changer.state = .idle ∧
       ¬ s.changer.slot + 1 < s.changer.size) ∧
    (let s := (restingAt 5).onChanger fun c => { c with state := .homing, homes := true, homingCount := 80 }
     Between s ∧ s.changer.trayPresent = true ∧ s.changer.state = .homing ∧ s.changer.homes = true ∧
       s.changer.homingCount + 1 < s.changer.size + 2) := by decide

theorem witness_TheGateRecordFollowsItsSensors :
    let s := restingAt 5
    Between s ∧ s.changer.state ∈ [ChangerState.noTray, .unhomed, .idle, .jammed, .halted] ∧
      (s.faults.record .slideStuck).present = false ∧ s.pins.lampCurrent = .normal ∧ s.lamp.guardOn = true ∧
      occupancyOf (armOf s.pins.topSwitch s.pins.seatSwitch s.changer.gateDrive.isSome) true ≠ s.changer.occupancy := by decide

/-- The arm on its way, the gate motor driven. -/
def armMoving (st : ChangerState) (a : ArmDrive) : State :=
  ((changing st).onPins fun p => { p with topSwitch := false, seatSwitch := false }).onChanger fun c =>
    { c with gateDrive := some a, arm := .moving, occupancy := .unknown, phaseTimer := some 100 }

theorem witness_SwitchesEndLiftAndDrop :
    (let s := armMoving .lifting .up
     Between s ∧ GateFollows s ∧ s.pins.topSwitch = false ∧ s.pins.seatSwitch = false ∧ s.pins.lampCurrent = .normal ∧
       s.lamp.guardOn = true ∧ (s.faults.record .slideStuck).present = false ∧ s.changer.retryPhase = none ∧
       s.changer.inFlight = some ⟨45, .line, false, false⟩ ∧ s.changer.state = .lifting ∧ s.changer.gateDrive = some .up ∧
       s.changer.homes = false ∧ s.changer.trayDrive = none ∧ s.changer.trayDead = none ∧ s.pins.barrier = false ∧
       45 ≠ s.changer.slot) ∧
    (let s := armMoving .dropping .down
     Between s ∧ GateFollows s ∧ s.changer.inFlight = some ⟨45, .line, false, false⟩ ∧ s.changer.state = .dropping ∧
       s.changer.gateDrive = some .down ∧ s.changer.trayDrive = none ∧ 0 < s.changer.settle) := by decide

theorem witness_MotorTimesAct :
    (let s := restingAt 5 |>.onChanger fun c => { c with blanking := some 60 }
     Between s ∧ s.changer.blanking ≠ none) ∧
    (let s := restingAt 5 |>.onChanger fun c => { c with trayDead := some 30, gateDead := some 30 }
     Between s ∧ s.changer.state ≠ .backoff ∧ s.changer.arm = armOf s.pins.topSwitch s.pins.seatSwitch false ∧
       s.changer.occupancy = occupancyOf s.changer.arm s.pins.barrier ∧ s.changer.trayDead ≠ none ∧ s.changer.gateDead ≠ none ∧
       s.changer.startDue = false) ∧
    (let s := ((changing .rotating).onPins fun p => { p with topSwitch := true, seatSwitch := false }).onChanger fun c =>
       { c with trayDead := some 30, gateDead := some 30, startDue := true, arm := .lifted, occupancy := .empty }
     Between s ∧ s.changer.arm = armOf s.pins.topSwitch s.pins.seatSwitch false ∧
       s.changer.occupancy = occupancyOf s.changer.arm s.pins.barrier ∧ s.changer.trayDead ≠ none ∧
       s.changer.startDue = true ∧ s.changer.state = .rotating ∧ s.changer.arm = .lifted) ∧
    (let s := ((changing .dropping).onPins fun p => { p with topSwitch := true, seatSwitch := false }).onChanger fun c =>
       { c with gateDead := some 30, startDue := true, arm := .lifted, occupancy := .empty }
     Between s ∧ s.changer.arm = armOf s.pins.topSwitch s.pins.seatSwitch false ∧ s.changer.gateDead ≠ none ∧
       s.changer.startDue = true ∧ s.changer.state = .dropping ∧ s.changer.arm = .lifted) := by decide

/-- The tray motor driven in a phase, the arm LIFTED, the tray away from slot 0. -/
def trayDriven (st : ChangerState) : State :=
  ((changing st).onPins fun p => { p with topSwitch := true, seatSwitch := false, zeroSensor := false }).onChanger fun c =>
    { c with trayDrive := some .forward, arm := .lifted, occupancy := .empty, deglitch := some 20, phaseTimer := some 400 }

theorem witness_AJamBacksOff :
    let s := trayDriven .rotating
    Between s ∧ ChangerOk s ∧ s.changer.state = .rotating ∧ s.changer.trayDrive.isSome = true ∧ s.changer.deglitch ≠ none ∧
      (s.faults.record .jam).mode = .retry ∧ s.changer.retries < s.changer.retriesMax := by decide

theorem witness_AJamWithNoRetryLeft :
    let s := (trayDriven .rotating).onChanger fun c => { c with retries := 2 }
    Between s ∧ ChangerOk s ∧ s.changer.state = .rotating ∧ s.changer.trayDrive.isSome = true ∧ s.changer.deglitch ≠ none ∧
      s.changer.retriesMax ≤ s.changer.retries ∧ (s.faults.record .jam).mode = .retry ∧
      (s.faults.record .jam).latched = false ∧ s.engine.state ≠ .running ∧ s.engine.state ≠ .held := by decide

theorem witness_AJamOfTheArm :
    let s := armMoving .lifting .up
    ChangerOk s ∧ s.changer.state = .lifting ∧ s.changer.gateDrive.isSome = true := by decide

theorem witness_ABackoffDriveEnds :
    let s := (trayDriven .backoff).onChanger fun c => { c with backoffPhase := .rotate, trayDrive := some .reverse }
    Between s ∧ ChangerOk s ∧ s.changer.state = .backoff ∧ s.changer.trayDrive.isSome = true := by decide

theorem witness_SettledChangesAndTheTrayAreReported :
    (let s := changing .settling
     s.changer.inFlight = some ⟨45, .line, false, false⟩ ∧ Between s ∧ s.changer.state = .settling ∧
       s.changer.pendingTarget = none ∧ s.engine.execution = none ∧ s.lamp.gateCleared = false) ∧
    (let s := restingAt 5
     Between s ∧ s.changer.trayPresent = true ∧ s.changer.inFlight = none ∧ s.engine.state ≠ .running ∧
       s.changer.state = .idle) ∧
    (let s := State.afterHardReset { Pins.quiet with trayIn := false }
     Between s ∧ s.changer.trayPresent = false ∧ s.changer.state = .noTray ∧ s.supplyLow = false ∧
       (s.faults.record .trayOut).present = false) := by decide

/-! ### The lamp and the heat unit -/

theorem witness_LampStartsARamp :
    (LineFree (showOf .held []) ∧ (showOf .held []).engine.state = .held) ∧
    (State.reset.engine.state ≠ .running ∧ State.reset.engine.state ≠ .held ∧ (max 0 (min 9900 (10 : Int))).toNat / 10 * 10 ≠ 0 ∧
      (max 0 (min 9900 (9 : Int))).toNat / 10 * 10 = 0) := by decide

theorem witness_TheCurveKeepsItsOrder :
    LineFree State.reset ∧ State.reset.pins.lampCurrent = .normal ∧ CurveRises State.reset.lamp.curve ∧
      (∀ j : Fin 11, j.val + 1 = 5 → (State.reset.lamp.curve[j] : Int) ≤ 1474) ∧
      (∀ j : Fin 11, j.val = 6 → (1474 : Int) ≤ State.reset.lamp.curve[j]) := by decide

theorem witness_LampmodActs :
    (let s := State.reset
     s.lamp.path = some .primary ∧ s.lamp.shift = none ∧ s.supplyLow = false ∧
       (s.lamp.record LampPos.primary.other).state = .good ∧ (s.lamp.record .primary).state ≠ .absent ∧
       s.pins.lampCurrent = .normal ∧ (s.lamp.record .primary).state = .active ∧ (s.lamp.record .spare).state = .good ∧
       s.lamp.path ≠ some .spare ∧ (s.lamp.record .primary).state ≠ .good) ∧
    (let s := State.reset.onLamp fun l => { l with shift := some ⟨.spare, 0, true⟩ }
     LineFree s ∧ s.lamp.shift ≠ none) ∧
    (let s := State.reset.onLamp fun l => { l with spare := { l.spare with state := .failed } }
     LineFree s ∧ s.lamp.path = some .primary ∧ s.lamp.shift = none ∧ (s.lamp.record LampPos.primary.other).state ≠ .good) ∧
    (State.reset.heat.state ≠ .on ∧ (State.reset.faults.record .lampOpen).present = false ∧
      (State.reset.faults.record .shiftFail).present = false) := by decide

theorem witness_AnUpdateComputesTheDuty :
    let s := (litAt 900 3317).onLamp fun l => { l with ramp := ⟨900, 0, 800, 780, some .line, true⟩ }
    Between s ∧ s.pins.lampCurrent = .normal ∧ s.lamp.dwell + 10 < s.lamp.dwellLimit * 1000 ∧
      s.lamp.ramp.active = true ∧ s.lamp.ramp.elapsed + 10 < s.lamp.ramp.duration := by decide

theorem witness_RampsCompleteAndDeliver :
    (let s := (litAt 900 3317).onLamp fun l => { l with ramp := ⟨900, 0, 800, 790, some .line, true⟩ }
     Between s ∧ s.lamp.ramp.active = true ∧ s.lamp.ramp.duration ≤ s.lamp.ramp.elapsed + 10 ∧ s.engine.execution = none) ∧
    (let s := State.reset.onTape fun t => { t with ramp := ⟨40, 255, 1000, 970, .line, true⟩ }
     Between s ∧ s.tape.ramp.active = true ∧ s.tape.ramp.elapsed + 20 < s.tape.ramp.duration) := by decide

theorem witness_TheLampCurrentIsJudged :
    (Between State.reset ∧ (State.reset.faults.record .lampShort).present = false ∧ State.reset.lamp.duty = 0) ∧
    (let s := litAt 900 3317
     Between s ∧ 0 < s.lamp.duty ∧ (s.faults.record .lampShort).mode = .latch ∧
       (s.faults.record .lampShort).latched = false ∧ s.engine.state ≠ .running ∧ s.engine.state ≠ .held) := by decide

theorem witness_AnOpenLampFails :
    (let s := (litAt 900 3317).onLamp fun l => { l with openTimer := some 100 }
     Between s ∧ s.lamp.openTimer ≠ none ∧ s.lamp.path = some .primary ∧ (s.lamp.record .primary).state = .active ∧
       (s.lamp.record LampPos.primary.other).state ≠ .active ∧ s.lamp.shift = none ∧ s.lamp.autoShift = true ∧
       (s.lamp.record LampPos.primary.other).state = .good) ∧
    (let s := (litAt 900 3317).onLamp fun l => { l with openTimer := some 100, autoShift := false }
     s.lamp.autoShift = false ∧ (s.faults.record .lampOpen).mode = .latch ∧ (s.faults.record .lampOpen).latched = false ∧
       s.engine.state ≠ .running ∧ s.engine.state ≠ .held) := by decide

theorem witness_TheShiftEndsOrFails :
    (let s := State.reset
     Between s ∧ s.pins.lampCurrent = .normal ∧ s.heat.state ≠ .on ∧ (s.faults.record .lampOpen).present = false ∧
       (s.faults.record .shiftFail).present = false ∧ s.lamp.path = some .primary ∧
       (s.lamp.record .primary).state = .active ∧ (s.lamp.record LampPos.primary.other).state = .good ∧ s.lamp.shift = none) ∧
    (let s := State.reset.onLamp fun l => { l with shift := some ⟨.spare, 10, false⟩ }
     s.lamp.shift = some ⟨.spare, 10, false⟩ ∧ Between s) ∧
    (let s := State.reset.onLamp fun l =>
       { l with shift := some ⟨.spare, 1500, true⟩, path := none, primary := { l.primary with state := .good } }
     s.lamp.shift = some ⟨.spare, 1500, true⟩ ∧ Between s ∧ s.lamp.path = none ∧ s.lamp.primary.state ≠ .active ∧
       s.lamp.spare.state ≠ .active ∧ (s.faults.record .shiftFail).mode = .latch ∧
       (s.faults.record .shiftFail).latched = false ∧ s.engine.state ≠ .running ∧ s.engine.state ≠ .held) := by decide

theorem witness_PowerOnAndOff :
    (let s := State.reset
     LineFree s ∧ s.lamp.primary.state ∈ [LampState.good, .active] ∧ s.heat.state = .standby ∧ s.heat.fan ≠ 0 ∧
       s.lamp.duty = 0 ∧ s.heat.state ∉ [PowerState.warming, .on]) ∧
    (LineFree (litAt 900 3317) ∧ (litAt 900 3317).heat.state = .on ∧ 2 ≤ (litAt 900 3317).heat.fan) ∧
    (let s := State.reset.onLamp fun l =>
       { l with primary := { l.primary with state := .failed }, spare := { l.spare with state := .absent } }
     LineFree s ∧ ¬ (s.lamp.primary.state ∈ [LampState.good, .active] ∨ s.lamp.spare.state ∈ [LampState.good, .active]) ∧
       s.heat.state ∈ [PowerState.standby, .cooldown, .tripped]) := by decide

theorem witness_TachPulsesAndRisesAreCounted :
    (let s := State.reset.onHeat fun h => { h with rise := some ⟨780, 800⟩ }
     Between s ∧ s.heat.rise = some ⟨780, 800⟩ ∧ 780 + 10 < 800) ∧
    (let s := (litAt 900 3317).onHeat fun h => { h with rise := some ⟨790, 800⟩ }
     Between s ∧ 800 ≤ 790 + 10 ∧ s.heat.state = .on) ∧
    (let s := State.reset.onHeat fun h => { h with rise := some ⟨790, 800⟩, state := .warming }
     Between s ∧ s.heat.state = .warming ∧ s.heat.fan ≠ 0 ∧ s.pins.lampCurrent = .normal) := by decide

/-! ### The tape, the cue unit and the keys -/

theorem witness_TransportCommandsMoveTheTape :
    (let s := tapeIn .stopped .off 5
     LineFree s ∧ s.tape.state = .stopped ∧ s.tape.motor = .off ∧ s.tape.locate = none ∧ s.tape.endFlag = .none ∧
       s.supplyLow = false ∧ s.tape.reasons = ⟨false, false, false⟩ ∧ 300 ≤ s.tape.rest ∧ s.cue.detecting = false ∧
       s.engine.state ≠ .running ∧ s.engine.state ≠ .held) ∧
    (let s := (tapeIn .stopped .off 5).onTape fun t => { t with rest := 299 }
     LineFree s ∧ s.tape.lastDir ≠ .reverse ∧ s.tape.rest < 300) ∧
    (let s := tapeIn .windingRev .rev 5
     LineFree s ∧ s.tape.locate = none ∧ s.tape.state = .windingRev ∧ s.tape.motor ≠ .off) ∧
    (let s := tapeIn .paused .off 5
     LineFree s ∧ s.tape.state ≠ .noTape ∧ s.tape.state ≠ .locating ∧ s.tape.state ≠ .playing ∧
       s.tape.state ≠ .cueRecord ∧ s.tape.motor = .off ∧ s.tape.locate = none ∧ s.tape.endFlag = .none ∧
       s.supplyLow = false ∧ 30 < max (-32000) (min 32000 (36 : Int)) - s.tape.counter ∧
       max (-32000) (min 32000 (-26 : Int)) - s.tape.counter < -30) := by decide

theorem witness_TransportCommandsAreRefused :
    (LineFree (tapeIn .noTape .off 0) ∧ (tapeIn .noTape .off 0).tape.state = .noTape) ∧
    (let s := (tapeIn .stopped .off 0).onTape fun t => { t with endFlag := .fwd }
     LineFree s ∧ s.tape.endFlag = .fwd) ∧
    (let s := (tapeIn .stopped .off 0).onTape fun t => { t with endFlag := .rev }
     LineFree s ∧ s.tape.endFlag = .rev) ∧
    (let s := State.reset.onFaults fun f => { f with supply := .low }
     LineFree s ∧ s.supplyLow = true) ∧
    (showOf .running []).engine.state = .running ∧ (tapeIn .locating .fwd 0).tape.state = .locating := by decide

theorem witness_ZeroVolAndMuteAct :
    (LineFree (tapeIn .paused .off 317) ∧ (tapeIn .paused .off 317).tape.state ≠ .noTape ∧
      (tapeIn .paused .off 317).tape.state ≠ .locating ∧ (tapeIn .paused .off 317).tape.mute = false) ∧
    (State.reset.onTape fun t => { t with mute := true }).tape.mute = true := by decide

theorem witness_TapeEventsAct :
    (let s := tapeIn .stopped .off 5
     Between s ∧ s.tape.locate = none ∧ s.tape.present = true ∧ s.tape.state = .stopped ∧ s.tape.motor = .off ∧
       s.tape.guard = none) ∧
    (let s := tapeIn .noTape .off 5
     Between s ∧ s.tape.locate = none ∧ s.tape.present = false ∧ s.tape.state = .noTape) ∧
    (let s := (tapeIn .stopped .off 5).onTape fun t => { t with guard := some .windingRev }
     Between s ∧ s.tape.motor = .off ∧ s.tape.state = .stopped ∧ s.tape.guard = some .windingRev) ∧
    (let s := (tapeIn .locating .off 5).onTape fun t => { t with locate := some ⟨400, false, .line, .waiting, .forward⟩ }
     Between s ∧ s.tape.locate = some ⟨400, false, .line, .waiting, .forward⟩ ∧ s.tape.motor = .off ∧ s.tape.guard = none) ∧
    (let s := tapeIn .windingFwd .fwd 18420
     Between s ∧ s.tape.locate = none ∧ s.tape.state = .windingFwd ∧ s.tape.motor = .fwd) ∧
    (let s := tapeIn .windingRev .rev 0
     Between s ∧ s.tape.locate = none ∧ s.tape.state = .windingRev ∧ s.tape.motor = .rev) := by decide

theorem witness_DetectorsMapsAndPermissionsAreSet :
    (([ToneItem.tol 30, .hop "ON"].map toneName).Nodup ∧ [ToneItem.tol 30, .hop "ON"].all toneAllowed = true) ∧
    ¬ ([ToneItem.tol 30, .tol 12].map toneName).Nodup ∧ [ToneItem.hop "MAYBE"].all toneAllowed = false ∧
    LineFree State.reset ∧ Source.line = .line ∧ Source.cue ≠ .line := by decide

theorem witness_CuewriteWritesABurst :
    (let s := tapeIn .cueRecord .play 2204
     LineFree s ∧ s.tape.state = .cueRecord ∧ s.cue.writer = none) ∧
    (let s := (tapeIn .cueRecord .play 2204).onCue fun c => { c with writer := some writing }
     LineFree s ∧ s.tape.state = .cueRecord ∧ s.cue.writer ≠ none ∧ s.cue.writer = some writing) ∧
    State.reset.tape.state ≠ .cueRecord := by decide

theorem witness_WindowsCountAndEnd :
    (Between State.reset ∧ State.reset.cue.units[0].window = none) ∧
    (let s := withUnit 0 (fun u => { u with window := some (window 14) }) State.reset
     Between s ∧ s.cue.units[0].window = some (window 14) ∧ s.cue.units[0].classifier = .quiet ∧
       (∀ e : Fin 3, s.cue.units[e].awaiting = [] ∧ s.cue.units[e].hitWindows = []) ∧ s.cue.writer = none ∧
       s.cue.units[0].lastWritten = none ∧ (window 14).low ≤ (window 14).count ∧ (window 14).count ≤ (window 14).high ∧
       ¬ (window 13).low ≤ (window 13).count) ∧
    (let s := withUnit 1 (fun u => { u with window := some { window 0 with start := 79 } })
       (withUnit 0 (fun u => { u with window := some (window 18) }) State.reset)
     s.cue.units[1].window = some { window 0 with start := 79 } ∧ 79 < 0 + (window 18).len) := by decide

/-- A focus run. -/
def focusRun (driving : Bool) (requested blanking : Option Nat) : FocusRun :=
  ⟨.inward, if requested.isSome then .line else .key, driving, 10, requested, blanking⟩

/-- A key receiver with a focus run. -/
def focusing (r : FocusRun) : State := State.reset.onKeys fun k => { k with focus := some r }

theorem witness_TheFocusMotorRuns :
    (LineFree State.reset ∧ State.reset.supplyLow = false ∧ State.reset.keys.focus = none) ∧
    (let s := State.reset.onFaults fun f => { f with supply := .recovering }
     LineFree s ∧ s.supplyLow = true) ∧
    (let s := focusing (focusRun false (some 150) none)
     Between s ∧ s.keys.focus = some (focusRun false (some 150) none) ∧ (focusRun false (some 150) none).driving = false) ∧
    (let s := focusing (focusRun true (some 150) (some 60))
     Between s ∧ (focusRun true (some 150) (some 60)).driving = true ∧ (focusRun true (some 150) (some 60)).blanking ≠ none ∧
       s.pins.focusOver = false) ∧
    (let s := (focusing (focusRun true none (some 60))).onPins fun p => { p with focusOver := true }
     Between s ∧ s.keys.focus = some (focusRun true none (some 60)) ∧ s.pins.focusOver = true) ∧
    (focusRun true none none).blanking = none := by decide

theorem witness_AValidFrameIsJudged :
    let v (f : IrDataTiming) : Nat := bitsToNat (f.bits.map fun b => decide (1125 ≤ b.2))
    State.reset.keys.decoder.phase = .waiting ∧
    ((frame 5 20).wellFormed = true ∧ v (frame 5 20) % 16 = 5 ∧ v (frame 5 20) / 16 % 64 = 20 ∧
      v (frame 5 20) / 1024 = (20 + 3 * 5) % 64) ∧
    (let f := { frame 5 20 with bits := (frame 5 20).bits.set 15 (500, 500) }
     f.wellFormed = true ∧ ¬ v f / 1024 = (v f / 16 % 64 + 3 * (v f % 16)) % 64) ∧
    (let s := State.reset.onKeys fun k => { k with address := some 3 }
     Between s ∧ ¬ (s.keys.address = none ∨ s.keys.address = some (v (frame 5 20) % 16))) ∧
    (v (frame 5 26) / 16 % 64 = 26 ∧ State.reset.keys.held = none ∧ State.reset.keys.address = none) ∧
    (let s := State.reset.onKeys fun k => { k with digits := [1, 2] }
     Between s ∧ s.keys.digits.length < 3) ∧
    ((showOf .running []).mode ≠ .manual ∧ v (frame 5 5) / 16 % 64 = 5) := by decide

theorem witness_RepeatAndInvalidFramesAreCounted :
    (⟨3000, 750, 625⟩ : IrRepeatTiming).wellFormed = true ∧ (⟨1800, 450, 375⟩ : IrRepeatTiming).wellFormed = true ∧
    Between State.reset ∧ State.reset.keys.decoder.phase = .waiting ∧ (750 < 751 ∧ 751 < 900) ∧ 1500 < 1501 ∧ 374 < 375 ∧
      625 < 626 := by decide

theorem witness_KeysAreReleasedAndDigitsExpire :
    (Between State.reset ∧ State.reset.keys.held = none ∧ State.reset.keys.digits = []) ∧
    (let s := State.reset.onKeys fun k => { k with held := some .mute, digits := [4] }
     Between s ∧ s.keys.held = some .mute ∧ Key.mute ≠ .focusIn ∧ Key.mute ≠ .focusOut ∧ s.keys.digits ≠ []) ∧
    (let s := (focusing (focusRun true none none)).onKeys fun k => { k with held := some .focusIn }
     Between s ∧ s.keys.held = some .focusIn ∧ s.keys.focus = some (focusRun true none none) ∧
       (focusRun true none none).origin = .key ∧ (focusRun true none none).driving = true ∧
       (focusRun true none none).dir = .inward) := by decide

theorem witness_WiredKeysAreDebounced :
    (Between State.reset ∧ (State.reset.keys.wired .fwd).debounce = none) ∧
    (let s := State.reset.onKeys fun k => { k with fwd := ⟨true, some 30⟩ }
     Between s ∧ (s.keys.wired .fwd).debounce ≠ none ∧ (s.keys.wired .fwd).closed = true) ∧
    (let s := (State.reset.onKeys fun k => { k with fwd := ⟨false, some 30⟩ }).onTriggers fun t =>
       { t with perms := Vector.replicate 20 .note }
     Between s ∧ (s.keys.wired .fwd).closed = false ∧ s.triggers.perm .wired s.mode = .note) ∧
    (let s := (State.reset.onKeys fun k => { k with fwd := ⟨false, some 30⟩ }).onTriggers fun t =>
       { t with perms := Vector.replicate 20 .drop }
     s.triggers.perm .wired s.mode = .drop) ∧
    (let s := (restingAt 79).onKeys fun k => { k with fwd := ⟨false, some 30⟩ }
     Between s ∧ s.triggers.perm .wired s.mode = .act ∧ s.mode = .manual ∧ SeatedAtRest s ∧ 0 < s.changer.size ∧
       relativeSlot s.changer.size s.changer.skipZero s.changer.slot 1 < s.changer.size ∧
       relativeSlot s.changer.size s.changer.skipZero s.changer.slot 1 ≠ s.changer.slot) := by decide

/-! ### The show, the queue and the faults -/

theorem witness_TheStepListIsEdited :
    (LineFree State.reset ∧ State.reset.engine.state = .empty ∧ State.reset.triggers.toldShow = .empty ∧
      State.reset.triggers.hold = false ∧ stepdefRefusal 1 false [.slot 139] State.reset = none) ∧
    (let s := showOf .ready [plainStep .cue]
     LineFree s ∧ s.engine.state = .ready ∧ s.engine.steps ≠ [] ∧ stepdefRefusal 2 false [.offset 12] s = none ∧
       stepdefRefusal 1 true [] s = none ∧ s.triggers.hold = false ∧ s.triggers.toldShow = s.engine.state) ∧
    (LineFree (showOf .running [plainStep .cue]) ∧ (showOf .running [plainStep .cue]).engine.state = .running ∧
      (1 : Int) ≤ (showOf .running [plainStep .cue]).engine.steps.length) ∧
    (let s := showOf .ready (List.replicate 120 (plainStep .cue))
     s.engine.state ≠ .running ∧ s.engine.state ≠ .held ∧ (121 : Int) = s.engine.steps.length + 1 ∧
       (120 : Int) ≤ s.engine.steps.length ∧ 2 ≤ s.engine.steps.length) := by decide +kernel

theorem witness_StepdefIsRefusedInOrder :
    let s := showOf .ready [plainStep .cue]
    LineFree s ∧ s.engine.state = .ready ∧ (s.engine.steps.length : Int) = 1 ∧
    stepdefRefusal 2 false [.slot 140, .unknown "FOO"] s = some .range ∧
    stepdefRefusal 2 false [.slot 139, .unknown "FOO", .level 1, .levelWord "NONE"] s = some .unknown ∧
    stepdefRefusal 2 false [.level 1, .levelWord "NONE", .style "TORN"] s = some .syntaxErr ∧
    stepdefRefusal 2 false [.advance "CUE" (some 5), .tape "SPIN"] s = some .syntaxErr ∧
    (∀ f ∈ [StepField.slideWord "ALL", .style "NONE", .levelWord "ON", .soundWord "ON", .tape "SPIN", .advance "NEVER" none],
      stepdefRefusal 2 false [f] s = some .range) ∧
    stepdefRefusal 2 false [.advance "DWELL" (some 5), .tape "NONE"] s = none := by decide

/-- A step that names nothing but a level. -/
def lightStep : Step := { Step.default with level := some 800 }

/-- A running show whose step awaits its change to slot 5 or its ramp, with records waiting, before a step `st`. -/
def waitingShow (x : Execution) (st : Step) (records : Nat) (hold : Bool) (s : State) : State :=
  { s with
    engine := { s.engine with
      state := .running, steps := [{ Step.default with style := .cut }, st], execution := some x }
    triggers := { s.triggers with
      hold := hold, toldShow := .running, queue := List.replicate records ⟨0, .line, .next, none, none⟩ }
    tape := if hold then { s.tape with reasons := ⟨true, false, false⟩ } else s.tape }

theorem witness_ShowCommandsRunTheShow :
    (let s := showOf .ready [lightStep]
     s.engine.steps[0]? = some lightStep ∧ LineFree s ∧ s.engine.state = .ready ∧ s.engine.causes = [] ∧
       s.tape.state ≠ .cueRecord ∧ s.triggers.hold = false ∧ s.triggers.toldShow = s.engine.state ∧
       s.triggers.queue.length < s.triggers.holdAt ∧ lightStep.slide = none ∧ lightStep.sound = none ∧
       lightStep.tape = none ∧ 10 ≤ lightStep.fadeIn) ∧
    (let s := runningShow .running [lightStep] (inStep 1 .settled)
     LineFree s ∧ s.engine.state = .running ∧ s.engine.causes = [] ∧ s.triggers.hold = false ∧
       s.triggers.toldShow = .running ∧ s.triggers.queue = [] ∧ s.tape.state = .stopped ∧ s.tape.motor = .off ∧
       s.tape.locate = none ∧ s.tape.state ≠ .playing) ∧
    (let s := (runningShow .held [lightStep] (inStep 1 .settled)).onEngine fun e => { e with causes := [.request] }
     LineFree s ∧ s.triggers.hold = false ∧ s.engine.execution = some (inStep 1 .settled) ∧ s.engine.state = .held ∧
       s.engine.causes = [.request] ∧ s.triggers.queue = [] ∧ s.tape.state = .stopped ∧
       (inStep 1 .settled).deferred = .none ∧ (inStep 1 .settled).changeAwaited = false ∧
       (inStep 1 .settled).tape ≠ .owed ∧ 0 < s.triggers.holdAt) := by decide

theorem witness_StopInHeldAndRunInCueRecord :
    (let s := (runningShow .held [lightStep] (inStep 1 .settled)).onEngine fun e => { e with causes := [.request, .jam] }
     LineFree s ∧ s.engine.state = .held ∧ s.triggers.hold = false ∧ s.triggers.toldShow = .held ∧ s.triggers.queue = [] ∧
       s.tape.state = .stopped ∧ s.tape.motor = .off ∧ s.tape.locate = none) ∧
    (let s := ((showOf .ready [lightStep]).onTape fun _ => (tapeIn .cueRecord .play 5).tape).onTriggers fun q =>
       { q with toldTape := .cueRecord }
     s.engine.steps[0]? = some lightStep ∧ LineFree s ∧ s.engine.state = .ready ∧ s.engine.causes = [] ∧
       s.tape.state = .cueRecord ∧ s.tape.guard = none ∧ s.tape.reasons = ⟨false, false, false⟩ ∧
       s.triggers.hold = false ∧ s.triggers.queue.length < s.triggers.holdAt ∧ PlainStep lightStep) := by decide

theorem witness_StopFlushesTheQueue :
    (∀ st ∈ [ShowState.running, .held], ∀ n ∈ [0, 1, 8], ∀ h ∈ [false, true],
      let s := (runningShow st [lightStep] (inStep 1 .settled)).onTriggers fun t =>
        { t with queue := List.replicate n ⟨0, .line, .next, none, none⟩, hold := h, toldShow := st }
      LineFree s ∧ s.engine.state = st ∧ s.triggers.toldShow = s.engine.state ∧ s.triggers.queue.length = n ∧
        s.triggers.hold = h ∧ s.tape.state = .stopped ∧ s.tape.motor = .off ∧ s.tape.locate = none) ∧
    (let s := (waitingShow (inStep 1 .fadingIn) lightStep 4 true (tapeIn .paused .off 5)).onTape fun t =>
       { t with holdPause := true }
     LineFree s ∧ s.triggers.toldShow = s.engine.state ∧ s.engine.state = .running ∧ s.tape.state = .paused ∧
       s.tape.holdPause = true ∧ s.tape.reasons = ⟨true, false, false⟩ ∧ s.triggers.hold = true ∧ s.tape.motor = .off ∧
       s.tape.locate = none ∧ s.cue.detecting = false ∧ CueQuiet s.cue ∧ s.cue.writer = none) := by
  dsimp only; and_intros <;> decide

theorem witness_ShowRequestsAreRefused :
    (LineFree State.reset ∧ State.reset.engine.state = .empty) ∧
    (LineFree (showOf .ready [lightStep]) ∧ (showOf .ready [lightStep]).engine.state ≠ .running ∧
      (showOf .ready [lightStep]).engine.state ≠ .held) ∧
    (∃ c ∈ ((showOf .held [lightStep]).onEngine fun e => { e with causes := [.jam] }).engine.causes,
      c ≠ .request ∧ c ≠ .supplyLow) := by decide

/-- A step in progress whose dwell has run out. -/
def dwelling : Execution := { inStep 1 .settled with dwell := some 0, dwellRuns := true }

/-- A show in a settled dwell step. -/
def dwellShow : State := runningShow .running [plainStep (.dwell 50), lightStep] dwelling

theorem witness_ADwellRunsOut :
    (let s := runningShow .running [lightStep] (inStep 1 .settled)
     s.engine.execution = some (inStep 1 .settled) ∧ Between s ∧ (inStep 1 .settled).dwell = none) ∧
    (let s := dwellShow
     s.engine.execution = some dwelling ∧ Between s ∧ dwelling.dwell ≠ none ∧ dwelling.dwellRuns = true ∧
       s.triggers.perm .dwell s.mode = .act ∧ s.triggers.queue = [] ∧ s.engine.state = .running ∧
       dwelling.phase = .settled ∧ 1 ≤ dwelling.step ∧ s.engine.steps[dwelling.step]? = some lightStep ∧
       (s.engine.present dwelling).advance.accepts .dwell = true ∧ s.triggers.hold = false ∧ 1 ≤ s.triggers.holdAt ∧
       1 ≤ s.triggers.catchUp) ∧
    (let s := dwellShow.onTriggers fun t => { t with perms := Vector.replicate 20 .note }
     s.triggers.perm .dwell s.mode = .note) ∧
    (let s := dwellShow.onTriggers fun t => { t with queue := List.replicate 8 ⟨0, .line, .next, none, none⟩ }
     Between s ∧ s.triggers.perm .dwell s.mode = .act ∧ 8 ≤ s.triggers.queue.length) := by decide

theorem witness_LineTriggersEnterTheQueue :
    (LineFree State.reset ∧ State.reset.engine.state ≠ .running ∧ State.reset.engine.state ≠ .held) ∧
    (let s := (runningShow .held [lightStep] (inStep 1 .settled)).onTriggers fun t =>
       { t with queue := List.replicate 7 ⟨0, .line, .next, none, none⟩ }
     LineFree s ∧ s.engine.state = .held ∧ s.triggers.queue.length < 8 ∧ s.triggers.hold = false ∧
       s.triggers.toldShow ≠ .running ∧ s.engine.steps.length < 2 ∧ 1 ≤ s.engine.steps.length) ∧
    (let s := (runningShow .running [lightStep] (inStep 1 .fadingIn)).onTriggers fun t =>
       { t with queue := List.replicate 4 ⟨0, .line, .next, none, none⟩ }
     LineFree s ∧ s.engine.state = .running ∧ s.engine.execution.map Execution.phase ≠ some .settled ∧
       s.triggers.queue.length + 1 < s.triggers.holdAt) ∧
    (let s := (runningShow .held [lightStep] (inStep 1 .settled)).onTriggers fun t =>
       { t with queue := List.replicate 8 ⟨0, .line, .next, none, none⟩ }
     LineFree s ∧ s.engine.state = .held ∧ 8 ≤ s.triggers.queue.length ∧ 1 ≤ s.engine.steps.length) := by decide

theorem witness_ClearReleasesALatch :
    (LineFree State.reset ∧ FaultLineOk State.reset ∧ (State.reset.faults.record .jam).latched = false) ∧
    (let s := withFault .trayOut true true State.reset
     LineFree s ∧ FaultLineOk s ∧ (s.faults.record .trayOut).latched = true ∧ (s.faults.record .trayOut).present = true ∧
       (∀ o ∈ FaultKind.all, (s.faults.record o).latched = true → (s.faults.record o).present = true)) ∧
    (let s := withFault .lampShort false true State.reset
     LineFree s ∧ FaultLineOk s ∧ (s.faults.record .lampShort).latched = true ∧
       (s.faults.record .lampShort).present = false ∧ s.engine.state ≠ .running ∧ s.engine.state ≠ .held ∧
       s.engine.causes = Cause.all.filter (· ∈ s.engine.causes) ∧ s.heat.state ≠ .on) := by decide

theorem witness_ClearEndsAJam :
    let s := (withFault .jam false true (restingAt 5)).onChanger fun c => { c with state := .jammed, jam := some (.jam, .rotate) }
    LineFree s ∧ (s.faults.record .jam).latched = true ∧ (s.faults.record .jam).present = false ∧
      s.changer.state = .jammed ∧ s.changer.jam = some (.jam, .rotate) ∧ s.changer.trayPresent = true ∧
      s.changer.status ≠ .unhomed ∧ s.supplyLow = false ∧ s.engine.state ≠ .running ∧ s.engine.state ≠ .held := by decide

theorem witness_FaultmodeSetsAMode :
    FaultMode.off ∉ [FaultMode.retry] ∧ FaultMode.latch ∈ [FaultMode.retry, .latch] ∧ LineFree State.reset := by decide

theorem witness_TheSupplyIsWatched :
    (Between State.reset ∧ State.reset.faults.supply ≠ .deglitch ∧ State.reset.faults.supply ≠ .recovering) ∧
    (let s := (restingAt 5).onFaults fun f => { f with supply := .deglitch, supplyTimer := some 5 }
     Between s ∧ s.faults.supply = .deglitch ∧ s.changer.state = .idle ∧ s.changer.trayDrive = none ∧
       s.changer.gateDrive = none ∧ GateFollows s ∧ s.tape.state = .stopped ∧ s.tape.motor = .off ∧ s.tape.guard = none ∧
       s.keys.focus = none ∧ s.cue.writer = none ∧ s.lamp.shift = none ∧ (s.faults.record .supplyLow).mode = .retry ∧
       (s.faults.record .supplyLow).latched = false ∧ s.engine.state ≠ .running ∧ s.engine.state ≠ .held) ∧
    (let s := ((withFault .supplyLow true true (restingAt 5)).onFaults fun f =>
         { f with supply := .recovering, supplyTimer := some 100 }).onChanger (fun c => { c with state := .halted, held := some .idle })
       |>.onEngine fun e => { e with causes := [.supplyLow] }
     Between s ∧ s.faults.supply = .recovering ∧ s.changer.state = .halted ∧ s.changer.held = some .idle ∧
       s.changer.inFlight = none ∧ s.tape.state = .stopped ∧ s.lamp.shift = none ∧ s.heat.state ≠ .on ∧
       (s.faults.record .supplyLow).present = true ∧ (s.faults.record .supplyLow).latched = true ∧
       s.engine.state ≠ .running ∧ s.engine.state ≠ .held ∧ s.engine.causes = [.supplyLow]) := by decide

theorem witness_AThermalPeriodThatTrips :
    Between State.reset ∧ State.reset.heat.state ≠ .tripped ∧
      (after (.thermalPeriod 1200) State.reset).heat.set.tripAt ≤ (after (.thermalPeriod 1200) State.reset).heat.effective := by
  decide

/-! ### Stages of a period, phases of a change, bursts, keys and steps -/

theorem witness_TheStagesOfAPeriod :
    (let s := State.reset.onHeat fun h => { h with bad := 2, tachNow := 39 }
     Between s ∧ s.heat.fan ≠ 0 ∧ s.heat.tachNow < 10 * s.heat.fan.val ∧ min 3 (s.heat.bad + 1) = 3 ∧
       s.heat.stall = false) ∧
    (let s := State.reset.onHeat fun h => { h with stall := true, good := 1, tachNow := 40 }
     Between s ∧ ¬ s.heat.tachNow < 10 * s.heat.fan.val ∧ min 2 (s.heat.good + 1) = 2 ∧ s.heat.stall = true) ∧
    (let s := State.reset.onHeat fun h => { h with state := .cooldown, afterSeconds := 59, estimate := 300 }
     Between s ∧ s.heat.set.afterRun ≤ s.heat.afterSeconds + 1 ∧ (after (.thermalPeriod 300) s).heat.effective ≤ 450) ∧
    (let s := State.reset.onHeat fun h => { h with state := .tripped, recoverySeconds := 29, trip := true }
     Between s ∧ s.heat.state = .tripped ∧ (s.faults.record .heatTrip).mode = .retrySlow ∧ 30 ≤ s.heat.recoverySeconds + 1 ∧
       (after (.thermalPeriod 300) s).heat.effective < s.heat.set.tripAt - 150) ∧
    (let s := State.reset.onHeat fun h => { h with state := .tripped }
     Between s ∧ s.heat.set.tripAt ≤ (after (.thermalPeriod 1200) s).heat.effective) ∧
    (State.reset.engine.state ≠ .running ∧ State.reset.engine.state ≠ .held ∧
      State.reset.heat.fanDuty = fanDutyOf State.reset.heat.set State.reset.heat.fan) := by decide

theorem witness_ClearEndsATrip :
    let s := withFault .heatTrip false true (State.reset.onHeat fun h => { h with state := .tripped })
    LineFree s ∧ (s.faults.record .heatTrip).latched = true ∧ (s.faults.record .heatTrip).present = false ∧
      s.heat.state = .tripped ∧ s.heat.fan = 4 ∧ s.lamp.duty = 0 ∧ s.engine.state ≠ .running ∧ s.engine.state ≠ .held ∧
      s.engine.causes = Cause.all.filter (· ∈ s.engine.causes) := by decide

theorem witness_ARotationEnds :
    let s (park : Bool) (slot goal : Nat) (dead : Option Nat) := (trayDriven .rotating).onChanger fun c =>
      { c with slot := slot, inFlight := some ⟨goal, .line, park, false⟩, gateDead := dead }
    (∀ park, let s := s park 44 45 none
     s.changer.inFlight = some ⟨45, .line, park, false⟩ ∧ Between s ∧ LiftedAtWork s ∧ s.changer.trayPresent = true ∧
       s.changer.homes = false ∧ s.changer.status = .known ∧ s.changer.state = .rotating ∧
       s.changer.lastDriven = .forward ∧ s.changer.slot + 1 < s.changer.size ∧ s.changer.gateDead = none ∧
       s.changer.pendingTarget = none ∧ s.engine.execution = none) ∧
    (let s := s false 79 0 (some 20)
     LiftedAtWork s ∧ ¬ s.changer.slot + 1 < s.changer.size ∧ s.changer.gateDead ≠ none) := by decide

theorem witness_AHomingRunEnds :
    let s (goal count : Nat) := (trayDriven .homing).onChanger fun c =>
      { c with homes := true, homingCount := count, inFlight := some ⟨goal, .line, false, false⟩ }
    (∀ goal ∈ [0, 45], let s := s goal 3
     s.changer.inFlight = some ⟨goal, .line, false, false⟩ ∧ Between s ∧ LiftedAtWork s ∧ s.changer.trayPresent = true ∧
       s.changer.homes = true ∧ s.changer.state = .homing ∧ s.changer.trayDrive.isSome = true ∧
       s.changer.gateDead = none) ∧
    (let s := withMode .noZero .latch (s 45 81)
     Between s ∧ LiftedAtWork s ∧ s.changer.size + 2 ≤ s.changer.homingCount + 1 ∧ s.engine.state ≠ .running ∧
       s.engine.state ≠ .held ∧ (s.faults.record .noZero).mode = .latch ∧ (s.faults.record .noZero).latched = false ∧
       (s.faults.record .jam).present = false) := by decide

theorem witness_AStuckSlideJams :
    let s := withMode .slideStuck .latch ((armMoving .lifting .up).onPins fun p => { p with barrier := true })
    Between s ∧ GateFollows s ∧ s.pins.topSwitch = false ∧ s.pins.seatSwitch = false ∧ s.pins.barrier = true ∧
      s.pins.lampCurrent = .normal ∧ s.changer.state = .lifting ∧ s.changer.gateDrive = some .up ∧
      s.changer.trayDrive = none ∧ s.changer.retryPhase = none ∧ s.engine.state ≠ .running ∧ s.engine.state ≠ .held ∧
      (s.faults.record .slideStuck).mode = .latch ∧ (s.faults.record .slideStuck).latched = false ∧
      (s.faults.record .jam).present = false := by decide

/-- A backoff whose reverse drive has run, with the dead time of both motors left. -/
def backedOff (p : Phase) (s : State) : State :=
  s.onChanger fun c =>
    { c with
      state := .backoff, backoffPhase := p, backoffDriven := true, trayDrive := none, gateDrive := none
      trayDead := some 40, gateDead := some 40, arm := if c.arm = .moving then .unknown else c.arm }

theorem witness_ARetryStarts :
    (∀ p ∈ [Phase.lift, .drop], let s := backedOff p (armMoving .lifting .up)
     Between s ∧ GateFollows s ∧ s.changer.state = .backoff ∧ s.changer.backoffDriven = true ∧ s.changer.trayDrive = none ∧
       s.changer.gateDrive = none ∧ s.changer.gateDead ≠ none ∧ s.changer.arm ≠ .lifted ∧ s.changer.arm ≠ .seated ∧
       s.changer.backoffPhase = p) ∧
    (∀ p ∈ [Phase.rotate, .homing], let s := backedOff p (trayDriven .rotating)
     Between s ∧ GateFollows s ∧ s.changer.inFlight = some ⟨45, .line, false, false⟩ ∧ s.changer.trayDead ≠ none ∧
       s.changer.arm = .lifted ∧ s.changer.backoffPhase = p ∧ 45 ≠ s.changer.slot ∧ s.pins.zeroSensor = false) := by decide

/-- The return of the supply to a changer HALTED over a state. -/
def returning (held : ChangerState) (s : State) : State :=
  ((withFault .supplyLow true true s).onFaults fun f => { f with supply := .recovering, supplyTimer := some 100 }).onChanger
    (fun c =>
      { c with
        state := .halted, held := some held, backoffPhase := .lift, trayDrive := none, gateDrive := none
        arm := if c.arm = .moving then .unknown else c.arm })
  |>.onEngine fun e => { e with causes := [.supplyLow] }

theorem witness_AHeldPhaseGoesOn :
    let met (s : State) : Prop := Between s ∧ s.faults.supply = .recovering ∧ s.changer.state = .halted ∧ GateFollows s ∧
      s.changer.trayDrive = none ∧ s.changer.gateDrive = none ∧ s.tape.state = .stopped ∧ s.lamp.shift = none ∧
      s.heat.state ≠ .on ∧ (s.faults.record .supplyLow).present = true ∧ (s.faults.record .supplyLow).latched = true ∧
      s.engine.state ≠ .running ∧ s.engine.state ≠ .held ∧ s.engine.causes = [.supplyLow] ∧ s.changer.gateDead = none ∧
      s.changer.trayDead = none
    (∀ st ∈ [ChangerState.lifting, .dropping, .settling, .backoff],
      met (returning st (armMoving st .up)) ∧ (returning st (armMoving st .up)).changer.arm ≠ .lifted ∧
        (returning st (armMoving st .up)).changer.arm ≠ .seated ∧
        (returning st (armMoving st .up)).changer.backoffPhase = .lift) ∧
    (∀ st ∈ [ChangerState.rotating, .homing],
      met (returning st (trayDriven st)) ∧ (returning st (trayDriven st)).changer.arm = .lifted ∧
        (returning st (trayDriven st)).pins.barrier = false ∧ (returning st (trayDriven st)).pins.zeroSensor = false) := by
  decide

/-- Detector 0 with a window of a count, its classifier in a state. -/
def hearing (count : Nat) (c : Classifier) (s : State) : State :=
  withUnit 0 (fun u => { u with window := some (window count), classifier := c }) s

/-- A burst of hits that has missed one window. -/
def burst (hits : Nat) (echo : Bool) : Burst := ⟨hits, 1, 0, 80, echo⟩

theorem witness_ABurstMeetsItsGap :
    let map (a : CueAction) (s : State) := s.onCue fun c => { c with map := Vector.replicate 6 a }
    let met (s : State) : Prop := Between s ∧ s.cue.units[0].window = some (window 13) ∧
      (∀ e : Fin 3, s.cue.units[e].awaiting = []) ∧ (window 13).count < (window 13).low
    met (hearing 13 (.burst ⟨3, 0, 0, 80, false⟩) State.reset) ∧
    (∀ a ∈ [CueAction.next, .back, .mark], ∀ echo, met (map a (hearing 13 (.burst (burst 5 echo)) State.reset)) ∧
      (map a (hearing 13 (.burst (burst 5 echo)) State.reset)).cue.action ⟨0, .short⟩ = a) ∧
    met (hearing 13 (.burst (burst 2 false)) State.reset) ∧
    (∀ e ∈ [Perm.note, .drop, .act], let s := (hearing 13 (.burst (burst 10 false)) State.reset).onTriggers fun t =>
       { t with perms := Vector.replicate 20 e }
     met s ∧ s.triggers.perm .cue s.mode = e ∧ s.mode = .manual ∧ s.cue.action ⟨0, .long⟩ ≠ .mark) ∧
    (let s := (hearing 13 (.burst (burst 5 false)) (runningShow .held [plainStep .cue] (inStep 1 .settled))).onTriggers fun t =>
       { t with perms := Vector.replicate 20 .act }
     met s ∧ s.mode = .held ∧ s.triggers.toldShow = s.engine.state ∧ s.triggers.queue.length < 8 ∧ s.triggers.hold = false) ∧
    (let s := (hearing 13 (.burst (burst 5 false)) (runningShow .running [plainStep .cue] (inStep 1 .settled))).onTriggers fun t =>
       { t with queue := List.replicate 8 ⟨0, .line, .next, none, none⟩ }
     met s ∧ s.triggers.perm .cue s.mode = .act ∧ s.mode = .show ∧ 8 ≤ s.triggers.queue.length) ∧
    (let s := hearing 13 (.burst (burst 5 false)) (restingAt 79)
     met s ∧ s.triggers.perm .cue s.mode = .act ∧ s.mode = .manual ∧ SeatedAtRest s ∧
       relativeSlot s.changer.size s.changer.skipZero s.changer.slot 1 < s.changer.size ∧
       relativeSlot s.changer.size s.changer.skipZero s.changer.slot 1 ≠ s.changer.slot) ∧
    (let s := hearing 13 (.burst (burst 5 false)) (State.reset.onChanger fun c => { c with state := .jammed })
     met s ∧ s.mode = .manual ∧ s.changer.state = .jammed) := by
  dsimp only; and_intros <;> decide

theorem witness_AHitSettles :
    let met (s : State) : Prop := Between s ∧ s.cue.units[0].window = some (window 14) ∧
      (∀ e : Fin 3, s.cue.units[e].awaiting = []) ∧ (window 14).low ≤ (window 14).count ∧
      (window 14).count ≤ (window 14).high ∧ (∀ e : Fin 3, e ≠ 0 → s.cue.units[e].window = none)
    (∀ c ∈ [Classifier.quiet, .burst (burst 29 false), .burst (burst 30 false), .stuck (burst 31 false)],
      met (hearing 14 c State.reset)) ∧
    (let s := withUnit 1 (fun u => { u with hitWindows := [⟨true, 79, 160⟩] }) (hearing 14 .quiet State.reset)
     met s ∧ s.cue.units[0].classifier = .quiet ∧ s.cue.units[1].hitWindows = [⟨true, 79, 160⟩] ∧ 0 < 160 ∧ 79 < 0 + 80) := by
  decide

theorem witness_AStuckToneEnds :
    ∀ misses ∈ [0, 1], let s := hearing 19 (.stuck ⟨31, misses, 0, 80, false⟩) State.reset
    Between s ∧ s.cue.units[0].window = some (window 19) ∧ s.cue.units[0].classifier = .stuck ⟨31, misses, 0, 80, false⟩ ∧
      (∀ e : Fin 3, s.cue.units[e].awaiting = []) ∧ (window 19).high < (window 19).count := by decide

theorem witness_DetectionStops :
    ∀ c ∈ [Classifier.quiet, .burst (burst 2 false), .burst (burst 3 true), .stuck (burst 31 false)],
    let s := hearing 14 c ((tapeIn .playing .play 2204).onCue fun c => { c with detecting := true })
    LineFree s ∧ s.tape.state = .playing ∧ s.tape.motor = .play ∧ s.tape.locate = none ∧ s.cue.detecting = true ∧
      (∀ e : Fin 3, s.cue.units[e].awaiting = []) ∧ (∀ e : Fin 3, e ≠ 0 → s.cue.units[e].classifier = .quiet) ∧
      s.cue.units[0].classifier = c ∧ s.engine.state ≠ .running := by decide

theorem witness_DetectionStopsInAShow :
    let show_ (phase : StepPhase) (b : Burst) : State :=
      let s := hearing 14 (.burst b) (((tapeIn .playing .play 2204).onCue fun c => { c with detecting := true }))
      { s with engine := (runningShow .running [lightStep] (inStep 1 phase)).engine }
    let met (s : State) (b : Burst) : Prop := LineFree s ∧ s.tape.state = .playing ∧ s.tape.motor = .play ∧
      s.tape.locate = none ∧ s.cue.detecting = true ∧ (∀ e : Fin 3, s.cue.units[e].awaiting = []) ∧
      (∀ e : Fin 3, e ≠ 0 → s.cue.units[e].classifier = .quiet) ∧ s.cue.units[0].classifier = .burst b ∧
      s.engine.state = .running
    (met (show_ .settled (burst 2 false)) (burst 2 false) ∧ (burst 2 false).hits ≤ 2) ∧
    (met (show_ .settled (burst 3 true)) (burst 3 true) ∧ (burst 3 true).echo = true) ∧
    (let s := show_ .fadingIn (burst 3 false)
     met s (burst 3 false) ∧ s.engine.execution.map Execution.phase ≠ some .settled) := by
  dsimp only; and_intros <;> decide

/-- A wired FORWARD about to close and a frame of the same key about to come, under one permission everywhere. -/
def keyed (e : Perm) (s : State) : State :=
  (s.onKeys fun k => { k with fwd := ⟨false, some 30⟩, rev := ⟨false, some 30⟩ }).onTriggers fun t =>
    { t with perms := Vector.replicate 20 e }

theorem witness_SlideKeysAct :
    let v (f : IrDataTiming) : Nat := bitsToNat (f.bits.map fun b => decide (1125 ≤ b.2))
    let met (s : State) : Prop := Between s ∧ s.keys.decoder.phase = .waiting ∧ s.keys.held = none ∧ s.keys.address = none ∧
      (∀ w ∈ [WiredKey.fwd, .rev], (s.keys.wired w).debounce ≠ none ∧ (s.keys.wired w).closed = false) ∧ s.triggers.perm .wired s.mode = .act ∧
      s.triggers.perm .remote s.mode = .act
    (∀ code ∈ [1, 2], (frame 5 code).wellFormed = true ∧ v (frame 5 code) / 16 % 64 = code ∧
      v (frame 5 code) / 1024 = (code + 3 * (v (frame 5 code) % 16)) % 64) ∧
    (let s := keyed .act (restingAt 5)
     met s ∧ s.mode = .manual ∧ SeatedAtRest s ∧ relativeSlot s.changer.size s.changer.skipZero s.changer.slot 1 = 6 ∧
       relativeSlot s.changer.size s.changer.skipZero s.changer.slot (-1) = 4) ∧
    (let s := keyed .act (State.reset.onChanger fun c => { c with state := .noTray })
     met s ∧ s.mode = .manual ∧ s.changer.state = .noTray) ∧
    (∀ n ∈ [7, 8], let s := (keyed .act (runningShow .held [plainStep .cue] (inStep 1 .settled))).onTriggers fun t =>
       { t with queue := List.replicate n ⟨0, .line, .next, none, none⟩ }
     met s ∧ s.mode = .held ∧ s.triggers.queue.length = n ∧ s.engine.state ≠ .running ∧ s.triggers.hold = false ∧
       s.triggers.toldShow ≠ .running) ∧
    (let s := keyed .act (tapeIn .cueRecord .play 2204)
     met s ∧ s.mode = .program ∧ s.cue.writer = none ∧ s.cue.action ⟨0, s.keys.progNext⟩ = .next ∧
       (s.cue.action ⟨1, s.keys.progBack⟩ ≠ .back) ∧ s.cue.action ⟨0, s.keys.progBack⟩ = .back ∧
       met (s.onCue fun c => { c with writer := some writing }) ∧
       met (s.onCue fun c => { c with map := Vector.replicate 6 .nothing }) ∧
       met (s.onChanger fun c => { c with state := .jammed })) := by
  dsimp only; and_intros <;> decide

theorem witness_RemoteKeysAct :
    let v (f : IrDataTiming) : Nat := bitsToNat (f.bits.map fun b => decide (1125 ≤ b.2))
    let met (s : State) : Prop := Between s ∧ s.keys.decoder.phase = .waiting ∧ s.keys.held ≠ some .focusIn ∧
      s.keys.held ≠ some .focusOut ∧ s.keys.address = none
    let digits (ds : List (Fin 10)) (s : State) : State := s.onKeys fun k => { k with digits := ds }
    (∀ code ∈ [1, 2, 3, 4, 5, 6, 7, 8, 9, 16, 25], (frame 5 code).wellFormed = true ∧ v (frame 5 code) / 16 % 64 = code ∧
      v (frame 5 code) / 1024 = (code + 3 * (v (frame 5 code) % 16)) % 64) ∧
    (∀ e ∈ [Perm.note, .drop, .act], ∀ ds ∈ [[], [1, 2], [7, 9], [8, 0], [0, 0, 1]],
      met (digits ds (keyed e (restingAt 5))) ∧
        (keyed e (restingAt 5)).triggers.perm .remote (keyed e (restingAt 5)).mode = e) ∧
    ((restingAt 5).mode = .manual ∧ SeatedAtRest (restingAt 5) ∧ (restingAt 5).keys.focus = none ∧
      (restingAt 5).supplyLow = false ∧ 79 < (restingAt 5).changer.size ∧ (restingAt 5).changer.size ≤ 80) ∧
    (let s := State.reset.onFaults fun f => { f with supply := .recovering }
     met s ∧ s.supplyLow = true) ∧
    (let s := digits [1, 2] (keyed .act (State.reset.onChanger fun c => { c with state := .jammed }))
     met s ∧ s.mode = .manual ∧ s.changer.state = .jammed) ∧
    (∀ n ∈ [7, 8], let s := digits [1] ((keyed .act (runningShow .held [plainStep .cue] (inStep 1 .settled))).onTriggers
       fun t => { t with queue := List.replicate n ⟨0, .line, .next, none, none⟩ })
     met s ∧ s.mode = .held ∧ 1 ≤ s.engine.steps.length ∧ s.engine.steps.length < 2 ∧ s.triggers.queue.length = n ∧
       s.engine.state ≠ .running ∧ s.triggers.hold = false ∧ s.triggers.toldShow ≠ .running) := by
  dsimp only; and_intros <;> decide

theorem witness_ShowKeysRunTheShow :
    let met (s : State) : Prop := Between s ∧ s.keys.decoder.phase = .waiting ∧ s.keys.held = none ∧ s.keys.address = none ∧
      s.triggers.perm .remote s.mode = .act ∧ s.triggers.hold = false
    (met (keyed .act (tapeIn .cueRecord .play 5)) ∧ (keyed .act (tapeIn .cueRecord .play 5)).mode = .program) ∧
    (met State.reset ∧ State.reset.mode = .manual ∧ State.reset.engine.state = .empty) ∧
    (let s := (keyed .act (showOf .held [lightStep])).onEngine fun e => { e with causes := [.jam] }
     met s ∧ s.mode = .held ∧ ∃ c ∈ s.engine.causes, c ≠ .request ∧ c ≠ .supplyLow) ∧
    (let s := keyed .act (showOf .ready [lightStep])
     met s ∧ s.mode = .manual ∧ s.engine.steps[0]? = some lightStep ∧ s.engine.causes = [] ∧ s.tape.state ≠ .cueRecord ∧
       s.triggers.queue.length < s.triggers.holdAt ∧ PlainStep lightStep) ∧
    (let s := keyed .act (runningShow .running [lightStep] (inStep 1 .settled))
     met s ∧ s.mode = .show ∧ s.engine.state = .running ∧ s.engine.causes = [] ∧ s.tape.state = .stopped ∧
       s.tape.motor = .off ∧ s.tape.locate = none ∧ s.triggers.queue = []) ∧
    (let s := (keyed .act (runningShow .held [lightStep] (inStep 1 .settled))).onEngine fun e => { e with causes := [.request] }
     met s ∧ s.mode = .held ∧ s.engine.execution = some (inStep 1 .settled) ∧ s.engine.causes = [.request] ∧
       s.triggers.queue = [] ∧ s.tape.state = .stopped ∧ (inStep 1 .settled).deferred = .none ∧
       (inStep 1 .settled).changeAwaited = false ∧ (inStep 1 .settled).tape ≠ .owed ∧ 0 < s.triggers.holdAt) := by
  dsimp only; and_intros <;> decide

/-- A step with a slide. -/
def slideStep (style : Style) (slide : SlideField) : Step := { Step.default with style := style, slide := some slide }

theorem witness_ASlideStepIsEntered :
    let met (s : State) (st : Step) : Prop := s.engine.steps[0]? = some st ∧ LineFree s ∧ s.engine.state = .ready ∧
      s.engine.causes = [] ∧ s.tape.state ≠ .cueRecord ∧ s.triggers.hold = false ∧
      s.triggers.queue.length < s.triggers.holdAt ∧ st.sound = none ∧ st.tape = none ∧ 10 ≤ st.fadeIn ∧ 10 ≤ st.fadeOut
    let ready (slot : Nat) (st : Step) : State := (showOf .ready [st]).onChanger fun _ => (restingAt slot).changer
    (∀ style ∈ [Style.cut, .fade], met (ready 5 (slideStep style (.slot 79))) (slideStep style (.slot 79)) ∧
      SeatedAtRest (ready 5 (slideStep style (.slot 79))) ∧ 79 < (ready 5 (slideStep style (.slot 79))).changer.size ∧
      79 ≠ (ready 5 (slideStep style (.slot 79))).changer.slot) ∧
    (met (ready 5 (slideStep .cut (.offset 1))) (slideStep .cut (.offset 1)) ∧
      (ready 5 (slideStep .cut (.offset 1))).changer.relative 1 = 6) ∧
    (ready 5 (slideStep .cut (.slot 80))).changer.size ≤ 80 ∧
    (let s := (showOf .ready [slideStep .cut (.slot 7)]).onChanger fun c => { c with state := .noTray }
     met s (slideStep .cut (.slot 7)) ∧ s.changer.state = .noTray ∧ s.tape.state ≠ .playing) := by
  dsimp only; and_intros <;> decide

theorem witness_TheSoundAndTapeOfAStep :
    let ready (t : Tape) (st : Step) : State := ((showOf .ready [st]).onTape fun _ => t).onTriggers fun q =>
      { q with toldTape := t.state }
    let met (s : State) (st : Step) : Prop := s.engine.steps[0]? = some st ∧ LineFree s ∧ s.engine.state = .ready ∧
      s.engine.causes = [] ∧ s.tape.state ≠ .cueRecord ∧ s.triggers.hold = false ∧ s.triggers.queue.length < s.triggers.holdAt ∧
      st.slide = none ∧ 10 ≤ st.fadeIn
    let act (a : StepTape) : Step := { Step.default with tape := some a }
    (let st : Step := { Step.default with sound := some (255, 9900) }
     met (ready State.reset.tape st) st ∧ st.sound = some (255, 9900) ∧ 10 ≤ 9900 ∧ st.tape = none) ∧
    (∀ a ∈ [StepTape.play, .restart], let s := ready (tapeIn .noTape .off 0).tape (act a)
     met s (act a) ∧ s.tape.state = .noTape ∧ s.supplyLow = false) ∧
    (∀ a ∈ [StepTape.stop, .pause], let s := ready (tapeIn .windingRev .rev 9).tape (act a)
     met s (act a) ∧ s.tape.state = .windingRev ∧ s.tape.motor ≠ .off ∧ s.tape.locate = none) ∧
    (let s := ready { (tapeIn .stopped .off 9).tape with lastDir := .reverse, rest := 299 } (act .play)
     met s (act .play) ∧ s.tape.state = .stopped ∧ s.tape.motor = .off ∧ s.tape.endFlag = .none ∧ s.supplyLow = false ∧
       s.tape.locate = none ∧ s.tape.lastDir = .reverse ∧ s.tape.rest < 300) ∧
    (∀ n ∈ [(-31 : Int), 31], let s := ready (tapeIn .stopped .off n).tape (act .restart)
     met s (act .restart) ∧ (s.tape.counter < -30 ∨ 30 < s.tape.counter) ∧ s.tape.locate = none ∧ s.supplyLow = false) := by
  dsimp only; and_intros <;> decide

/-- A lamp ramp of a step at its last update. -/
def rampEnding (st : ShowState) (x : Execution) : State :=
  ((runningShow st [lightStep] x).onChanger fun _ => (restingAt 5).changer).onLamp fun l =>
    { l with ramp := ⟨900, 0, 800, 790, some .show, true⟩ }

theorem witness_ARampOfAStepEnds :
    let x (phase : StepPhase) : Execution := { Execution.entered 1 .run (some 7) phase with rampAwaited := true }
    let met (s : State) (x : Execution) : Prop := s.engine.execution = some x ∧ Between s ∧ ShowOk s.engine ∧
      s.pins.lampCurrent = .normal ∧ s.lamp.dwell + 10 < s.lamp.dwellLimit * 1000 ∧ s.lamp.ramp.active = true ∧
      s.lamp.ramp.duration ≤ s.lamp.ramp.elapsed + 10 ∧ s.lamp.ramp.origin = some .show ∧ x.rampAwaited = true
    (let s := (rampEnding .held (x .fadingOut)).onEngine fun e => { e with causes := [.request] }
     met s (x .fadingOut) ∧ s.engine.state = .held) ∧
    (let s := rampEnding .running (x .fadingOut)
     met s (x .fadingOut) ∧ s.engine.state = .running ∧ SeatedAtRest s ∧ 7 < s.changer.size ∧ 7 ≠ s.changer.slot) ∧
    (met (rampEnding .running (x .fadingIn)) (x .fadingIn) ∧ AwaitsOnlyItsRamp (x .fadingIn) ∧
      (rampEnding .running (x .fadingIn)).triggers.queue = []) ∧
    (let x := { x .changing with changeAwaited := true }
     met (rampEnding .running x) x ∧ ¬ AwaitsOnlyItsRamp x) := by
  dsimp only; and_intros <;> decide

theorem witness_AChangeOfAStepIsDone :
    let x (phase : StepPhase) (ramp : Bool) : Execution :=
      { Execution.entered 1 .run (some 45) phase with changeAwaited := true, rampAwaited := ramp }
    let s (st : ShowState) (style : Style) (x : Execution) : State :=
      (runningShow st [slideStep style (.slot 45)] x).onChanger fun _ =>
        { (changing .settling).changer with inFlight := some ⟨45, .show, false, false⟩ }
    let met (s : State) (x : Execution) : Prop := s.engine.execution = some x ∧
      s.changer.inFlight = some ⟨45, .show, false, false⟩ ∧ Between s ∧ s.changer.state = .settling ∧
      s.changer.pendingTarget = none ∧ s.lamp.gateCleared = false ∧ x.changeAwaited = true ∧ x.target = some 45
    (∀ st ∈ [ShowState.running, .held], met (s st .fade (x .changing false)) (x .changing false) ∧
      ((s st .fade (x .changing false)).engine.present (x .changing false)).style = .fade ∧
      10 ≤ ((s st .fade (x .changing false)).engine.present (x .changing false)).fadeIn) ∧
    (∀ ramp, met (s .running .cut (x .changing ramp)) (x .changing ramp) ∧
      ((s .running .cut (x .changing ramp)).engine.present (x .changing ramp)).style = .cut ∧
      (s .running .cut (x .changing ramp)).triggers.queue = [] ∧ (x .changing ramp).tape = .none ∧
      (x .changing ramp).deferred = .none) := by
  dsimp only; and_intros <;> decide

theorem witness_TriggersAreTaken :
    let met (s : State) (x : Execution) : Prop := s.engine.execution = some x ∧ LineFree s ∧ s.engine.state = .running ∧
      x.phase = .settled ∧ s.triggers.queue = [] ∧ s.triggers.hold = false ∧ 1 ≤ s.triggers.holdAt ∧ 1 ≤ s.triggers.catchUp ∧
      1 ≤ x.step
    let steps := [plainStep .cue, lightStep]
    (let s := runningShow .running steps (inStep 1 .settled)
     met s (inStep 1 .settled) ∧ s.engine.stepAt 2 = some lightStep ∧ PlainStep lightStep ∧ 2 ≤ s.engine.steps.length) ∧
    (let s := runningShow .running steps (inStep 2 .settled)
     met s (inStep 2 .settled) ∧ s.engine.stepAt 1 = some (plainStep .cue) ∧ PlainStep (plainStep .cue) ∧
       s.engine.steps.length ≤ 2 ∧ s.engine.loop = true) ∧
    (let s := (runningShow .running steps (inStep 2 .settled)).onEngine fun e => { e with loop := false }
     met s (inStep 2 .settled) ∧ s.engine.loop = false ∧ s.triggers.toldShow = .running ∧ s.tape.state = .stopped ∧ s.tape.motor = .off ∧
       s.tape.locate = none) := by
  dsimp only; and_intros <;> decide

/-- A CUT step that awaits its change to slot 5. -/
def awaitsChange : Execution := { inStep 1 .changing with target := some 5, changeAwaited := true }

/-- The changer settles at slot 5 for the show. -/
def settlesForTheShow (s : State) : State :=
  s.onChanger fun _ =>
    { (restingAt 5).changer with state := .settling, settleTimer := some 300, inFlight := some ⟨5, .show, false, false⟩ }

theorem witness_AChangeSettlesWithRecordsWaiting :
    let record : Trigger := ⟨0, .line, .next, none, none⟩
    let met (s : State) (rest : List Trigger) (st : Step) : Prop := Between s ∧ s.engine.state = .running ∧
      s.engine.execution = some awaitsChange ∧ awaitsChange.phase = .changing ∧ awaitsChange.changeAwaited = true ∧
      awaitsChange.target = some 5 ∧ awaitsChange.rampAwaited = false ∧ awaitsChange.tape = .none ∧
      awaitsChange.deferred = .none ∧ (s.engine.present awaitsChange).style = .cut ∧ s.changer.state = .settling ∧
      s.changer.inFlight = some ⟨5, .show, false, false⟩ ∧ s.changer.pendingTarget = none ∧ s.lamp.gateCleared = false ∧
      s.triggers.queue = record :: rest ∧ (s.engine.present awaitsChange).advance.accepts record.source = true ∧
      s.engine.stepAt 2 = some st ∧ st.sound = none ∧ st.tape = none
    let nexts (rest : List Trigger) := (rest.filter fun q => q.kind == .next).length
    (let st := slideStep .cut (.slot 79)
     let rest := List.replicate 4 record
     let s := (settlesForTheShow (waitingShow awaitsChange st 5 false State.reset)).onTriggers fun t => { t with tapeHold := false }
     met s rest st ∧ s.triggers.catchUp ≤ nexts rest ∧ s.triggers.hold = false ∧ s.triggers.tapeHold = false ∧
       79 < s.changer.size ∧ 79 ≠ s.changer.slot ∧ s.changer.status = .known ∧ s.changer.arm = .seated ∧
       s.changer.occupancy = occupancyOf .seated s.pins.barrier ∧ s.pins.topSwitch = false ∧ s.pins.seatSwitch = true ∧
       s.changer.gateDrive = none ∧ s.changer.gateDead = none) ∧
    (∀ q ∈ [(TapeState.stopped, false), (.paused, true)],
      let s := (settlesForTheShow (waitingShow awaitsChange lightStep 2 true (tapeIn q.1 .off 5))).onTape fun t =>
        { t with holdPause := q.2 }
      met s [record] lightStep ∧ PlainStep lightStep ∧ nexts [record] < s.triggers.catchUp ∧ s.triggers.hold = true ∧
        s.triggers.tapeHold = true ∧ s.triggers.toldShow = .running ∧ 1 ≤ s.triggers.releaseAt ∧
        s.tape.reasons = ⟨true, false, false⟩ ∧ s.tape.motor = .off ∧ s.cue.detecting = false) := by
  dsimp only; and_intros <;> decide

theorem witness_AShowEndsWithRecordsWaiting :
    let record : Trigger := ⟨0, .line, .next, none, none⟩
    let x : Execution := { awaitsChange with step := 2 }
    ∀ n ∈ [0, 1, 7],
      let rest := List.replicate n record
      let s := (settlesForTheShow (waitingShow x { Step.default with style := .cut } (n + 1) false State.reset)).onTriggers
        fun t => { t with holdAt := 8 }
      let s := s.onEngine fun e => { e with loop := false }
      Between s ∧ s.engine.state = .running ∧ s.engine.execution = some x ∧ x.phase = .changing ∧ x.changeAwaited = true ∧
        x.target = some 5 ∧ x.rampAwaited = false ∧ x.tape = .none ∧ x.deferred = .none ∧
        (s.engine.present x).style = .cut ∧ s.changer.state = .settling ∧
        s.changer.inFlight = some ⟨5, .show, false, false⟩ ∧ s.changer.pendingTarget = none ∧ s.lamp.gateCleared = false ∧
        s.triggers.queue = record :: rest ∧ (s.engine.present x).advance.accepts record.source = true ∧ 1 ≤ x.step ∧
        s.engine.steps.length ≤ x.step ∧ s.engine.loop = false ∧ s.triggers.toldShow = .running ∧ s.triggers.hold = false ∧
        rest.length < s.triggers.holdAt ∧ s.tape.state = .stopped ∧ s.tape.motor = .off ∧ s.tape.locate = none := by
  decide

theorem witness_ARampSettlesWithRecordsWaiting :
    let record : Trigger := ⟨0, .line, .next, none, none⟩
    let x : Execution := { inStep 1 .fadingIn with rampAwaited := true }
    let ends (s : State) : State := s.onLamp fun l => { l with ramp := ⟨0, 1000, 500, 490, some .show, true⟩ }
    let met (s : State) (rest : List Trigger) (st : Step) : Prop := Between s ∧ ShowOk s.engine ∧
      s.pins.lampCurrent = .normal ∧ s.lamp.dwell + 10 < s.lamp.dwellLimit * 1000 ∧ s.lamp.ramp.active = true ∧
      s.lamp.ramp.duration ≤ s.lamp.ramp.elapsed + 10 ∧ s.lamp.ramp.origin = some .show ∧ s.engine.state = .running ∧
      s.engine.execution = some x ∧ x.phase = .fadingIn ∧ x.rampAwaited = true ∧ AwaitsOnlyItsRamp x ∧
      s.triggers.queue = record :: rest ∧ (s.engine.present x).advance.accepts record.source = true ∧
      s.engine.stepAt 2 = some st ∧ st.sound = none ∧ st.tape = none ∧ s.triggers.hold = false ∧
      rest.length < s.triggers.holdAt
    (let st := slideStep .cut (.slot 79)
     let rest := List.replicate 4 record
     let s := (ends (waitingShow x st 5 false (restingAt 5))).onTriggers fun t => { t with holdAt := 8 }
     met s rest st ∧ s.triggers.catchUp ≤ (rest.filter fun q => q.kind == .next).length ∧ 79 < s.changer.size ∧
       79 ≠ s.changer.slot ∧ SeatedAtRest s) ∧
    (let s := ends (waitingShow x lightStep 1 false (restingAt 5))
     met s [] lightStep ∧ PlainStep lightStep ∧ 0 < s.triggers.catchUp) := by
  dsimp only; and_intros <;> decide

theorem witness_ARecordBringsTheHold :
    ∀ q ∈ [(TapeState.playing, TapeMotor.play), (.stopped, .off)],
      let s := ((waitingShow (inStep 1 .fadingIn) lightStep 3 false (tapeIn q.1 q.2 5)).onTriggers fun t =>
        { t with holdAt := 4 }).onCue fun c => { c with detecting := q.1.listening }
      LineFree s ∧ s.engine.state = .running ∧ s.engine.execution.map Execution.phase ≠ some .settled ∧
        s.triggers.queue.length < 8 ∧ s.triggers.hold = false ∧ s.triggers.tapeHold = true ∧ s.triggers.toldShow = .running ∧
        s.triggers.holdAt ≤ s.triggers.queue.length + 1 ∧ s.tape.reasons.byQueue = false ∧ 1 ≤ s.engine.steps.length ∧
        s.tape.state = q.1 ∧ s.tape.motor = q.2 ∧ s.cue.detecting = q.1.listening ∧ CueQuiet s.cue := by decide

theorem witness_ResumeSendsWhatWaits :
    let held (x : Execution) (t : TapeState) : State :=
      ((((runningShow .held [slideStep .fade (.slot 7)] x).onChanger fun _ => (restingAt 5).changer).onTape fun _ =>
        (tapeIn t .off 0).tape).onTriggers fun q => { q with toldTape := t }).onEngine fun e => { e with causes := [.request] }
    let met (s : State) (x : Execution) : Prop := s.engine.execution = some x ∧ LineFree s ∧ s.engine.state = .held ∧
      s.engine.causes = [.request] ∧ s.triggers.queue = [] ∧ s.triggers.hold = false ∧ 0 < s.triggers.holdAt
    (∀ x ∈ [{ Execution.entered 1 .run (some 7) .fadingOut with deferred := Deferred.goto },
        { Execution.entered 1 .run (some 7) .changing with deferred := .fadeIn },
        { Execution.entered 1 .run (some 7) .changing with changeAwaited := true }],
      met (held x .stopped) x ∧ (held x .stopped).tape.state = .stopped ∧ x.target = some 7 ∧ x.tape ≠ .owed ∧
        SeatedAtRest (held x .stopped) ∧ 7 < (held x .stopped).changer.size ∧ 7 ≠ (held x .stopped).changer.slot ∧
        x.catchUp = false ∧ 10 ≤ ((held x .stopped).engine.present x).fadeIn) ∧
    (let x := { Execution.entered 1 .run none .fadingIn with tape := TapeWait.owed }
     met (held x .noTape) x ∧ (held x .noTape).tape.state = .noTape ∧ (held x .noTape).supplyLow = false ∧
       x.tape = .owed ∧ x.deferred = .none ∧ x.changeAwaited = false ∧ x.rampAwaited = false ∧ x.phase = .fadingIn) := by
  dsimp only; and_intros <;> decide

theorem witness_ALocateOfAStepEnds :
    let x : Execution := { inStep 1 .fadingIn with tape := .locating }
    let s (m : TapeMotor) (phase : LocatePhase) (reasons : Reasons) : State :=
      (((runningShow .running [lightStep] x).onTape fun _ =>
        { (tapeIn .locating m 3).tape with locate := some ⟨0, true, .show, phase, .reverse⟩, reasons := reasons })).onTriggers
          fun q => { q with toldTape := .locating }
    (∀ r ∈ [Reasons.mk false false false, ⟨true, false, false⟩], let s := s .off .arriving r
     s.engine.execution = some x ∧ s.tape.locate = some ⟨0, true, .show, .arriving, .reverse⟩ ∧ x.tape = .locating ∧
       s.triggers.queue = [] ∧ Between s ∧ s.tape.motor = .off ∧ s.tape.guard = none ∧ s.tape.state = .locating ∧
       s.cue.detecting = false ∧ s.tape.reasons = r ∧ x.rampAwaited = false ∧ x.changeAwaited = false) ∧
    (let s := s .rev .winding ⟨false, false, false⟩
     LineFree s ∧ s.tape.state = .locating ∧ s.tape.motor ≠ .off ∧
       s.tape.locate = some ⟨0, true, .show, .winding, .reverse⟩) := by decide

theorem witness_TheTapeStartsFromEveryState :
    let s (st : TapeState) (m : TapeMotor) (rest : Nat) : State :=
      ((tapeIn st m 5).onTape fun t => { t with rest := rest }).onCue fun c => { c with detecting := st.listening }
    ∀ q ∈ [(TapeState.stopped, TapeMotor.off, 299), (.paused, .off, 300), (.playing, .play, 0), (.windingFwd, .fwd, 0),
        (.windingRev, .rev, 0), (.locating, .fwd, 0)],
      let s := s q.1 q.2.1 q.2.2
      LineFree s ∧ s.tape.state ≠ .noTape ∧ s.tape.endFlag = .none ∧ s.supplyLow = false ∧
        s.tape.reasons = ⟨false, false, false⟩ ∧ (s.tape.locate.all fun l => l.origin == .line) = true ∧ s.cue.writer = none ∧
        s.cue.detecting = s.tape.state.listening ∧
        (∀ d : Fin 3, s.cue.units[d].classifier = .quiet ∧ s.cue.units[d].awaiting = []) ∧ s.engine.state ≠ .running := by
  decide

theorem witness_VolumeAndLampRampsComplete :
    (let s := State.reset.onTape fun t => { t with ramp := ⟨40, 255, 30, 20, .line, true⟩ }
     Between s ∧ s.tape.ramp.active = true ∧ s.tape.ramp.duration ≤ s.tape.ramp.elapsed + 20 ∧ s.tape.ramp.origin ≠ .hold) ∧
    (let s := (tapeIn .playing .play 5).onTape fun t => { t with ramp := ⟨40, 0, 500, 480, .hold, true⟩, reasons := ⟨false, true, false⟩ }
     Between s ∧ s.tape.ramp.active = true ∧ s.tape.ramp.duration ≤ s.tape.ramp.elapsed + 20 ∧ s.tape.ramp.origin = .hold ∧
       s.tape.reasons.byShow = true ∧ s.tape.state = .playing ∧ s.tape.motor = .play ∧
       (∀ d : Fin 3, s.cue.units[d].classifier = .quiet ∧ s.cue.units[d].awaiting = [])) ∧
    ShowOk (litAt 900 3317).engine := by decide

theorem witness_LampmodShiftIsRefused :
    (let s := State.reset.onLamp fun l => { l with path := none }
     LineFree s ∧ s.lamp.shift = none ∧ s.lamp.path = none) ∧
    (let s := State.reset.onFaults fun f => { f with supply := .low }
     LineFree s ∧ s.lamp.shift = none ∧ s.supplyLow = true) := by decide

theorem witness_SetTrayFromT140 :
    let s := State.reset.onChanger fun c => { c with size := 140 }
    LineFree s ∧ s.engine.state ≠ .running ∧ s.engine.state ≠ .held ∧
      s.changer.state ∈ [ChangerState.noTray, .unhomed, .idle] ∧ s.changer.size = 140 := by decide

theorem witness_AStepIsAppendedInAShow :
    let s := runningShow .running [plainStep .cue] (inStep 1 .settled)
    LineFree s ∧ s.engine.steps ≠ [] ∧ stepdefRefusal 2 false [.level 800] s = none := by decide

/-! ### What a settled change, a lamp and the supply lead to -/

/-- A change that settles at slot 45 with a slide, the gate cleared and a dwell cap in force. -/
def settlingAt (pending : Option Target) : State :=
  (((changing .settling).onPins fun p => { p with barrier := true }).onChanger fun c =>
    { c with
      slot := 45, inFlight := some ⟨45, .line, false, false⟩, pendingTarget := pending, occupancy := .slide }).onLamp
    fun l => { l with gateCleared := true, dwellCap := 600 }

theorem witness_ASettledSlideIsJudged :
    ∀ p ∈ [none, some ⟨45, .line, false, false⟩, some ⟨45, .line, true, false⟩, some ⟨7, .remote, false, false⟩],
      let s := settlingAt p
      s.changer.inFlight = some ⟨45, .line, false, false⟩ ∧ Between s ∧ s.changer.state = .settling ∧
        s.engine.execution = none ∧ s.changer.occupancy = .slide ∧ s.lamp.gateCleared = true ∧ s.lamp.dwellCap ≠ 1000 ∧
        s.changer.pendingTarget = p ∧ s.changer.status = .known ∧ s.changer.arm = .seated ∧
        s.changer.occupancy = occupancyOf .seated s.pins.barrier ∧ s.pins.topSwitch = false ∧ s.pins.seatSwitch = true ∧
        s.changer.gateDead = none ∧ s.changer.slot = 45 := by decide

theorem witness_TheTrayIsRemovedInAChange :
    let halted := (trayDriven .halted).onChanger fun c => { c with held := some .rotating, trayDrive := none }
    ∀ s ∈ [trayDriven .rotating, withMode .trayOut .report (trayDriven .rotating), halted],
      s.changer.inFlight = some ⟨45, .line, false, false⟩ ∧ Between s ∧ ChangerOk s ∧ s.changer.trayPresent = true ∧
        s.changer.pendingTarget = none ∧ s.engine.state = .empty ∧
        ((s.faults.record .trayOut).mode = .latch ∨ (s.faults.record .trayOut).mode = .report) ∧
        (s.faults.record .trayOut).latched = false ∧ (s.changer.state = .rotating ∨ s.changer.state = .halted) := by decide

theorem witness_AnUpdateCapsTheDwell :
    let s := (litAt 900 3317).onLamp fun l => { l with dwell := 119990 }
    Between s ∧ s.pins.lampCurrent = .normal ∧ s.lamp.dwellCap = 1000 ∧ s.lamp.ramp.active = false ∧
      s.lamp.pubTherm = 1000 ∧ s.lamp.pubStall = 1000 ∧ s.lamp.pubPower = 1000 ∧ s.lamp.guard = 1000 ∧
      s.lamp.recovery = none ∧ 800 < s.lamp.value ∧ s.changer.occupancy = .slide ∧ s.lamp.primary.state = .active ∧
      s.lamp.shift = none ∧ s.supplyLow = false ∧ s.lamp.dwellLimit * 1000 ≤ s.lamp.dwell + 10 := by decide

theorem witness_ANewLampRelights :
    let s := (litAt 900 0).onLamp fun l => { l with primary := { l.primary with state := .failed } }
    LineFree s ∧ s.lamp.shift = none ∧ s.lamp.path = some .primary ∧ (s.lamp.record .primary).state ≠ .active ∧
      s.heat.state = .on ∧ (s.faults.record .lampOpen).present = false ∧ (s.faults.record .shiftFail).present = false := by
  decide

theorem witness_AnArrivingLampRelights :
    ∀ shift ∈ [none, some (Shift.mk .spare 900 true)], let s := (litAt 900 3317).onLamp fun l => { l with shift := shift }
      Between s ∧ s.pins.lampCurrent = .normal ∧ s.heat.state = .on ∧ s.lamp.path = some .primary ∧
        (s.lamp.record .spare).state = .good ∧ (s.lamp.record .primary).state = .active ∧ s.lamp.shift = shift := by decide

theorem witness_ALampArrivesInTheDark :
    let s := (litAt 900 0).onLamp fun l => { l with path := none, primary := { l.primary with state := .failed } }
    Between s ∧ s.pins.lampCurrent = .normal ∧ s.heat.state = .on ∧ s.lamp.path ≠ some .spare ∧
      (s.lamp.record .spare).state = .good ∧ s.lamp.shift = none ∧ (s.lamp.record .primary).state ≠ .active := by decide

theorem witness_ClearOfALampHoldRelights :
    ∀ k ∈ [FaultKind.lampShort, .shiftFail], ∀ hold ∈ [false, true],
      let s := withFault k false true ((litAt 900 0).onLamp fun l => { l with shortHold := hold, shiftHold := hold })
      LineFree s ∧ FaultLineOk s ∧ s.heat.state = .on ∧ (s.faults.record k).latched = true ∧
        (s.faults.record k).present = false ∧ s.engine.state = .empty ∧ s.engine.causes = [] ∧ s.lamp.shortHold = hold := by
  decide

theorem witness_SupplyLossStopsEveryMotion :
    let falls (s : State) := s.onFaults fun f => { f with supply := .deglitch }
    let met (s : State) : Prop := Between s ∧ ChangerOk s ∧ s.faults.supply = .deglitch ∧ s.keys.focus = none ∧
      s.cue.writer = none ∧ (s.faults.record .supplyLow).mode = .retry ∧ (s.faults.record .supplyLow).latched = false ∧
      s.engine.state = .empty ∧ (∀ d : Fin 3, s.cue.units[d].classifier = .quiet ∧ s.cue.units[d].awaiting = [])
    met (falls (trayDriven .rotating)) ∧ (trayDriven .rotating).changer.trayDrive.isSome = true ∧
      met (falls (armMoving .lifting .up)) ∧
      (∀ q ∈ [(TapeState.playing, TapeMotor.play), (.cueRecord, .play), (.windingFwd, .fwd), (.windingRev, .rev),
          (.stopped, .off), (.paused, .off), (.noTape, .off)],
        met (falls (tapeIn q.1 q.2 5)) ∧ (tapeIn q.1 q.2 5).tape.locate = none) ∧
      (let s := (tapeIn .locating .rev 500).onTape fun t => { t with locate := some ⟨0, false, .line, .winding, .reverse⟩ }
       met (falls s) ∧ s.tape.state = .locating ∧ s.tape.locate.isSome = true) := by
  dsimp only; and_intros <;> decide

theorem witness_TheSupplyReturnsToLightAndTape :
    ∀ hold ∈ [false, true],
      let low := (withFault .supplyLow true true (litAt 900 0)).onFaults fun f => { f with supply := .recovering }
      let s : State := { low with
        changer := { low.changer with state := .halted, held := some .idle }
        tape := { low.tape with state := .paused, holdPause := hold, reasons := ⟨false, false, true⟩ }
        engine := { low.engine with causes := [.supplyLow] } }
      Between s ∧ s.faults.supply = .recovering ∧ s.heat.state = .on ∧ s.changer.state = .halted ∧
        s.changer.inFlight = none ∧ s.changer.held = some .idle ∧ (s.faults.record .supplyLow).present = true ∧
        (s.faults.record .supplyLow).latched = true ∧ s.engine.state = .empty ∧ s.engine.causes = [.supplyLow] ∧
        s.tape.reasons = ⟨false, false, true⟩ ∧ s.tape.motor = .off ∧ s.cue.detecting = false ∧
        s.tape.state = .paused ∧ s.tape.holdPause = hold := by decide

theorem witness_LocateStartsFromEveryState :
    let met (s : State) : Prop := LineFree s ∧ s.tape.state ≠ .noTape ∧ s.tape.endFlag = .none ∧ s.supplyLow = false ∧
      s.tape.locate = none ∧ s.cue.writer = none ∧ s.cue.detecting = s.tape.state.listening ∧
      (∀ d : Fin 3, s.cue.units[d].classifier = .quiet ∧ s.cue.units[d].awaiting = [])
    -- a wind that goes on, or turns; the two edges of the window over a wind; and an arrival at once
    met (tapeIn .windingFwd .fwd 0) ∧ (tapeIn .windingFwd .fwd 0).tape.motor.direction = some .forward ∧
      met (tapeIn .windingRev .rev 0) ∧ (tapeIn .windingRev .rev 0).tape.motor ≠ .off ∧
      met (tapeIn .stopped .off 0) ∧ (tapeIn .stopped .off 0).tape.motor = .off ∧
      300 ≤ (tapeIn .stopped .off 0).tape.rest ∧ (tapeIn .stopped .off 0).tape.reasons = ⟨false, false, false⟩ ∧
      met ((tapeIn .stopped .off 0).onTape fun t => { t with reasons := ⟨true, false, false⟩ }) := by
  dsimp only; and_intros <;> decide

theorem witness_ALocateMeetsItsPulses :
    ∀ q ∈ [((69 : Int), LocatePhase.winding), (70, .winding), (90, .arriving)], let l : Locate := ⟨100, false, .line, q.2, .forward⟩
      let s := (tapeIn .locating .fwd q.1).onTape fun t => { t with locate := some l }
      s.tape.locate = some l ∧ Between s ∧ s.tape.present = true ∧ s.tape.motor = .fwd ∧ s.tape.counter = q.1 := by decide

theorem witness_ALocateEnds :
    (∀ play ∈ [false, true], ∀ m ∈ [TapeMotor.off, .fwd, .rev], ∀ r ∈ [Reasons.mk false false false, ⟨true, false, false⟩],
      let l : Locate := ⟨3, play, .line, .arriving, .forward⟩
      let s := (tapeIn .locating m 3).onTape fun t => { t with locate := some l, reasons := r }
      s.tape.locate = some l ∧ Between s ∧ s.tape.state = .locating ∧ s.tape.present = true ∧ s.tape.motor = m ∧
        s.tape.guard = none ∧ s.tape.reasons = r ∧ s.cue.detecting = false) ∧
    (let x : Execution := { inStep 1 .fadingIn with tape := .locating, rampAwaited := true }
     let l : Locate := ⟨0, true, .show, .arriving, .reverse⟩
     let s := (runningShow .running [plainStep .cue] x).onTape fun _ =>
       { (tapeIn .locating .rev 3).tape with locate := some l }
     s.tape.locate = some l ∧ Between s ∧ s.tape.state = .locating ∧ l.origin = .show ∧
       s.engine.execution = some x ∧ x.tape = .locating ∧ x.rampAwaited = true ∧ s.tape.motor.direction = some .reverse) := by
  decide

/-! ### Causes, holds and stops met in every state of a block -/

/-- A show that a set of causes holds, or that runs. -/
def showUnder (cs : List Cause) (x : Execution) (s : State) : State :=
  let st : ShowState := if cs = [] then .running else .held
  { s with
    engine := { s.engine with state := st, causes := cs, steps := [lightStep], execution := some x }
    triggers := { s.triggers with toldShow := st }
    tape := { s.tape with reasons := { s.tape.reasons with byShow := cs ≠ [] } } }

theorem witness_ACauseIsTold :
    ∀ k ∈ [FaultKind.jam, .lampOpen, .heatTrip, .supplyLow], causeOf k ≠ none ∧ (State.reset.faults.record k).latched = false := by
  decide

theorem witness_ACauseEntersAndLeaves :
    let x := inStep 1 .settled
    (∀ cs ∈ [[], [Cause.request, .jam], [.supplyLow]],
      let s := showUnder cs x State.reset
      Between s ∧ s.engine.causes = Cause.all.filter (· ∈ s.engine.causes) ∧ QueueHoldStays s.triggers) ∧
    (let s := showUnder [.jam] x (tapeIn .paused .off 5)
     s.engine.state = .held ∧ NothingPutOff s ∧ s.triggers.hold = false ∧ s.triggers.queue.length < s.triggers.holdAt ∧
       s.tape.state = .paused ∧ s.tape.motor = .off ∧ s.cue.detecting = false) ∧
    causeOf .jam = some .jam ∧ causeOf .supplyLow = some .supplyLow := by
  refine ⟨by decide, ⟨by decide, ⟨_, rfl, by decide⟩, by decide⟩, by decide⟩

theorem witness_AFaultHoldsTheShow :
    let x := inStep 1 .settled
    let met (cs : List Cause) (s : State) : Prop := Between s ∧ QueueHoldStays s.triggers ∧
      s.engine.causes = Cause.all.filter (· ∈ s.engine.causes) ∧ s.engine.causes = cs ∧
      s.engine.state = (if cs = [] then ShowState.running else .held)
    let enters (s : State) (k : FaultKind) : Prop := (s.faults.record k).latched = false
    let lit := (litAt 900 3317).onLamp fun l => { l with openTimer := some 499, autoShift := false }
    let shifting := State.reset.onLamp fun l =>
      { l with shift := some ⟨.spare, 1500, true⟩, path := none, primary := { l.primary with state := .good } }
    let low := (restingAt 5).onFaults fun f => { f with supply := .deglitch }
    ∀ cs ∈ [[], [Cause.request]],
      (let s := showUnder cs x lit
       met cs s ∧ enters s .lampShort ∧ enters s .lampOpen ∧ 0 < s.lamp.duty ∧ (s.faults.record .lampShort).mode = .latch ∧
         (s.faults.record .lampOpen).mode = .latch ∧ s.lamp.openTimer ≠ none ∧ s.lamp.path = some .primary ∧
         (s.lamp.record .primary).state = .active ∧ (s.lamp.record .spare).state ≠ .active ∧ s.lamp.shift = none ∧
         s.lamp.autoShift = false) ∧
      (let s := showUnder cs x shifting
       met cs s ∧ enters s .shiftFail ∧ s.lamp.shift = some ⟨.spare, 1500, true⟩ ∧ s.lamp.path = none ∧
         s.lamp.primary.state ≠ .active ∧ s.lamp.spare.state ≠ .active ∧ (s.faults.record .shiftFail).mode = .latch) ∧
      (let s := showUnder cs x (withMode .jam .latch ((trayDriven .rotating).onChanger fun c => { c with deglitch := some 9 }))
       met cs s ∧ enters s .jam ∧ ChangerOk s ∧ s.changer.state = .rotating ∧ s.changer.trayDrive.isSome = true ∧
         s.changer.deglitch ≠ none ∧ (s.faults.record .jam).mode = .latch) ∧
      (let s := showUnder cs x (restingAt 5)
       met cs s ∧ enters s .trayOut ∧ (s.faults.record .trayOut).mode = .latch ∧ s.changer.trayPresent = true ∧
         s.changer.inFlight = none ∧ s.changer.state = .idle) ∧
      (let s := showUnder cs x low
       met cs s ∧ enters s .supplyLow ∧ s.faults.supply = .deglitch ∧ s.changer.state = .idle ∧ s.changer.trayDrive = none ∧
         s.changer.gateDrive = none ∧ GateFollows s ∧ s.tape.state = .stopped ∧ s.tape.motor = .off ∧ s.tape.guard = none ∧
         s.keys.focus = none ∧ s.cue.writer = none ∧ s.lamp.shift = none ∧ (s.faults.record .supplyLow).mode = .retry) := by
  refine List.forall_mem_cons.2 ⟨?_, List.forall_mem_cons.2 ⟨?_, by simp⟩⟩ <;> dsimp only <;> and_intros <;>
    decide

theorem witness_ACauseLeavesAHeldShow :
    let x := inStep 1 .settled
    (∀ cs ∈ [[Cause.supplyLow], [.request, .supplyLow]],
      let s := showUnder cs x (((withFault .supplyLow true true (restingAt 5)).onFaults fun f =>
        { f with supply := .recovering }).onChanger fun c => { c with state := .halted, held := some .idle })
      s.engine.state = .held ∧ Between s ∧ s.faults.supply = .recovering ∧ s.changer.state = .halted ∧
        s.changer.held = some .idle ∧ s.changer.inFlight = none ∧ s.lamp.shift = none ∧ s.heat.state ≠ .on ∧
        (s.faults.record .supplyLow).present = true ∧ (s.faults.record .supplyLow).latched = true ∧
        s.tape.reasons.byShow = true ∧ s.triggers.hold = false ∧ s.triggers.queue.length < s.triggers.holdAt ∧
        s.tape.state = .stopped ∧ s.engine.causes = cs ∧ s.triggers.queue = [] ∧ s.engine.execution = some x) ∧
    NothingPutOff (showUnder [.supplyLow] x (restingAt 5)) ∧
    (∀ q ∈ [(FaultKind.lampOpen, Cause.lampOpen), (.trayOut, .trayOut), (.lampShort, .lampShort), (.jam, .jam)],
      let s := showUnder [.request, q.2] x (withFault q.1 false true State.reset)
      LineFree s ∧ causeOf q.1 = some q.2 ∧ s.lamp.shortHold = false ∧ s.changer.state ≠ .jammed ∧
        (s.faults.record q.1).latched = true ∧ (s.faults.record q.1).present = false) := by
  refine ⟨by decide, ⟨_, rfl, by decide⟩, by decide⟩

theorem witness_SetHoldsAndReleasesTheTape :
    (∀ tapeHold ∈ [true, false],
      let s := ((waitingShow (inStep 1 .fadingIn) lightStep 3 false (tapeIn .playing .play 5)).onTriggers fun t =>
        { t with tapeHold := tapeHold, holdAt := if tapeHold then 4 else 3, releaseAt := 1 }).onCue fun c =>
          { c with detecting := true }
      LineFree s ∧ s.triggers.hold = false ∧ s.triggers.toldShow = .running ∧ s.tape.reasons.byQueue = false ∧
        s.tape.state = .playing ∧ s.tape.motor = .play ∧ s.cue.detecting = true ∧ CueQuiet s.cue ∧
        (if tapeHold then s.triggers.releaseAt < 3 ∧ 3 ≠ s.triggers.holdAt ∧ 3 ≤ s.triggers.queue.length
         else s.triggers.holdAt ≤ s.triggers.queue.length)) ∧
    (let s := (waitingShow (inStep 1 .fadingIn) lightStep 3 false (tapeIn .stopped .off 5)).onTriggers fun t =>
       { t with tapeHold := false, holdAt := 3 }
     LineFree s ∧ s.triggers.hold = false ∧ s.triggers.toldShow = .running ∧ s.tape.reasons.byQueue = false ∧
       s.triggers.tapeHold = false ∧ s.triggers.holdAt ≤ s.triggers.queue.length ∧ s.tape.state ≠ .playing) ∧
    (∀ q ∈ [(TapeState.paused, true), (.stopped, false)],
      let s := ((waitingShow (inStep 1 .fadingIn) lightStep 3 true (tapeIn q.1 .off 5)).onTape fun t =>
        { t with holdPause := q.2 }).onTriggers fun t => { t with releaseAt := 1, holdAt := 4 }
      LineFree s ∧ s.triggers.hold = true ∧ s.tape.reasons = ⟨true, false, false⟩ ∧ s.tape.motor = .off ∧
        s.cue.detecting = false ∧ s.triggers.tapeHold = true ∧ 3 < s.triggers.holdAt ∧ 3 ≠ s.triggers.releaseAt ∧
        s.triggers.queue.length ≤ 3) := by
  refine ⟨by decide, by decide, by decide⟩

theorem witness_ALampRampCompletes :
    let s := (litAt 900 3317).onLamp fun l => { l with ramp := ⟨900, 0, 800, 790, some .line, true⟩ }
    Between s ∧ s.pins.lampCurrent = .normal ∧ s.lamp.dwell + 10 < s.lamp.dwellLimit * 1000 ∧ s.lamp.ramp.active = true ∧
      s.lamp.ramp.duration ≤ s.lamp.ramp.elapsed + 10 ∧ s.lamp.ramp.origin ≠ some .show := by decide

theorem witness_TheShiftSwitchMoves :
    (∀ q ∈ [(none, LampState.failed), (some (Shift.mk .spare 900 true), .failed), (some ⟨.primary, 900, true⟩, .good)],
      let s := State.reset.onLamp fun l =>
        { l with
          path := none, shift := q.1, primary := { l.primary with state := .good }
          spare := { l.spare with state := q.2 } }
      Between s ∧ s.lamp.path ≠ some .spare ∧ s.lamp.primary.state ≠ .active ∧ s.lamp.spare.state ≠ .active ∧
        (s.lamp.record .spare).state = q.2 ∧ s.lamp.shift = q.1) ∧
    (∀ shift ∈ [none, some (Shift.mk .spare 20 true)],
      let s := State.reset.onLamp fun l => { l with shift := shift }
      Between s ∧ s.heat.state ≠ .on ∧ s.lamp.path = some .primary ∧ (s.lamp.record .primary).state = .active ∧
        (s.lamp.record LampPos.primary.other).state ≠ .active ∧ s.lamp.shift = shift) ∧
    (let s := State.reset.onLamp fun l => { l with path := none, primary := { l.primary with state := .failed } }
     Between s ∧ s.pins.lampCurrent = .normal ∧ s.heat.state = .standby ∧ s.lamp.path ≠ some .spare ∧
       (s.lamp.record .spare).state = .good ∧ s.lamp.shift = none ∧ (s.lamp.record .primary).state ≠ .active) := by decide

theorem witness_TheFanKeepsItsFloor :
    (let s := State.reset.onHeat fun h => { h with fan := 0, fanDuty := 0 }
     LineFree s ∧ s.lamp.primary.state ∈ [LampState.good, .active] ∧ s.heat.state = .standby ∧ s.heat.fan = 0 ∧
       s.lamp.duty = 0) ∧
    (let s := (litAt 900 3317).onHeat fun h => { h with fan := 1, fanDuty := 1200 }
     LineFree s ∧ s.heat.state = .on ∧ s.heat.fan < 2) := by decide

theorem witness_TheTapeStopsFromEveryState :
    ∀ q ∈ [(TapeState.stopped, TapeMotor.off), (.paused, .off), (.playing, .play), (.cueRecord, .play), (.windingFwd, .fwd),
        (.windingRev, .rev)],
      let s := (tapeIn q.1 q.2 5).onCue fun c => { c with detecting := q.1.listening }
      LineFree s ∧ s.tape.state ≠ .noTape ∧ s.tape.locate = none ∧ s.tape.state ≠ .locating ∧ s.cue.writer = none ∧
        s.cue.detecting = s.tape.state.listening ∧ CueQuiet s.cue ∧ s.tape.present = true ∧
        (s.tape.motor.direction ≠ none ∨ s.tape.state = .stopped ∨ s.tape.state = .paused) := by decide

theorem witness_PlayUnderAPauseReason :
    (∀ q ∈ [(TapeState.stopped, TapeMotor.off), (.paused, .off), (.windingFwd, .fwd)],
      let s := (tapeIn q.1 q.2 5).onTape fun t => { t with reasons := ⟨false, true, false⟩ }
      LineFree s ∧ s.tape.state ≠ .noTape ∧ s.supplyLow = false ∧ s.tape.locate = none ∧ s.cue.writer = none ∧
        s.cue.detecting = s.tape.state.listening ∧ CueQuiet s.cue ∧ s.tape.endFlag ≠ .fwd ∧
        s.tape.reasons ≠ ⟨false, false, false⟩ ∧
        (s.tape.motor.direction = some .forward ∨ (s.tape.motor = .off ∧ s.tape.lastDir = .forward))) ∧
    (let s := (tapeIn .stopped .off 5).onTape fun t => { t with guard := some .playing, reasons := ⟨true, false, false⟩ }
     Between s ∧ s.tape.motor = .off ∧ s.tape.state = .stopped ∧ s.tape.guard = some .playing ∧
       s.tape.reasons ≠ ⟨false, false, false⟩) := by decide

theorem witness_ABurstIsAbandoned :
    (let s := (tapeIn .cueRecord .play 2204).onCue fun c => { c with writer := some writing, detecting := true }
     s.cue.writer = some writing ∧ LineFree s ∧ s.tape.state = .cueRecord ∧ s.tape.motor = .play ∧ s.tape.locate = none ∧
       s.cue.detecting = true ∧ CueQuiet s.cue ∧ s.tape.endFlag = .none ∧ s.supplyLow = false ∧
       s.tape.reasons = ⟨false, false, false⟩ ∧ s.tape.present = true) := by decide

theorem witness_ACueWaitsOrStopsTheTape :
    let acts (a : CueAction) (s : State) : State :=
      ((hearing 13 (.burst (burst 5 false)) s).onCue fun c => { c with map := Vector.replicate 6 a }).onTriggers fun t =>
        { t with perms := Vector.replicate 20 .act }
    let met (a : CueAction) (s : State) : Prop := Between s ∧ s.cue.units[0].window = some (window 13) ∧
      (∀ e : Fin 3, s.cue.units[e].awaiting = []) ∧ (window 13).count < (window 13).low ∧
      s.cue.units[0].classifier = .burst (burst 5 false) ∧ s.triggers.perm .cue s.mode = .act ∧
      s.cue.action ⟨0, .short⟩ = a
    (let s := acts .next (runningShow .running [plainStep .cue] (inStep 1 .fadingIn))
     met .next s ∧ s.mode = .show ∧ s.engine.execution.map Execution.phase ≠ some .settled ∧ s.triggers.queue.length < 8 ∧
       s.triggers.hold = false ∧ s.triggers.queue.length + 1 < s.triggers.holdAt) ∧
    (met .tapeStop (acts .tapeStop (tapeIn .noTape .off 5)) ∧ (tapeIn .noTape .off 5).tape.state = .noTape) ∧
    (∀ st ∈ [TapeState.playing, .cueRecord],
      let s := (acts .tapeStop (tapeIn st .play 5)).onCue fun c => { c with detecting := true }
      met .tapeStop s ∧ s.tape.state = st ∧ s.cue.writer = none ∧ s.tape.motor = .play ∧ s.tape.locate = none ∧
        s.cue.detecting = true ∧ (∀ e : Fin 3, e ≠ 0 → s.cue.units[e].classifier = .quiet)) := by
  dsimp only; and_intros <;> decide

/-! ### The invariants: a state with each of them, in which a step answers a next state -/

theorem witness_invariants_of_the_line_and_the_lamp :
    LineOk (litAt 900 3317) ∧ ActiveAtPath (litAt 900 3317).lamp ∧ DarkIsDark (litAt 900 3317) ∧
      GuardedIsDark (litAt 900 3317) ∧ CurveRises (litAt 900 3317).lamp.curve := by decide

theorem witness_invariants_of_the_motors :
    ChangerOk (trayDriven .rotating) ∧ TapeOk (tapeIn .playing .play 5) := by decide

theorem witness_SupplyLowShedsThePowerStage :
    let s := ((restingAt 5).onFaults fun f => { f with supply := .low }).onChanger (fun c => { c with state := .halted, held := some .idle })
      |>.onTape fun t => { t with reasons := ⟨false, false, true⟩ }
    ChangerOk s ∧ TapeOk s ∧ s.supplyLow = true ∧ LampShed s.lamp ∧ ChangerStopped s.changer ∧ TapeStopped s.tape ∧
      s.keys.focus = none ∧ s.cue.writer = none := by decide

theorem witness_invariants_of_the_show :
    QueueOk dwellShow ∧ NoRecordingInAShow dwellShow ∧ ShowOk dwellShow.engine ∧ FaultLineOk (withFault .jam false true State.reset) ∧
      HeatOk State.reset.heat ∧ CueLogOk State.reset.cue := by decide

theorem witness_TheFaultLineFollowsTheRecords :
    let s := withFault .jam false true State.reset
    Between s ∧ QueueOk s ∧ FaultLineOk s := by decide

theorem witness_steps_answer : step State.reset = .next (tick State.reset) := rfl

theorem witness_a_tick_moves_the_clock : (tick State.reset).now = 4 := by decide

end Sys2Proof.Tests
end

/-! ## The changer and its sensors, apart from everything else -/

namespace Sys2Proof.Machine

/-- What the changer works with: its own state, the two arm switches, the barrier and the state of the supply monitor. -/
structure Rig where
  changer : Changer
  topSwitch : Bool
  seatSwitch : Bool
  barrier : Bool
  supply : SupplyState

/-- The rig of a state. -/
def State.rig (s : State) : Rig :=
  ⟨s.changer, s.pins.topSwitch, s.pins.seatSwitch, s.pins.barrier, s.faults.supply⟩

@[simp] theorem State.rig_changer (s : State) : s.rig.changer = s.changer := rfl
@[simp] theorem State.rig_supply (s : State) : s.rig.supply = s.faults.supply := rfl

section
variable (s : State)
@[simp] theorem State.onLine_rig (f : Line → Line) : (s.onLine f).rig = s.rig := rfl
@[simp] theorem State.onLamp_rig (f : Lamp → Lamp) : (s.onLamp f).rig = s.rig := rfl
@[simp] theorem State.onHeat_rig (f : Heat → Heat) : (s.onHeat f).rig = s.rig := rfl
@[simp] theorem State.onTape_rig (f : Tape → Tape) : (s.onTape f).rig = s.rig := rfl
@[simp] theorem State.onCue_rig (f : Cue → Cue) : (s.onCue f).rig = s.rig := rfl
@[simp] theorem State.onKeys_rig (f : Keys → Keys) : (s.onKeys f).rig = s.rig := rfl
@[simp] theorem State.onEngine_rig (f : Engine → Engine) : (s.onEngine f).rig = s.rig := rfl
@[simp] theorem State.onExec_rig (f : Execution → Execution) : (s.onExec f).rig = s.rig := rfl
@[simp] theorem State.onTriggers_rig (f : Triggers → Triggers) : (s.onTriggers f).rig = s.rig := rfl
@[simp] theorem State.onFaults_change_rig (k : FaultKind) (f : FaultRecord → FaultRecord) :
    (s.onFaults (Faults.change k f)).rig = s.rig := rfl
@[simp] theorem State.emit_rig (sig : Signal) : (s.emit sig).rig = s.rig := rfl
@[simp] theorem State.report_rig (cls : ReportClass) (fields : List Field) : (s.report cls fields).rig = s.rig := rfl
@[simp] theorem State.signals_rig (l : List Signal) : State.rig { s with signals := l } = s.rig := rfl
@[simp] theorem refuse_fst (why : RefusalWord) (verb : String) : (refuse why verb s).1 = s := rfl
@[simp] theorem accept_fst (verb : String) (fields : List Field) : (accept verb fields s).1 = s := rfl

/-- A pin that is neither an arm switch nor the barrier. -/
theorem State.onPins_rig {f : Pins → Pins} (ht : (f s.pins).topSwitch = s.pins.topSwitch)
    (hs : (f s.pins).seatSwitch = s.pins.seatSwitch) (hb : (f s.pins).barrier = s.pins.barrier) :
    (s.onPins f).rig = s.rig := by
  simp [State.rig, ht, hs, hb]
end

/-! ### The fault list -/

section
variable (s : State)
@[simp] theorem evaluateFaultLine_rig : (evaluateFaultLine s).rig = s.rig := rfl
@[simp] theorem reportFault_rig (k : FaultKind) (fields : List Field) : (reportFault k fields s).rig = s.rig := rfl
@[simp] theorem reportRaised_rig (k : FaultKind) : (reportRaised k s).rig = s.rig := rfl
@[simp] theorem setLatch_rig (k : FaultKind) : (setLatch k s).rig = s.rig := by
  unfold setLatch; split
  · rfl
  · dsimp only; split <;> rfl
@[simp] theorem tellLatch_rig (k : FaultKind) : (tellLatch k s).rig = s.rig := setLatch_rig s k
@[simp] theorem tellPresent_rig (k : FaultKind) (detail : Option FaultDetail) : (tellPresent k detail s).rig = s.rig := by
  unfold tellPresent; dsimp only; split
  · rfl
  · split <;> simp
@[simp] theorem releaseLatch_rig (k : FaultKind) (word : String) : (releaseLatch k word s).rig = s.rig := by
  unfold releaseLatch; dsimp only; split <;> rfl
@[simp] theorem tellGone_rig (k : FaultKind) : (tellGone k s).rig = s.rig := by
  unfold tellGone; dsimp only; split
  · rfl
  · split
    · split <;> simp
    · split <;> simp
@[simp] theorem tellTripRetried_rig : (tellTripRetried s).rig = s.rig := by
  unfold tellTripRetried; split <;> simp
@[simp] theorem doFaultmodeSet_rig (k : FaultKind) (m : FaultMode) : (doFaultmodeSet k m s).1.rig = s.rig := by
  unfold doFaultmodeSet; split
  · rfl
  · dsimp only; split <;> simp
end

/-! ### The lamp's duty -/

section
variable (s : State)
@[simp] theorem checkOpen_rig : (checkOpen s).rig = s.rig := by rw [checkOpen_frame]; rfl
@[simp] theorem checkShort_rig : (checkShort s).rig = s.rig := by unfold checkShort; split <;> simp
@[simp] theorem checkLampCurrent_rig : (checkLampCurrent s).rig = s.rig := by simp [checkLampCurrent]
@[simp] theorem recomputeAtUpdate_rig : (recomputeAtUpdate s).rig = s.rig := by simp [recomputeAtUpdate]
@[simp] theorem dutyAtOnce_rig : (dutyAtOnce s).rig = s.rig := by simp [dutyAtOnce]
@[simp] theorem lampSeesOccupancy_rig (old : Occupancy) : (lampSeesOccupancy old s).rig = s.rig := by
  unfold lampSeesOccupancy; dsimp only; split <;> split <;> (try split) <;> simp
end

/-! ### The heat and power unit -/

section
variable (s : State)
@[simp] theorem setFan_rig (step : Fin 5) : (setFan step s).rig = s.rig := by unfold setFan; split <;> simp
@[simp] theorem publishLimit_rig (n : Nat) : (publishLimit n s).rig = s.rig := rfl
@[simp] theorem beginRise_rig : (beginRise s).rig = s.rig := rfl
@[simp] theorem enterPower_rig (new : PowerState) : (enterPower new s).rig = s.rig := by
  unfold enterPower; dsimp only; split <;> simp
@[simp] theorem reportPower_rig : (reportPower s).rig = s.rig := rfl
@[simp] theorem enterCooldown_rig : (enterCooldown s).rig = s.rig := by simp [enterCooldown]
@[simp] theorem relight_rig : (relight s).rig = s.rig := by unfold relight; split <;> simp
@[simp] theorem heatTripCleared_rig : (heatTripCleared s).rig = s.rig := by unfold heatTripCleared; split <;> simp
@[simp] theorem stepRise_rig : (stepRise s).rig = s.rig := by
  unfold stepRise; split
  · rfl
  · dsimp only; split
    · split <;> simp
    · simp
@[simp] theorem judgeTach_rig : (judgeTach s).rig = s.rig := by
  unfold judgeTach; dsimp only; split
  · rfl
  · split <;> split <;> simp
@[simp] theorem sampleSensor_rig (reading : Int) : (sampleSensor reading s).rig = s.rig := by
  unfold sampleSensor; dsimp only; split
  · simp [State.onPins_rig]
  · split <;> simp [State.onPins_rig]
@[simp] theorem updateEstimate_rig : (updateEstimate s).rig = s.rig := rfl
@[simp] theorem judgeWarn_rig : (judgeWarn s).rig = s.rig := by
  unfold judgeWarn; dsimp only; split
  · simp
  · split <;> simp
@[simp] theorem tellTrip_rig : (tellTrip s).rig = s.rig := by simp [tellTrip]
@[simp] theorem judgeTrip_rig : (judgeTrip s).rig = s.rig := by unfold judgeTrip; dsimp only; split <;> simp
@[simp] theorem judgeAfterRun_rig : (judgeAfterRun s).rig = s.rig := by
  unfold judgeAfterRun; split
  · dsimp only; split <;> simp
  · rfl
@[simp] theorem retryTrip_rig : (retryTrip s).rig = s.rig := by unfold retryTrip; dsimp only; split <;> simp
/-- R90: the count of the recovery, before the retry that it may lead to, leaves the rig. -/
@[simp] theorem judgeRecovery_rig : (judgeRecovery s).rig = s.rig := by
  unfold judgeRecovery; dsimp only; split
  · rfl
  · split
    · split <;> split <;> (try split) <;> simp
    · split <;> split <;> simp
@[simp] theorem updateFan_rig : (updateFan s).rig = s.rig := by simp [updateFan]
@[simp] theorem publishCaps_rig : (publishCaps s).rig = s.rig := rfl
@[simp] theorem runPeriod_rig (reading : Int) : (runPeriod reading s).rig = s.rig := by simp [runPeriod]
@[simp] theorem countTach_rig : (countTach s).rig = s.rig := rfl
@[simp] theorem doPowerOn_rig : (doPowerOn s).1.rig = s.rig := by
  unfold doPowerOn; dsimp only; split <;> (try split) <;> simp
@[simp] theorem doPowerOff_rig : (doPowerOff s).1.rig = s.rig := by unfold doPowerOff; dsimp only; split <;> simp
@[simp] theorem softResetHeat_rig : (softResetHeat s).rig = s.rig := by
  unfold softResetHeat; dsimp only; split <;> split <;> simp
@[simp] theorem retellHeat_rig : (retellHeat s).rig = s.rig := by
  unfold retellHeat; dsimp only; split <;> split <;> split <;> simp
end

/-! ### The lamp controller -/

section
variable (s : State)
@[simp] theorem rampCompletes_rig : (rampCompletes s).rig = s.rig := rfl
@[simp] theorem rampRequest_rig (level duration : Nat) (origin : RampOrigin) :
    (rampRequest level duration origin s).rig = s.rig := by
  unfold rampRequest; dsimp only; split <;> simp
@[simp] theorem toggleLamp_rig : (toggleLamp s).rig = s.rig := by simp [toggleLamp]
@[simp] theorem advanceRamp_rig : (advanceRamp s).rig = s.rig := by
  unfold advanceRamp; dsimp only; split
  · rfl
  · split <;> simp
@[simp] theorem advanceDwell_rig : (advanceDwell s).rig = s.rig := by
  unfold advanceDwell; dsimp only; split <;> split <;> simp
@[simp] theorem runUpdate_rig : (runUpdate s).rig = s.rig := by simp [runUpdate]
@[simp] theorem dwellSeesCompletion_rig (occ : Occupancy) : (dwellSeesCompletion occ s).rig = s.rig := by
  rw [(dwellSeesCompletion_frame occ s).1]; rfl
@[simp] theorem setGuard_rig (on : Bool) : (setGuard on s).rig = s.rig := by
  unfold setGuard; dsimp only; split
  · rfl
  · split <;> simp
@[simp] theorem makeActive_rig (pos : LampPos) : (makeActive pos s).rig = s.rig := by simp [makeActive]
@[simp] theorem takePath_rig : (takePath s).rig = s.rig := by
  unfold takePath; split <;> (try split) <;> simp
@[simp] theorem startShift_rig (target : LampPos) : (startShift target s).rig = s.rig := by simp [startShift]
@[simp] theorem lampFails_rig : (lampFails s).rig = s.rig := by
  unfold lampFails; split
  · rfl
  · dsimp only; split
    · rfl
    · split <;> simp
@[simp] theorem leavePath_rig : (leavePath s).rig = s.rig := by
  unfold leavePath; split <;> (try split) <;> simp
@[simp] theorem switchMoves_rig (position : Option LampPos) : (switchMoves position s).rig = s.rig := by
  unfold switchMoves; dsimp only; split
  · rfl
  · split
    · simp [State.onPins_rig]
    · split <;> simp [State.onPins_rig]
@[simp] theorem shiftFails_rig : (shiftFails s).rig = s.rig := by
  unfold shiftFails; split
  · rfl
  · split
    · rfl
    · dsimp only; split <;> simp
@[simp] theorem currentMoves_rig (current : LampCurrent) : (currentMoves current s).rig = s.rig := by
  unfold currentMoves; dsimp only; split <;> simp [State.onPins_rig]
@[simp] theorem lampSupplyLow_rig : (lampSupplyLow s).rig = s.rig := by simp [lampSupplyLow]
@[simp] theorem lampSupplyGood_rig : (lampSupplyGood s).rig = s.rig := by simp [lampSupplyGood]
@[simp] theorem lampShortCleared_rig : (lampShortCleared s).rig = s.rig := by unfold lampShortCleared; split <;> simp
@[simp] theorem lampShiftCleared_rig : (lampShiftCleared s).rig = s.rig := by unfold lampShiftCleared; split <;> simp
@[simp] theorem doLamp_rig (level : Int) (fade : Option Int) : (doLamp level fade s).1.rig = s.rig := by
  unfold doLamp; split <;> simp
@[simp] theorem doCurveLoad_rig (i duty : Int) : (doCurveLoad i duty s).1.rig = s.rig := by
  unfold doCurveLoad; split
  · rfl
  · split
    · rfl
    · split <;> simp
@[simp] theorem doCurveRead_rig (i : Int) : (doCurveRead i s).1.rig = s.rig := by unfold doCurveRead; split <;> rfl
@[simp] theorem doLampmodShift_rig : (doLampmodShift s).1.rig = s.rig := by
  unfold doLampmodShift; split
  · rfl
  · split
    · rfl
    · split
      · rfl
      · split <;> simp
@[simp] theorem replaceLamp_rig (pos : LampPos) : (replaceLamp pos s).rig = s.rig := by
  unfold replaceLamp; dsimp only; split <;> split <;> simp
@[simp] theorem doLampmodReplace_rig (pos : LampPos) : (doLampmodReplace pos s).1.rig = s.rig := by
  unfold doLampmodReplace; split <;> simp
@[simp] theorem doLampmodRemove_rig (pos : LampPos) : (doLampmodRemove pos s).1.rig = s.rig := by
  unfold doLampmodRemove; split
  · rfl
  · split <;> simp
end

/-! ### The transport controller -/

section
variable (s : State)
@[simp] theorem moveTape_rig (new : TapeState) (hold : Bool) : (moveTape new hold s).rig = s.rig := by
  rw [moveTape_frame]; rfl
@[simp] theorem moveTapeTold_rig (new : TapeState) (hold : Bool) : (moveTapeTold new hold s).rig = s.rig := by
  rw [moveTapeTold_frame]; rfl
@[simp] theorem enterDriven_rig (st : TapeState) : (enterDriven st s).rig = s.rig := by unfold enterDriven; split <;> simp
@[simp] theorem startTape_rig (st : TapeState) : (startTape st s).rig = s.rig := by
  unfold startTape; split <;> (try split) <;> simp
@[simp] theorem endLocate_rig (outcome : LocateOutcome) : (endLocate outcome s).rig = s.rig := by
  unfold endLocate; split
  · rfl
  · dsimp only; split <;> simp
@[simp] theorem arrive_rig (l : Locate) : (arrive l s).rig = s.rig := by
  unfold arrive; dsimp only; split <;> simp
@[simp] theorem approach_rig (l : Locate) : (approach l s).rig = s.rig := by
  unfold approach; dsimp only; split <;> simp
@[simp] theorem startLocate_rig (target : Int) (play : Bool) (origin : LocateOrigin) :
    (startLocate target play origin s).rig = s.rig := by
  unfold startLocate; dsimp only; split
  · simp
  · split <;> simp
@[simp] theorem locateRequest_rig (target : Int) (play : Bool) (origin : LocateOrigin) :
    (locateRequest target play origin s).1.rig = s.rig := by
  unfold locateRequest; dsimp only; split <;> simp
@[simp] theorem stopTape_rig (new : TapeState) : (stopTape new s).rig = s.rig := by simp [stopTape]
@[simp] theorem startCommand_rig (st : TapeState) : (startCommand st s).rig = s.rig := by
  unfold startCommand; dsimp only; split <;> simp
@[simp] theorem runTapeCommand_rig (c : TapeCommand) : (runTapeCommand c s).rig = s.rig := by
  cases c <;> simp [runTapeCommand]
@[simp] theorem tapeCommand_rig (c : TapeCommand) : (tapeCommand c s).1.rig = s.rig := by
  unfold tapeCommand; split <;> simp
@[simp] theorem tapeSeesRunning_rig : (tapeSeesRunning s).rig = s.rig := by
  unfold tapeSeesRunning; dsimp only; split <;> simp
@[simp] theorem restReached_rig : (restReached s).rig = s.rig := by
  unfold restReached; split
  · rfl
  · dsimp only; split
    · simp
    · split <;> simp
    · rfl
@[simp] theorem reelPulse_rig : (reelPulse s).rig = s.rig := by
  unfold reelPulse; split
  · rfl
  · dsimp only; split <;> (try split) <;> simp
@[simp] theorem tapeEnds_rig : (tapeEnds s).rig = s.rig := by unfold tapeEnds; split <;> simp
@[simp] theorem tapeRemoved_rig : (tapeRemoved s).rig = s.rig := by
  unfold tapeRemoved; dsimp only; split <;> simp [State.onPins_rig]
@[simp] theorem tapeInserted_rig : (tapeInserted s).rig = s.rig := by
  unfold tapeInserted; dsimp only; split <;> simp [State.onPins_rig]
@[simp] theorem holdTape_rig : (holdTape s).rig = s.rig := by unfold holdTape; split <;> simp
@[simp] theorem reasonGone_rig : (reasonGone s).rig = s.rig := by unfold reasonGone; split <;> simp
@[simp] theorem queueHolds_rig : (queueHolds s).rig = s.rig := by unfold queueHolds; split <;> simp
@[simp] theorem queueReleases_rig : (queueReleases s).rig = s.rig := by unfold queueReleases; split <;> simp
@[simp] theorem volCompletes_rig : (volCompletes s).rig = s.rig := by unfold volCompletes; dsimp only; split <;> simp
@[simp] theorem volRequest_rig (target duration : Nat) (origin : VolOrigin) :
    (volRequest target duration origin s).rig = s.rig := by
  unfold volRequest; dsimp only; split <;> simp
@[simp] theorem advanceVol_rig : (advanceVol s).rig = s.rig := by
  unfold advanceVol; dsimp only; split
  · rfl
  · split <;> simp
@[simp] theorem runVolumeUpdate_rig : (runVolumeUpdate s).rig = s.rig := by simp [runVolumeUpdate]
@[simp] theorem setMute_rig (on : Bool) : (setMute on s).rig = s.rig := by unfold setMute; split <;> simp
@[simp] theorem showHolds_rig : (showHolds s).rig = s.rig := by simp [showHolds]
@[simp] theorem showReleases_rig : (showReleases s).rig = s.rig := by unfold showReleases; dsimp only; split <;> simp
@[simp] theorem tapeSupplyLow_rig : (tapeSupplyLow s).rig = s.rig := by
  unfold tapeSupplyLow; dsimp only; split <;> (try split) <;> simp
@[simp] theorem tapeSupplyGood_rig : (tapeSupplyGood s).rig = s.rig := by unfold tapeSupplyGood; split <;> simp
/-- R118: a command of the line leaves the rig. -/
@[simp] theorem doTape_rig (c : TapeCommand) : (doTape c s).1.rig = s.rig := by
  have h := tapeCommand_rig s c
  unfold doTape; split <;> simp_all
@[simp] theorem doLocate_rig (count : Int) (play : Bool) : (doLocate count play s).1.rig = s.rig := by
  have h := locateRequest_rig s count play .line
  unfold doLocate; split <;> simp_all
@[simp] theorem doZero_rig : (doZero s).1.rig = s.rig := by unfold doZero; split <;> rfl
@[simp] theorem doVol_rig (level : Int) (fade : Option Int) : (doVol level fade s).1.rig = s.rig := by
  unfold doVol; split <;> simp
@[simp] theorem doMute_rig (on : Bool) : (doMute on s).1.rig = s.rig := by simp [doMute]
end

/-! ### The trigger queue -/

section
variable (s : State)
@[simp] theorem judge_rig (source : Source) : (judge source s).1.rig = s.rig := by rw [judge_frame]; rfl
@[simp] theorem enterRecord_rig (source : Source) (kind : TriggerKind) (detail : Option TriggerDetail) :
    (enterRecord source kind detail s).1.rig = s.rig := by
  rw [enterRecord_frame]; rfl
@[simp] theorem reviewHold_rig : (reviewHold s).rig = s.rig := by
  unfold reviewHold; dsimp only; split
  · simp
  · split <;> simp
@[simp] theorem flushQueue_rig : (flushQueue s).rig = s.rig := by unfold flushQueue; dsimp only; split <;> simp
@[simp] theorem queueSeesShow_rig (new : ShowState) : (queueSeesShow new s).rig = s.rig := by
  unfold queueSeesShow; dsimp only; split <;> simp
@[simp] theorem enterFromLine_rig (verb : String) (kind : TriggerKind) (first : List Field) :
    (enterFromLine verb kind first s).1.rig = s.rig := by simp [enterFromLine]
@[simp] theorem doTrigger_rig (verb : String) (kind : TriggerKind) : (doTrigger verb kind s).1.rig = s.rig := by
  unfold doTrigger; split
  · rfl
  · split <;> simp
@[simp] theorem doJump_rig (n : Int) : (doJump n s).1.rig = s.rig := by
  unfold doJump; split
  · rfl
  · split
    · rfl
    · split <;> simp
@[simp] theorem doPermitSet_rig (source : Source) (mode : Mode) (value : Perm) :
    (doPermitSet source mode value s).1.rig = s.rig := by
  unfold doPermitSet; split <;> rfl
end

/-! ### The cue unit -/

section
variable (s : State)
@[simp] theorem startDetection_rig : (startDetection s).rig = s.rig := rfl
@[simp] theorem countCrossing_rig (d : Detector) : (countCrossing d s).rig = s.rig := rfl
@[simp] theorem logEntry_rig (y : Symbol) (disposition : Option Disposition) : (logEntry y disposition s).rig = s.rig := by
  simp [logEntry]
@[simp] theorem cueStopsTape_rig : (cueStopsTape s).1.rig = s.rig := tapeCommand_rig s .stop
@[simp] theorem setClassifier_rig (d : Detector) (k : Classifier) : (setClassifier d k s).rig = s.rig := rfl
@[simp] theorem settledHit_rig (d : Detector) (r : RawResult) : (settledHit d r s).rig = s.rig := by
  unfold settledHit; dsimp only; split <;> (try split) <;> simp
@[simp] theorem reachInstant_rig (time : Nat) : (reachInstant time s).rig = s.rig := rfl
@[simp] theorem windowEnds_rig (d : Detector) : (windowEnds d s).rig = s.rig := by unfold windowEnds; split <;> simp
@[simp] theorem stopDetection_rig : (stopDetection s).rig = s.rig := by simp [stopDetection, detectors]
@[simp] theorem writerStops_rig (w : Writing) (n : Nat) : (writerStops w n s).rig = s.rig := rfl
@[simp] theorem abandonWrite_rig : (abandonWrite s).rig = s.rig := by unfold abandonWrite; split <;> simp
@[simp] theorem writeCompletes_rig : (writeCompletes s).rig = s.rig := by unfold writeCompletes; split <;> simp
@[simp] theorem startWrite_rig (y : Symbol) : (startWrite y s).rig = s.rig := by simp [startWrite]
@[simp] theorem keyWrite_rig (len : LengthClass) (action : CueAction) : (keyWrite len action s).1.rig = s.rig := by
  unfold keyWrite; dsimp only; split <;> simp
@[simp] theorem cueSeesTape_rig (old new : TapeState) : (cueSeesTape old new s).rig = s.rig := by
  unfold cueSeesTape; dsimp only; split <;> split <;> split <;> simp
@[simp] theorem doTone_rig (d : Int) (items : List ToneItem) : (doTone d items s).1.rig = s.rig := by
  unfold doTone; split
  · rfl
  · split <;> (try split) <;> simp
@[simp] theorem doCuemapSet_rig (d : Int) (len : LengthClass) (action : CueAction) :
    (doCuemapSet d len action s).1.rig = s.rig := by
  unfold doCuemapSet; split <;> rfl
@[simp] theorem doCuemapRead_rig (d : Int) (len : LengthClass) : (doCuemapRead d len s).1.rig = s.rig := by
  unfold doCuemapRead; split <;> rfl
@[simp] theorem doCuewrite_rig (d : Int) (len : LengthClass) : (doCuewrite d len s).1.rig = s.rig := by
  unfold doCuewrite; split <;> (try split) <;> simp
@[simp] theorem doCuelog_rig (n before : Option Int) : (doCuelog n before s).1.rig = s.rig := by
  unfold doCuelog; split <;> rfl
end

end Sys2Proof.Machine

namespace Sys2Proof.Machine

/-! ## The motor discipline of a rig -/

/-- R20: the gate record follows the switches, the barrier and the gate motor's drive. -/
def Rig.Follows (r : Rig) : Prop :=
  r.changer.arm = armOf r.topSwitch r.seatSwitch r.changer.gateDrive.isSome ∧
    r.changer.occupancy = occupancyOf r.changer.arm r.barrier

/-- The invariant of the changer, as a property of the rig. -/
def Rig.InOrder (r : Rig) : Prop :=
  r.Follows ∧ MotorsDisciplined r.changer ∧ NoTrayMeansNone r.changer ∧ StartsAreWanted r.changer

/-- R20, R23: the gate record is right, both motors are off and no start waits. -/
def Rig.Off (r : Rig) : Prop :=
  r.Follows ∧ r.changer.trayDrive = none ∧ r.changer.gateDrive = none ∧ r.changer.startDue = false

/-- R23: the rig is in order with both motors off and no start waiting. -/
def Rig.Stopped (r : Rig) : Prop := r.Off ∧ NoTrayMeansNone r.changer

theorem State.rig_inOrder_iff (s : State) : s.rig.InOrder ↔ ChangerOk s := Iff.rfl

theorem Rig.Stopped.inOrder {r : Rig} (h : r.Stopped) : r.InOrder := by
  obtain ⟨⟨hf, ht, hg, hd⟩, hn⟩ := h
  exact ⟨hf, by simp [MotorsDisciplined, ht, hg], hn, by simp [StartsAreWanted, hd]⟩

/-- R23: where the state calls for no drive, the motors are off and no start waits. -/
theorem Rig.InOrder.stopped {r : Rig} (h : r.InOrder) (hw : r.changer.wanted = none) : r.Stopped := by
  obtain ⟨hf, ⟨hm, hg⟩, hn, hd⟩ := h
  exact ⟨⟨hf, by simpa [hw] using hm, by simpa [hw] using hg, by simpa [StartsAreWanted, hw] using hd⟩, hn⟩

/-- R23: where the state calls for the tray motor, the gate motor is off. -/
theorem Rig.InOrder.gate_off {r : Rig} (h : r.InOrder) {d : Direction} (hw : r.changer.wanted = some (.tray d)) :
    r.changer.gateDrive = none := by
  by_contra hg
  simpa [hw, Drive.motor] using (h.2.1.2 (Option.isSome_iff_ne_none.2 hg)).2.1

/-- R23: where the state calls for the gate motor, the tray motor is off. -/
theorem Rig.InOrder.tray_off {r : Rig} (h : r.InOrder) {a : ArmDrive} (hw : r.changer.wanted = some (.gate a)) :
    r.changer.trayDrive = none := by
  by_contra hg
  simpa [hw, Drive.motor] using (h.2.1.1 (Option.isSome_iff_ne_none.2 hg)).2.2.1

/-- A change of the changer that leaves its gate record, its motors and the waiting start. -/
theorem Rig.Off.of_changer {s : State} (h : s.rig.Off) {f : Changer → Changer}
    (ha : (f s.changer).arm = s.changer.arm := by rfl) (ho : (f s.changer).occupancy = s.changer.occupancy := by rfl)
    (ht : (f s.changer).trayDrive = s.changer.trayDrive := by rfl)
    (hg : (f s.changer).gateDrive = s.changer.gateDrive := by rfl)
    (hd : (f s.changer).startDue = s.changer.startDue := by rfl) : (s.onChanger f).rig.Off := by
  simpa [Rig.Off, Rig.Follows, State.rig, ha, ho, ht, hg, hd] using h

/-- A change of the changer that leaves its gate record, its motors and dead times, the waiting start, and what the state
calls for. -/
theorem Rig.InOrder.of_changer {s : State} (h : s.rig.InOrder) {f : Changer → Changer}
    (hw : (f s.changer).wanted.map Drive.motor = s.changer.wanted.map Drive.motor) (hn : NoTrayMeansNone (f s.changer))
    (ha : (f s.changer).arm = s.changer.arm := by rfl) (ho : (f s.changer).occupancy = s.changer.occupancy := by rfl)
    (ht : (f s.changer).trayDrive = s.changer.trayDrive := by rfl)
    (hg : (f s.changer).gateDrive = s.changer.gateDrive := by rfl)
    (htd : (f s.changer).trayDead = s.changer.trayDead := by rfl)
    (hgd : (f s.changer).gateDead = s.changer.gateDead := by rfl)
    (hd : (f s.changer).startDue = s.changer.startDue := by rfl) : (s.onChanger f).rig.InOrder := by
  obtain ⟨hf, hm, -, hs⟩ := h
  have hw' : (f s.changer).wanted.isSome = s.changer.wanted.isSome := by
    rw [← Option.isSome_map (f := Drive.motor), hw, Option.isSome_map]
  refine ⟨?_, ?_, hn, ?_⟩
  · simpa [Rig.Follows, State.rig, ha, ho, hg] using hf
  · simpa [MotorsDisciplined, ha, ht, hg, htd, hgd, hw] using hm
  · simpa [StartsAreWanted, hd, hw'] using hs

/-- R41, R43: the state, or the one that HALTED interrupted, is another than NO_TRAY. -/
theorem noTrayMeansNone_of_ne {c : Changer} (h : c.heldOrState ≠ .noTray) : NoTrayMeansNone c := fun h' => absurd h' h

/-- R43: outside HALTED the state is the one that counts. -/
theorem Changer.heldOrState_of_ne {c : Changer} (h : c.state ≠ .halted) : c.heldOrState = c.state := by
  unfold Changer.heldOrState; split <;> simp_all

/-! ## The motors -/

/-- R20: the gate record alone is refreshed in the rig. -/
theorem refreshGate_rig (s : State) :
    (refreshGate s).rig = { s.rig with changer := { s.changer with
      arm := armOf s.pins.topSwitch s.pins.seatSwitch s.changer.gateDrive.isSome
      occupancy := occupancyOf (armOf s.pins.topSwitch s.pins.seatSwitch s.changer.gateDrive.isSome) s.pins.barrier } } := by
  unfold refreshGate
  dsimp only
  split
  · rfl
  · rw [lampSeesOccupancy_rig]; rfl

/-- R20: the changer after a refresh. -/
theorem refreshGate_changer (s : State) :
    (refreshGate s).changer = { s.changer with
      arm := armOf s.pins.topSwitch s.pins.seatSwitch s.changer.gateDrive.isSome
      occupancy := occupancyOf (armOf s.pins.topSwitch s.pins.seatSwitch s.changer.gateDrive.isSome) s.pins.barrier } :=
  congrArg Rig.changer (refreshGate_rig s)

/-- R23: the changer with its motors stopped, before its gate record is refreshed. -/
def Changer.stopped (c : Changer) : Changer :=
  { c with
    trayDrive := none, gateDrive := none
    trayDead := if c.trayDrive.isSome then some 0 else c.trayDead
    gateDead := if c.gateDrive.isSome then some 0 else c.gateDead
    startDue := false, blanking := none, deglitch := none }

theorem stopMotors_eq (s : State) : stopMotors s = refreshGate (s.onChanger Changer.stopped) := rfl

/-- R23: what the stop of the motors leaves in the rig. -/
theorem stopMotors_rig (s : State) :
    (stopMotors s).rig = { s.rig with changer := { s.changer.stopped with
      arm := armOf s.pins.topSwitch s.pins.seatSwitch false
      occupancy := occupancyOf (armOf s.pins.topSwitch s.pins.seatSwitch false) s.pins.barrier } } := by
  rw [stopMotors_eq, refreshGate_rig]; rfl

theorem stopMotors_changer (s : State) :
    (stopMotors s).changer = { s.changer.stopped with
      arm := armOf s.pins.topSwitch s.pins.seatSwitch false
      occupancy := occupancyOf (armOf s.pins.topSwitch s.pins.seatSwitch false) s.pins.barrier } :=
  congrArg Rig.changer (stopMotors_rig s)

@[simp] theorem stopMotors_state (s : State) : (stopMotors s).changer.state = s.changer.state := by
  rw [stopMotors_changer]; rfl

/-- R23: the motors stop, whatever was driven. -/
theorem stopMotors_off (s : State) : (stopMotors s).rig.Off := by
  rw [stopMotors_rig]; exact ⟨⟨rfl, rfl⟩, rfl, rfl, rfl⟩

theorem stopMotors_stopped {s : State} (h : NoTrayMeansNone s.changer) : (stopMotors s).rig.Stopped := by
  refine ⟨stopMotors_off s, ?_⟩
  rw [stopMotors_rig]; exact h

end Sys2Proof.Machine

namespace Sys2Proof.Machine

/-! ## The phases of a change keep the motor discipline -/

/-- R41, R43: a state that is neither NO_TRAY nor HALTED. -/
theorem noTrayMeansNone_of_state {c : Changer} (hh : c.state ≠ .halted) (hn : c.state ≠ .noTray) : NoTrayMeansNone c :=
  noTrayMeansNone_of_ne (by rw [Changer.heldOrState_of_ne hh]; exact hn)

/-- What the beginning or the end of a phase finds: an end that stops the motors first finds them in order, every other entry
finds them stopped. -/
def Entry.Ready (e : Entry) (s : State) : Prop :=
  match e with
  | .lifted | .zeroFound | .rotated | .dropped => s.rig.InOrder
  | .change | .lift | .homing | .rotate | .drop | .settle | .settled | .parked => s.rig.Stopped

theorem Rig.Stopped.ready {s : State} (h : s.rig.Stopped) (e : Entry) : e.Ready s := by
  cases e <;> first | exact h | exact h.inOrder

theorem Entry.Ready.inOrder {e : Entry} {s : State} (h : e.Ready s) : s.rig.InOrder := by
  cases e <;> first | exact h | exact Rig.Stopped.inOrder h

/-- A phase has begun or ended with the rig in order, and ready for the entry that follows at once. -/
def Continues (r : State × Option Entry) : Prop := r.1.rig.InOrder ∧ ∀ e ∈ r.2, e.Ready r.1

theorem continues_none {s : State} (h : s.rig.InOrder) : Continues (s, none) := ⟨h, by simp⟩

theorem continues_some {e : Entry} {s : State} (h : e.Ready s) : Continues (s, some e) :=
  ⟨h.inOrder, by simpa using h⟩

/-- R23: the motors off, in a state that is neither NO_TRAY nor HALTED. -/
theorem Rig.Off.stopped {r : Rig} (h : r.Off) (hh : r.changer.state ≠ .halted) (hn : r.changer.state ≠ .noTray) :
    r.Stopped := ⟨h, noTrayMeansNone_of_state hh hn⟩

/-- R24: the return to LIFTING stops the motors. -/
theorem returnToLift_stopped {s : State} (h : NoTrayMeansNone s.changer) : (returnToLift s).rig.Stopped := by
  have hs := stopMotors_stopped h
  exact ⟨hs.1.of_changer, hs.2⟩

/-- R23: a tray drive starts with the arm LIFTED, the gate motor off and its own dead time over. -/
theorem tray_drive_inOrder {s : State} (h : s.rig.InOrder) {d : Direction} (hw : s.changer.wanted = some (.tray d))
    (ha : s.changer.arm = .lifted) (htd : s.changer.trayDead = none) (b : Option Nat) :
    (s.onChanger fun c => { c with
      trayDrive := some d, lastDriven := d, blanking := some 0, deglitch := none, startDue := false
      backoffTimer := b }).rig.InOrder := by
  have hg : s.changer.gateDrive = none := h.gate_off hw
  obtain ⟨hf, -, hn, -⟩ := h
  refine ⟨hf, ⟨fun _ => ⟨hg, ha, ?_, htd⟩, ?_⟩, hn, by simp [StartsAreWanted]⟩
  · exact congrArg (Option.map Drive.motor) hw
  · simp [hg]

/-- R23: a gate drive starts with the tray motor off and its own dead time over. -/
theorem gate_drive_inOrder {s : State} (h : s.rig.InOrder) {a : ArmDrive} (hw : s.changer.wanted = some (.gate a))
    (hgd : s.changer.gateDead = none) (b : Option Nat) :
    (refreshGate (s.onChanger fun c => { c with
      gateDrive := some a, blanking := some 0, deglitch := none, startDue := false, backoffTimer := b })).rig.InOrder := by
  have ht : s.changer.trayDrive = none := h.tray_off hw
  rw [refreshGate_rig]
  refine ⟨⟨rfl, rfl⟩, ⟨?_, fun _ => ⟨ht, ?_, hgd⟩⟩, h.2.2.1, by simp [StartsAreWanted]⟩
  · simp [ht]
  · exact congrArg (Option.map Drive.motor) hw

/-- R23: a start waits for a dead time, where the state calls for a drive. -/
theorem start_waits_inOrder {s : State} (h : s.rig.InOrder) (hw : s.changer.wanted.isSome = true) :
    (s.onChanger fun c => { c with startDue := true }).rig.InOrder :=
  ⟨h.1, h.2.1, h.2.2.1, fun _ => hw⟩

/-- R23, R24: a start keeps the discipline; where it turns into a return to LIFTING the motors are stopped. -/
theorem startDrive_continues {s : State} (h : s.rig.InOrder) : Continues (startDrive s) := by
  unfold startDrive
  split
  next hw => exact continues_none ⟨h.1, h.2.1, h.2.2.1, by simp [StartsAreWanted]⟩
  next d hw =>
    split
    · exact continues_some (e := .lift) (returnToLift_stopped h.2.2.1)
    · split
      · exact continues_none (start_waits_inOrder h (by simp [hw]))
      next ha htd => exact continues_none (tray_drive_inOrder h hw (by simpa using ha) (by simpa using htd) _)
  next a hw =>
    split
    · exact continues_none (start_waits_inOrder h (by simp [hw]))
    next hgd => exact continues_none (gate_drive_inOrder h hw (by simpa using hgd) _)

/-- R26, R28, R30, R32: a phase begins with the motors stopped. -/
theorem inPhase_stopped {s : State} (h : s.rig.Off) {st : ChangerState} (hh : st ≠ .halted) (hn : st ≠ .noTray) :
    (inPhase st s).rig.Stopped := Rig.Off.stopped h.of_changer hh hn

/-- R35: the completion of a retried phase touches the retry alone. -/
theorem completePhase_stopped {s : State} (h : s.rig.Stopped) (phase : Phase) : (completePhase phase s).rig.Stopped := by
  unfold completePhase
  split
  · rw [tellGone_rig]; exact ⟨h.1.of_changer, h.2⟩
  · exact h

/-- R36: the changer is JAMMED with its motors stopped. -/
theorem enterJammed_stopped (kind : FaultKind) (phase : Phase) (s : State) : (enterJammed kind phase s).rig.Stopped := by
  have h : (enterJammed kind phase s).rig = ((stopMotors s).onChanger fun c => { c with
      state := .jammed, jam := some (kind, phase), inFlight := none, pendingTarget := none, retryPhase := none
      phaseTimer := none, backoffTimer := none, settleTimer := none }).rig := by
    unfold enterJammed; dsimp only; split <;> simp
  rw [h]
  exact Rig.Off.stopped (stopMotors_off s).of_changer (by simp) (by simp)

theorem slideStuck_stopped (s : State) : (slideStuck s).rig.Stopped := enterJammed_stopped ..

theorem beginChange_continues {s : State} (h : s.rig.Stopped) : Continues (beginChange s) := by
  have h' : (s.onChanger fun c => { c with
      retries := 0, homes := c.status != .known, keepCount := false, retryPhase := none, homingCount := 0 }).rig.Stopped :=
    ⟨h.1.of_changer, h.2⟩
  unfold beginChange
  dsimp only
  split
  · exact continues_some (h'.ready _)
  · split <;> exact continues_some (h'.ready _)

theorem beginLift_continues {s : State} (h : s.rig.Stopped) : Continues (beginLift s) := by
  have h' := inPhase_stopped h.1 (st := .lifting) (by simp) (by simp)
  unfold beginLift
  dsimp only
  split
  · exact continues_some (h'.ready _)
  · exact startDrive_continues h'.inOrder

theorem liftEnds_continues {s : State} (h : s.rig.InOrder) : Continues (liftEnds s) := by
  have hs : (stopMotors s).rig.Stopped := stopMotors_stopped h.2.2.1
  have h' : (if (stopMotors s).changer.state = .lifting then completePhase .lift (stopMotors s)
      else stopMotors s).rig.Stopped := by
    split
    · exact completePhase_stopped hs _
    · exact hs
  unfold liftEnds
  dsimp only
  generalize (if (stopMotors s).changer.state = .lifting then _ else _) = u at h' ⊢
  split
  · exact continues_none (slideStuck_stopped _).inOrder
  · exact continues_some (h'.ready _)

theorem beginHoming_continues {s : State} (h : s.rig.Stopped) : Continues (beginHoming s) := by
  have h' : (inPhase .homing (s.onChanger fun c => { c with
      direction := .forward, homingCount := if c.keepCount then c.homingCount else 0
      keepCount := false })).rig.Stopped :=
    inPhase_stopped h.1.of_changer (by simp) (by simp)
  unfold beginHoming
  dsimp only
  split
  · exact continues_some (h'.ready _)
  · exact startDrive_continues h'.inOrder

theorem zeroFound_continues {s : State} (h : s.rig.InOrder) : Continues (zeroFound s) := by
  have hs : (stopMotors s).rig.Stopped := stopMotors_stopped h.2.2.1
  have h' : ((stopMotors s).onChanger fun c => { c with slot := 0, status := .known, homes := false }).rig.Stopped :=
    ⟨hs.1.of_changer, hs.2⟩
  unfold zeroFound
  exact continues_some (Rig.Stopped.ready (completePhase_stopped (by rw [State.report_rig]; exact h') _) _)

theorem beginRotate_continues {s : State} (h : s.rig.Stopped) : Continues (beginRotate s) := by
  have h' := inPhase_stopped h.1 (st := .rotating) (by simp) (by simp)
  unfold beginRotate
  dsimp only
  split
  · exact continues_some (h'.ready _)
  · exact startDrive_continues (Rig.Stopped.inOrder ⟨h'.1.of_changer, h'.2⟩)

theorem rotateEnds_continues {s : State} (h : s.rig.InOrder) : Continues (rotateEnds s) :=
  continues_some ((completePhase_stopped (stopMotors_stopped h.2.2.1) _).ready _)

theorem beginDrop_continues {s : State} (h : s.rig.Stopped) : Continues (beginDrop s) := by
  have h' := inPhase_stopped h.1 (st := .dropping) (by simp) (by simp)
  unfold beginDrop
  dsimp only
  split
  · exact continues_some (h'.ready _)
  · exact startDrive_continues h'.inOrder

theorem dropEnds_continues {s : State} (h : s.rig.InOrder) : Continues (dropEnds s) :=
  continues_some (completePhase_stopped (stopMotors_stopped h.2.2.1) _)

theorem beginSettle_continues {s : State} (h : s.rig.Stopped) : Continues (beginSettle s) := by
  have h' : (s.onChanger fun c => { c with
      state := .settling, phaseTimer := none, settleTime := c.settleFor, settleTimer := some 0 }).rig.Stopped :=
    Rig.Off.stopped h.1.of_changer (by simp) (by simp)
  unfold beginSettle
  dsimp only
  split
  · exact continues_some (h'.ready _)
  · exact continues_none h'.inOrder

/-- R28, R31: the reports and tellings of a completed change leave the rig; the changer comes to IDLE. -/
theorem changeCompletes_continues {s : State} (h : s.rig.Stopped) (word : String) :
    Continues (changeCompletes word s) := by
  have h' : (changeCompletes word s).1.rig.Stopped := by
    unfold changeCompletes
    dsimp only
    refine Rig.Off.stopped (Rig.Off.of_changer ?_) (by simp) (by simp)
    split <;> simpa using h.1
  refine ⟨h'.inOrder, fun e _ => h'.ready e⟩

/-- Every beginning and end of a phase leaves the rig in order and ready for what follows at once. -/
theorem enterOnce_continues {e : Entry} {s : State} (h : e.Ready s) : Continues (enterOnce e s) := by
  cases e with
  | change => exact beginChange_continues h
  | lift => exact beginLift_continues h
  | lifted => exact liftEnds_continues h
  | homing => exact beginHoming_continues h
  | zeroFound => exact zeroFound_continues h
  | rotate => exact beginRotate_continues h
  | rotated => exact rotateEnds_continues h
  | drop => exact beginDrop_continues h
  | dropped => exact dropEnds_continues h
  | settle => exact beginSettle_continues h
  | settled => exact changeCompletes_continues h _
  | parked => exact changeCompletes_continues h _

theorem enterAll_inOrder (fuel : Nat) {e : Entry} {s : State} (h : e.Ready s) : (enterAll fuel e s).rig.InOrder := by
  induction fuel generalizing e s with
  | zero => exact h.inOrder
  | succ fuel ih =>
    obtain ⟨hs, he⟩ := enterOnce_continues h
    unfold enterAll
    split
    next t ht => rw [ht] at hs; exact hs
    next t e' ht => rw [ht] at he; exact ih (he e' rfl)

theorem enter_inOrder {e : Entry} {s : State} (h : e.Ready s) : (enter e s).rig.InOrder := enterAll_inOrder 24 h

theorem drive_inOrder {s : State} (h : s.rig.InOrder) : (drive s).rig.InOrder := by
  obtain ⟨hs, he⟩ := startDrive_continues h
  unfold drive
  split
  next t ht => rw [ht] at hs; exact hs
  next t e ht => rw [ht] at he; exact enter_inOrder (he e rfl)

end Sys2Proof.Machine

namespace Sys2Proof.Machine

/-! ## Jams and dead times -/

/-- R35: a backoff begins with the motors stopped. -/
theorem enterBackoff_inOrder {s : State} (h : s.rig.Off) (phase : Phase) : (enterBackoff phase s).rig.InOrder :=
  drive_inOrder (Rig.Off.stopped h.of_changer (by simp) (by simp)).inOrder

theorem jamEvent_inOrder {s : State} (h : s.rig.InOrder) : (jamEvent s).rig.InOrder := by
  unfold jamEvent
  split
  · exact h
  · dsimp only
    split
    · exact enterBackoff_inOrder (by simpa using stopMotors_off s) _
    · exact (enterJammed_stopped ..).inOrder

theorem phaseRunsOut_inOrder {s : State} (h : s.rig.InOrder) : (phaseRunsOut s).rig.InOrder := by
  unfold phaseRunsOut
  split
  · exact jamEvent_inOrder h
  · exact h

theorem motorCurrentMoves_inOrder {s : State} (h : s.rig.InOrder) (high : Bool) :
    (motorCurrentMoves high s).rig.InOrder := h

theorem blankingEnds_inOrder {s : State} (h : s.rig.InOrder) : (blankingEnds s).rig.InOrder := by
  unfold blankingEnds
  split <;> exact h

theorem deglitchEnds_inOrder {s : State} (h : s.rig.InOrder) : (deglitchEnds s).rig.InOrder := by
  unfold deglitchEnds
  split
  · exact jamEvent_inOrder h
  · exact h

theorem backoffDriveEnds_inOrder {s : State} (h : s.rig.InOrder) : (backoffDriveEnds s).rig.InOrder := by
  unfold backoffDriveEnds
  split
  · have hs := stopMotors_stopped h.2.2.1
    exact Rig.Stopped.inOrder ⟨hs.1.of_changer, hs.2⟩
  · exact h

/-- R35: a retry begins with the motors stopped. -/
theorem retryStarts_inOrder {s : State} (h : s.rig.Stopped) : (retryStarts s).rig.InOrder := by
  unfold retryStarts
  split
  · exact enter_inOrder (h.ready _)
  · exact enter_inOrder (h.ready _)
  · exact enter_inOrder (h.ready _)
  · refine enter_inOrder (Rig.Stopped.ready ?_ _)
    exact ⟨h.1, h.2⟩

/-- R23: the end of a dead time frees its motor. -/
theorem deadTime_cleared_inOrder {s : State} (h : s.rig.InOrder) (motor : ChangerMotor) :
    (s.onChanger fun c => match motor with
      | .tray => { c with trayDead := none }
      | .gate => { c with gateDead := none }).rig.InOrder := by
  obtain ⟨hf, ⟨hm, hg⟩, hn, hd⟩ := h
  cases motor with
  | tray => exact ⟨hf, ⟨fun h => ⟨(hm h).1, (hm h).2.1, (hm h).2.2.1, rfl⟩, hg⟩, hn, hd⟩
  | gate => exact ⟨hf, ⟨hm, fun h => ⟨(hg h).1, (hg h).2.1, rfl⟩⟩, hn, hd⟩

theorem deadTimeEnds_inOrder {s : State} (h : s.rig.InOrder) (motor : ChangerMotor) :
    (deadTimeEnds motor s).rig.InOrder := by
  have h' := deadTime_cleared_inOrder h motor
  unfold deadTimeEnds
  split
  · exact h
  · dsimp only
    generalize s.onChanger _ = t at h' ⊢
    split
    next hb =>
      split
      · exact retryStarts_inOrder (h'.stopped (by simp [Changer.wanted, hb]))
      · exact h'
    · split
      · exact drive_inOrder h'
      · exact h'

/-! ## Sensors -/

/-- R39: the distance rule keeps the discipline in ROTATING. -/
theorem redirect_inOrder {s : State} (h : s.rig.InOrder) (hr : s.changer.state = .rotating) :
    (redirect s).rig.InOrder := by
  have hw (d : Direction) (c : Changer) (hc : c.state = .rotating) :
      ({ c with direction := d } : Changer).wanted.map Drive.motor = c.wanted.map Drive.motor := by
    simp [Changer.wanted, hc, Drive.motor]
  unfold redirect
  dsimp only
  split
  · exact enter_inOrder (e := .rotated) h
  · split
    · exact h.of_changer (hw _ _ hr) h.2.2.1
    · have h' : (if s.changer.trayDrive.isSome then stopMotors s else s).rig.InOrder ∧
          (if s.changer.trayDrive.isSome then stopMotors s else s).changer.state = .rotating := by
        split
        · exact ⟨(stopMotors_stopped h.2.2.1).inOrder, by simp [hr]⟩
        · exact ⟨h, hr⟩
      exact drive_inOrder (h'.1.of_changer (hw _ _ h'.2) h'.1.2.2.1)

theorem homingPulse_inOrder {s : State} (h : s.rig.InOrder) : (homingPulse s).rig.InOrder := by
  unfold homingPulse
  dsimp only
  split
  · exact h
  · split
    · exact enter_inOrder (e := .zeroFound) h
    · split
      · rw [tellGone_rig]; exact (enterJammed_stopped ..).inOrder
      · exact h

theorem rotationPulse_inOrder {s : State} (h : s.rig.InOrder) : (rotationPulse s).rig.InOrder := by
  unfold rotationPulse
  split
  · exact h
  · split
    · exact enter_inOrder (e := .rotated) h
    · exact h

theorem zeroCheck_inOrder {s : State} (h : s.rig.InOrder) : (zeroCheck s).rig.InOrder := by
  unfold zeroCheck
  dsimp only
  split
  · split
    next hr => exact redirect_inOrder (s := State.onChanger _ _) h hr
    · exact h
  · split
    · exact rotationPulse_inOrder (s := State.report _ _ _) h
    · exact rotationPulse_inOrder h

theorem indexMoves_inOrder {s : State} (h : s.rig.InOrder) (zero : Bool) : (indexMoves zero s).rig.InOrder := by
  unfold indexMoves
  dsimp only
  split
  · exact h
  · split
    · exact homingPulse_inOrder (s := State.onPins _ _) h
    · split
      · exact h
      · exact rotationPulse_inOrder (s := State.onChanger _ _) h
      · exact zeroCheck_inOrder (s := State.onChanger _ _) h

/-- R20, R24: the rig is in order but for a tray motor that may still be driven with the arm no longer LIFTED. -/
def Rig.Loose (r : Rig) : Prop :=
  r.Follows ∧ MotorsDisciplined { r.changer with arm := .lifted } ∧ NoTrayMeansNone r.changer ∧ StartsAreWanted r.changer

theorem Rig.Loose.inOrder {r : Rig} (h : r.Loose) (ha : r.changer.trayDrive.isSome = true → r.changer.arm = .lifted) :
    r.InOrder := by
  obtain ⟨hf, ⟨hm, hg⟩, hn, hd⟩ := h
  exact ⟨hf, ⟨fun h => ⟨(hm h).1, ha h, (hm h).2.2⟩, hg⟩, hn, hd⟩

/-- R23: where the state does not call for the tray motor, the arm does not matter. -/
theorem Rig.Loose.inOrder_of_wanted {r : Rig} (h : r.Loose) (hw : r.changer.wanted.map Drive.motor ≠ some .tray) :
    r.InOrder := h.inOrder fun ht => absurd (h.2.1.1 ht).2.2.1 hw

/-- R20: a sensor of the gate moves, and the gate record follows. -/
theorem refreshGate_loose {s : State} (h : s.rig.InOrder) (f : Pins → Pins) : (refreshGate (s.onPins f)).rig.Loose := by
  obtain ⟨-, ⟨hm, hg⟩, hn, hd⟩ := h
  rw [refreshGate_rig]
  exact ⟨⟨rfl, rfl⟩, ⟨fun h => ⟨(hm h).1, rfl, (hm h).2.2⟩, hg⟩, hn, hd⟩

@[simp] theorem stuckGone_rig (s : State) : (stuckGone s).rig = s.rig := by unfold stuckGone; split <;> simp

/-- R24, R26, R30, R35: what an arm switch leads to restores the order. -/
theorem armMoves_inOrder {s : State} (h : s.rig.Loose) (old : Arm) (top seat : Bool) :
    (armMoves old top seat s).rig.InOrder := by
  have quiet (hw : s.changer.wanted.map Drive.motor ≠ some .tray) : s.rig.InOrder := h.inOrder_of_wanted hw
  have lifted (ha : ¬ (s.changer.trayDrive.isSome = true ∧ s.changer.arm ≠ .lifted)) : s.rig.InOrder :=
    h.inOrder fun ht => by_contra fun hn => ha ⟨ht, hn⟩
  have back : (enter .lift (returnToLift s)).rig.InOrder :=
    enter_inOrder ((returnToLift_stopped h.2.2.1).ready _)
  unfold armMoves
  dsimp only
  split
  next hst =>
    have hq := quiet (by simp [Changer.wanted, hst, Drive.motor])
    split
    · exact enter_inOrder (e := .lifted) hq
    · exact hq
  next hst =>
    have hq := quiet (by simp [Changer.wanted, hst, Drive.motor])
    split
    · exact enter_inOrder (e := .dropped) hq
    · split
      · exact (slideStuck_stopped s).inOrder
      · exact hq
  next hst =>
    split
    · exact (slideStuck_stopped s).inOrder
    · exact quiet (by simp [Changer.wanted, hst])
  iterate 2
    next hst =>
      split
      · exact back
      next ha =>
        split
        · exact (slideStuck_stopped s).inOrder
        · exact lifted ha
  next hst =>
    split
    · exact back
    next ha =>
      split
      · exact (slideStuck_stopped s).inOrder
      · split
        · exact backoffDriveEnds_inOrder (lifted ha)
        · exact lifted ha
  all_goals
    next hst => exact quiet (by simp [Changer.wanted, hst])

theorem topSwitchMoves_inOrder {s : State} (h : s.rig.InOrder) (closed : Bool) :
    (topSwitchMoves closed s).rig.InOrder :=
  armMoves_inOrder (by rw [stuckGone_rig]; exact refreshGate_loose h _) _ _ _

theorem seatSwitchMoves_inOrder {s : State} (h : s.rig.InOrder) (closed : Bool) :
    (seatSwitchMoves closed s).rig.InOrder :=
  armMoves_inOrder (by rw [stuckGone_rig]; exact refreshGate_loose h _) _ _ _

/-- R20: the barrier does not move the arm. -/
theorem barrierMoves_inOrder {s : State} (h : s.rig.InOrder) (interrupted : Bool) :
    (barrierMoves interrupted s).rig.InOrder := by
  have hl := refreshGate_loose h (fun p => { p with barrier := interrupted })
  unfold barrierMoves
  rw [stuckGone_rig]
  refine hl.inOrder fun ht => ?_
  have harm : (refreshGate (s.onPins fun p => { p with barrier := interrupted })).changer.arm = s.changer.arm := by
    rw [refreshGate_changer]; exact h.1.1.symm
  have htray : s.changer.trayDrive.isSome = true := by rw [State.rig_changer, refreshGate_changer] at ht; exact ht
  exact harm.trans (h.2.1.1 htray).2.1

theorem settleEnds_inOrder {s : State} (h : s.rig.InOrder) : (settleEnds s).rig.InOrder := by
  unfold settleEnds
  split
  next hst => exact enter_inOrder ((h.stopped (by simp [Changer.wanted, hst])).ready _)
  · exact h

/-! ## Requests -/

theorem takeRequest_inOrder {s : State} (h : s.rig.InOrder) (t : Target) : (takeRequest t s).rig.InOrder := by
  have hin : (s.onChanger fun c => { c with inFlight := some t }).rig.InOrder := h
  have hpend : (s.onChanger fun c => { c with pendingTarget := some t }).rig.InOrder := h
  have rest (hw : s.changer.wanted = none) :
      (enter .change (s.onChanger fun c => { c with inFlight := some t })).rig.InOrder :=
    enter_inOrder (e := .change) (hin.stopped hw)
  unfold takeRequest
  dsimp only
  split
  iterate 2
    next hh =>
      split
      · exact hin
      next hn => exact rest (by rw [Changer.heldOrState_of_ne hn] at hh; simp [Changer.wanted, hh])
  · exact hin
  · exact hin
  · split
    · exact hpend
    · exact hin
  next hh =>
    split
    · exact hin
    next hn => exact redirect_inOrder hin (by rw [Changer.heldOrState_of_ne hn] at hh; exact hh)
  iterate 2 exact hpend
  iterate 3 exact h

theorem changerRequest_inOrder {s : State} (h : s.rig.InOrder) (t : Target) : (changerRequest t s).1.rig.InOrder := by
  unfold changerRequest
  split
  · exact h
  · exact takeRequest_inOrder h t

/-! ## The tray switch and the supply -/

@[simp] theorem handBack_rig (t : Option Target) (s : State) : (handBack t s).rig = s.rig := by
  unfold handBack; split <;> (try split) <;> simp

theorem dropTargets_inOrder {s : State} (h : s.rig.InOrder) : (dropTargets s).rig.InOrder := by
  unfold dropTargets
  rw [handBack_rig, handBack_rig]; exact h

/-- R43: HALTED keeps the state that it interrupts. -/
theorem enterHalted_inOrder {s : State} (h : NoTrayMeansNone s.changer) : (enterHalted s).rig.InOrder := by
  have hs := stopMotors_stopped h
  have hh : NoTrayMeansNone { (stopMotors s).changer with state := .halted, held := some (stopMotors s).changer.state } :=
    fun hst => hs.2 ((Changer.heldOrState_of_ne (show (stopMotors s).changer.state ≠ .halted from
      fun hn => by simp_all [Changer.heldOrState])).trans hst)
  exact Rig.Stopped.inOrder ⟨hs.1, hh⟩

theorem haltIfLow_inOrder {s : State} (h : s.rig.InOrder) : (haltIfLow s).rig.InOrder := by
  unfold haltIfLow
  split
  · exact enterHalted_inOrder h.2.2.1
  · exact h

theorem changerSupplyLow_inOrder {s : State} (h : s.rig.InOrder) : (changerSupplyLow s).rig.InOrder := by
  unfold changerSupplyLow
  split
  iterate 3 exact h
  all_goals exact enterHalted_inOrder h.2.2.1

/-- R44: a changer that resumes has its motors stopped. -/
theorem resumeHeld_inOrder {s : State} (h : s.rig.Stopped) : (resumeHeld s).rig.InOrder := by
  unfold resumeHeld
  split
  · exact enter_inOrder (h.ready _)
  · exact enter_inOrder (h.ready _)
  iterate 2
    · refine enter_inOrder (Rig.Stopped.ready ?_ _)
      exact ⟨h.1, h.2⟩
  · exact Rig.Stopped.inOrder ⟨h.1.of_changer, h.2⟩
  · exact drive_inOrder (Rig.Stopped.inOrder ⟨h.1.of_changer, h.2⟩)
  iterate 2
    · split
      · exact enter_inOrder (h.ready _)
      · exact h.inOrder
  all_goals exact h.inOrder

theorem changerSupplyGood_inOrder {s : State} (h : s.rig.InOrder) : (changerSupplyGood s).rig.InOrder := by
  unfold changerSupplyGood
  split
  next st hst hheld =>
    have hs := h.stopped (by simp [Changer.wanted, hst])
    refine resumeHeld_inOrder (s := State.report _ _ _) ⟨hs.1, fun hn => hs.2 ?_⟩
    have hn' : ({ s.changer with state := st, held := none } : Changer).heldOrState = .noTray := hn
    have hsn : st = .noTray := by cases st <;> simp_all [Changer.heldOrState]
    simp [Changer.heldOrState, hst, hheld, hsn]
  · exact h

theorem changerCleared_inOrder {s : State} (h : s.rig.InOrder) (kind : FaultKind) :
    (changerCleared kind s).rig.InOrder := by
  unfold changerCleared
  split
  next k phase hst hj =>
    split
    · exact h
    · have hs := h.stopped (by simp [Changer.wanted, hst])
      refine haltIfLow_inOrder (Rig.Stopped.inOrder ⟨hs.1, ?_⟩)
      by_cases hp : s.changer.trayPresent = true
      · refine noTrayMeansNone_of_state ?_ ?_ <;> simp [hp] <;> split <;> simp
      · exact fun _ => Bool.eq_false_iff.2 hp
  · exact h

/-- R41: with the tray gone, the changer in a change comes to NO_TRAY with its motors stopped. -/
theorem noTray_stopped {s : State} (hp : s.changer.trayPresent = false) :
    ((stopMotors s).onChanger fun c => { c with
      state := .noTray, retryPhase := none, phaseTimer := none, backoffTimer := none
      settleTimer := none }).rig.Stopped := by
  refine ⟨stopMotors_off s, fun _ => ?_⟩
  show (stopMotors s).changer.trayPresent = false
  rw [stopMotors_changer]; exact hp

/-- R41: the tray switch opens: in a change the motors stop, and NO_TRAY has no tray. -/
theorem trayRemoved_inOrder {s : State} (h : s.rig.InOrder) : (trayRemoved s).rig.InOrder := by
  have told (c : Prop) [Decidable c] (d : Option FaultDetail) (u : State) :
      (if c then tellPresent .trayOut d u else u).rig = u.rig := by split <;> simp
  unfold trayRemoved
  dsimp only
  split
  · exact h
  · rw [told]
    generalize hu : State.report _ _ (State.onChanger _ (State.onPins _ s)) = u
    have hp : u.changer.trayPresent = false := by rw [← hu]; rfl
    have ho : u.rig.InOrder := by rw [← hu]; exact ⟨h.1, h.2.1, fun _ => rfl, h.2.2.2⟩
    have stops := dropTargets_inOrder (s := tellGone .jam _)
      (by rw [tellGone_rig]; exact (noTray_stopped hp).inOrder)
    split
    iterate 6 exact stops
    iterate 2
      next hst =>
        have hs := ho.stopped (by simp [Changer.wanted, hst])
        exact Rig.Stopped.inOrder ⟨hs.1, fun _ => hp⟩
    next hst =>
      have hs := ho.stopped (by simp [Changer.wanted, hst])
      refine dropTargets_inOrder ?_
      rw [tellGone_rig]
      exact Rig.Stopped.inOrder ⟨hs.1, fun _ => hp⟩
    iterate 2 exact ho

/-- R42: the tray switch closes: NO_TRAY, held or not, becomes UNHOMED. -/
theorem trayInserted_inOrder {s : State} (h : s.rig.InOrder) (zero : Bool) : (trayInserted zero s).rig.InOrder := by
  unfold trayInserted
  dsimp only
  split
  · exact h
  · generalize hu : tellGone .trayOut _ = u
    have hr : u.rig = (s.onChanger fun c => { c with trayPresent := true }).rig := by
      rw [← hu, tellGone_rig]; rfl
    have hc : u.changer = { s.changer with trayPresent := true } := congrArg Rig.changer hr
    have ho : u.rig.Follows ∧ MotorsDisciplined u.changer ∧ StartsAreWanted u.changer := by
      rw [← State.rig_changer, hr]; exact ⟨h.1, h.2.1, h.2.2.2⟩
    have same (hst : u.changer.state ≠ .halted) (hn : u.changer.state ≠ .noTray) : u.rig.InOrder :=
      ⟨ho.1, ho.2.1, noTrayMeansNone_of_state hst hn, ho.2.2⟩
    have off (hw : u.changer.wanted = none) : u.rig.Off :=
      (h.stopped (by rw [hc] at hw; exact hw)).1 |> fun hs => by rw [hr]; exact hs
    split
    next hst =>
      exact haltIfLow_inOrder (Rig.Off.stopped (off (by simp [Changer.wanted, hst])).of_changer (by simp) (by simp)).inOrder
    next hst =>
      have hs := off (by simp [Changer.wanted, hst])
      refine Rig.Stopped.inOrder ⟨hs.of_changer, noTrayMeansNone_of_ne ?_⟩
      by_cases hh : u.changer.held = some .noTray
      · simp [Changer.heldOrState, hst, hh]
      · cases hq : u.changer.held <;> simp_all [Changer.heldOrState]
    all_goals next hst => exact same (by simp [hst]) (by simp [hst])

/-! ## Reset, settings and the clock -/

/-- R45: a reset leaves the motors off. -/
theorem softReset_rig_inOrder (p : Pins) (c : Changer) (supply : SupplyState) :
    Rig.InOrder ⟨c.softReset p, p.topSwitch, p.seatSwitch, p.barrier, supply⟩ := by
  refine Rig.Stopped.inOrder ⟨⟨⟨rfl, rfl⟩, rfl, rfl, rfl⟩, ?_⟩
  cases hp : p.trayIn <;> simp [NoTrayMeansNone, Changer.softReset, Changer.afterReset, Changer.heldOrState, hp]

/-- R21: SET TRAY is refused while the state calls for a drive. -/
theorem setTraySize_inOrder {s : State} (h : s.rig.InOrder) (hw : s.changer.wanted = none) (n : Nat) :
    (setTraySize n s).rig.InOrder := by
  have hs := h.stopped hw
  unfold setTraySize
  by_cases hp : s.changer.trayPresent = true
  · refine (Rig.Off.stopped (hs.1.of_changer ?_ ?_ ?_ ?_ ?_) ?_ ?_).inOrder <;> simp [hp]
  · refine Rig.Stopped.inOrder ⟨hs.1.of_changer ?_ ?_ ?_ ?_ ?_, fun _ => ?_⟩ <;> simp [hp]

/-- R21: the states in which SET TRAY is taken call for no drive. -/
theorem wanted_of_trayShut {s : State} (h : trayShut s = false) : s.changer.wanted = none := by
  unfold trayShut at h
  cases hst : s.changer.state <;> simp_all [Changer.wanted]

theorem tick_inOrder {s : State} (h : s.rig.InOrder) : (tick s).rig.InOrder := by
  obtain ⟨hf, ⟨hm, hg⟩, hn, hd⟩ := h
  refine ⟨hf, ⟨fun ht => ?_, fun ht => ?_⟩, hn, hd⟩
  · obtain ⟨h1, h2, h3, h4⟩ := hm ht
    exact ⟨h1, h2, h3, congrArg tickTimer h4⟩
  · obtain ⟨h1, h2, h3⟩ := hg ht
    exact ⟨h1, h2, congrArg tickTimer h3⟩

end Sys2Proof.Machine

namespace Sys2Proof.Machine

/-! ## The show engine -/

section
variable (s : State)
@[simp] theorem sendRamp_rig (level duration : Nat) : (sendRamp level duration s).rig = s.rig := by simp [sendRamp]
@[simp] theorem sendFadeIn_rig (x : Execution) : (sendFadeIn x s).rig = s.rig := by simp [sendFadeIn]
@[simp] theorem reportTape_rig (n : Nat) (word : String) : (reportTape n word s).rig = s.rig := rfl
@[simp] theorem sendRestart_rig (n : Nat) : (sendRestart n s).rig = s.rig := by
  have h := locateRequest_rig (s.onExec fun x => { x with tape := .locating }) 0 true .show
  unfold sendRestart; split
  · simp_all
  · split <;> simp_all
@[simp] theorem sendTape_rig (n : Nat) (c : TapeCommand) : (sendTape n c s).rig = s.rig := by
  have h := tapeCommand_rig s c
  unfold sendTape; split <;> simp_all
@[simp] theorem sendSoundAndTape_rig (n : Nat) (st : Step) : (sendSoundAndTape n st s).rig = s.rig := by
  unfold sendSoundAndTape; dsimp only; split <;> split <;> simp
@[simp] theorem trySettle_rig : (trySettle s).rig = s.rig := by
  unfold trySettle; split
  · rfl
  · dsimp only; split <;> simp
@[simp] theorem setShow_rig (new : ShowState) : (setShow new s).rig = s.rig := by simp [setShow]
@[simp] theorem reportHeld_rig : (reportHeld s).rig = s.rig := rfl
@[simp] theorem becomeHeld_rig : (becomeHeld s).rig = s.rig := by simp [becomeHeld]
@[simp] theorem sendOwed_rig : (sendOwed s).rig = s.rig := by unfold sendOwed; split <;> (try split) <;> simp
@[simp] theorem changeIsDone_rig (x : Execution) : (changeIsDone x s).rig = s.rig := by
  unfold changeIsDone; dsimp only; split <;> split <;> simp
@[simp] theorem engineSeesChange_rig (slot : Nat) (origin : Origin) : (engineSeesChange slot origin s).rig = s.rig := by
  unfold engineSeesChange; split <;> (try split) <;> simp
@[simp] theorem sendEnd_rig : (sendEnd s).rig = s.rig := by simp [sendEnd]
@[simp] theorem stopShow_rig : (stopShow s).1.rig = s.rig := by
  unfold stopShow; split
  · rfl
  · dsimp only; split <;> simp
@[simp] theorem endShow_rig : (endShow s).rig = s.rig := by simp [endShow]
@[simp] theorem engineSeesLocate_rig (outcome : LocateOutcome) : (engineSeesLocate outcome s).rig = s.rig := by
  unfold engineSeesLocate; split
  · rfl
  · dsimp only; split
    · rfl
    · split <;> simp
@[simp] theorem dwellEnds_rig : (dwellEnds s).rig = s.rig := by
  unfold dwellEnds; split
  · rfl
  · split
    · rfl
    · have h := judge_rig (s.onExec fun x => { x with dwell := none, dwellRuns := false }) .dwell
      split <;> simp_all
@[simp] theorem afterEdit_rig : (afterEdit s).rig = s.rig := by unfold afterEdit; split <;> simp
@[simp] theorem doStepdef_rig (n : Int) (keep : Bool) (fields : List StepField) :
    (doStepdef n keep fields s).1.rig = s.rig := by
  unfold doStepdef; split <;> simp
@[simp] theorem doStepdel_rig (n : Int) : (doStepdel n s).1.rig = s.rig := by
  unfold doStepdel; split
  · rfl
  · split <;> simp
@[simp] theorem doStepask_rig (n : Int) : (doStepask n s).1.rig = s.rig := by
  unfold doStepask; split
  · rfl
  · split <;> rfl
end

/-! ## What the changer's own operations keep, every telling keeps

The other blocks reach the changer by its requests and by the CLEAR of a jam alone. So a property of the rig that these two
keep is kept by all that a telling or a key leads to. -/

/-- A property of the rig that the changer's two operations for other blocks keep. -/
structure Kept (P : Rig → Prop) : Prop where
  request : ∀ {s : State}, P s.rig → ∀ t : Target, P (changerRequest t s).1.rig
  cleared : ∀ {s : State}, P s.rig → ∀ kind : FaultKind, P (changerCleared kind s).rig

section
variable {P : Rig → Prop} (hk : Kept P) {s : State} (h : P s.rig)
include hk h

theorem sendChange_keeps (x : Execution) : P (sendChange x s).rig := by
  unfold sendChange
  split
  · exact h
  next slot _ =>
    have hr := hk.request (s := s.onExec fun x => { x with changeAwaited := true }) h
      ⟨slot, .show, false, x.catchUp⟩
    dsimp only
    split <;> simp_all

theorem startPhase_keeps (st : Step) (x : Execution) : P (startPhase st x s).rig := by
  unfold startPhase
  split
  · simpa using h
  · simpa using h
  · rw [sendFadeIn_rig]; exact sendChange_keeps hk (s := s.onExec _) h _

theorem enterStep_keeps (n : Nat) (reason : EntryReason) (word : String) : P (enterStep n reason word s).rig :=
  startPhase_keeps hk (by simpa using h) _ _

theorem sendDeferred_keeps : P (sendDeferred s).rig := by
  unfold sendDeferred
  split
  · exact h
  · split
    · exact sendChange_keeps hk (s := s.onExec _) h _
    · simpa using h
    · split
      · split
        · exact sendChange_keeps hk h _
        · exact h
      · exact h

theorem resumeShow_keeps : P (resumeShow s).rig := by
  have := sendDeferred_keeps hk (s := showReleases (tapeSeesRunning (setShow .running s))) (by simpa using h)
  simpa [resumeShow] using this

theorem setCauses_keeps (cs : List Cause) : P (setCauses cs s).rig := by
  unfold setCauses
  dsimp only
  split
  · exact h
  · split
    · split <;> simpa using h
    · split
      · exact resumeShow_keeps hk (s := s.onEngine _) h
      · simpa using h
    all_goals exact h

theorem addRequest_keeps : P (addRequest s).rig := setCauses_keeps hk h _

theorem causeEnters_keeps (kind : FaultKind) (byItself : Bool) : P (causeEnters kind byItself s).rig := by
  unfold causeEnters
  split
  · exact h
  · exact setCauses_keeps hk h _

theorem causeLeaves_keeps (kind : FaultKind) : P (causeLeaves kind s).rig := by
  unfold causeLeaves
  split
  · exact h
  · exact setCauses_keeps hk h _

theorem runShow_keeps : P (runShow s).1.rig := by
  unfold runShow
  split
  iterate 3 exact h
  iterate 2
    · split
      · exact h
      · exact enterStep_keeps hk (by simpa using h) _ _ _

theorem holdShow_keeps : P (holdShow s).1.rig := by
  unfold holdShow
  split
  · exact addRequest_keeps hk h
  · exact h

theorem resumeRequest_keeps : P (resumeRequest s).1.rig := by
  unfold resumeRequest
  split
  · exact setCauses_keeps hk h _
  · exact h

theorem engineSeesRamp_keeps (origin : Option RampOrigin) : P (engineSeesRamp origin s).rig := by
  unfold engineSeesRamp
  split
  · exact h
  · split
    · exact h
    · dsimp only
      split
      · split
        · exact h
        · exact sendChange_keeps hk (by simpa using h) _
      · simpa using h

theorem engineSeesRefusal_keeps (why : RefusalWord) (slot : Nat) : P (engineSeesRefusal why slot s).rig := by
  unfold engineSeesRefusal
  split
  · exact h
  · split
    · dsimp only
      split
      · simpa using h
      · exact addRequest_keeps hk (s := s.report _ _) h
    · exact h

theorem useTrigger_keeps (x : Execution) (r : Trigger) : P (useTrigger x r s).rig := by
  unfold useTrigger
  split
  · split
    · exact enterStep_keeps hk h _ _ _
    · split
      · exact enterStep_keeps hk h _ _ _
      · simpa using h
  · exact enterStep_keeps hk h _ _ _
  · exact enterStep_keeps hk h _ _ _

omit h in
theorem takeTriggers_keeps (fuel : Nat) {s : State} (h : P s.rig) : P (takeTriggers fuel s).rig := by
  induction fuel generalizing s with
  | zero => exact h
  | succ fuel ih =>
    unfold takeTriggers
    split
    · split
      · dsimp only
        split
        · exact useTrigger_keeps hk (by simpa [reportTrigger] using h) _ _
        · exact ih (by simpa [reportTrigger] using h)
      · exact h
    · exact h

theorem offerHead_keeps : P (offerHead s).rig := takeTriggers_keeps hk _ h
end

/-! ## The cue unit's actions -/

section
variable {P : Rig → Prop} (hk : Kept P) {s : State} (h : P s.rig)
include hk h

theorem cueMoves_keeps (k : Int) : P (cueMoves k s).1.rig := by
  have hr := hk.request h ⟨s.changer.relative k, .cue, false, false⟩
  unfold cueMoves
  split <;> simp_all

theorem cueArrival_keeps (y : Symbol) (action : CueAction) : P (cueArrival y action s).1.rig := by
  have hj := judge_rig s .cue
  unfold cueArrival
  split
  iterate 2 next u _ hu => rw [hu] at hj; simpa [hj] using h
  next u mode hu =>
    rw [hu] at hj
    have ho : P u.rig := by rw [show u.rig = s.rig from hj]; exact h
    dsimp only
    split
    · split
      · exact cueMoves_keeps hk ho 1
      · simpa [queued] using ho
    · split
      · exact cueMoves_keeps hk ho (-1)
      · simpa [queued] using ho
    · simpa [acted] using ho
    all_goals exact ho

theorem disposition_keeps (y : Symbol) (echo : Bool) : P (disposition y echo s).1.rig := by
  unfold disposition
  split
  · exact h
  · split
    · exact h
    · exact h
    · exact cueArrival_keeps hk h _ _

theorem disposeBurst_keeps (y : Symbol) (echo : Bool) : P (disposeBurst y echo s).rig := by
  have hd := disposition_keeps hk h y echo
  simpa [disposeBurst] using hd

theorem burstEnds_keeps (d : Detector) (b : Burst) : P (burstEnds d b s).rig := by
  unfold burstEnds
  split
  · exact h
  · exact disposeBurst_keeps hk h _ _

theorem settledMiss_keeps (d : Detector) : P (settledMiss d s).rig := by
  unfold settledMiss
  split
  · exact h
  · split
    · exact h
    · exact burstEnds_keeps hk (s := setClassifier _ _ s) h _ _
  · split <;> simpa using h

theorem settleResult_keeps (d : Detector) (r : RawResult) : P (settleResult d s r).rig := by
  unfold settleResult
  split
  · exact settledMiss_keeps hk h d
  · split
    · exact settledMiss_keeps hk (s := s.onCue _) h d
    · simpa using h

theorem settleNext_keeps : P (settleNext s).rig := by
  unfold settleNext
  split
  · rw [State.emit_rig]; exact settleResult_keeps hk (s := s.onCue _) h _ _
  · exact h

theorem closeClassifier_keeps (d : Detector) : P (closeClassifier s d).rig := by
  unfold closeClassifier
  split
  · exact h
  · exact burstEnds_keeps hk (s := setClassifier _ _ s) h _ _
  · simpa using h
end

/-! ## The key receiver -/

section
variable (s : State)
@[simp] theorem endFocus_rig (fields : FocusDir → List Field) : (endFocus fields s).rig = s.rig := by
  unfold endFocus; split <;> simp
@[simp] theorem judgeFocus_rig : (judgeFocus s).rig = s.rig := by
  unfold judgeFocus; split <;> (try split) <;> simp [focusLimit]
@[simp] theorem focusCurrentMoves_rig (high : Bool) : (focusCurrentMoves high s).rig = s.rig := by
  simp [focusCurrentMoves, State.onPins_rig]
@[simp] theorem focusBlankingEnds_rig : (focusBlankingEnds s).rig = s.rig := by
  unfold focusBlankingEnds; split <;> (try split) <;> simp
@[simp] theorem focusRestEnds_rig : (focusRestEnds s).rig = s.rig := by unfold focusRestEnds; dsimp only; split <;> rfl
@[simp] theorem focusRunEnds_rig : (focusRunEnds s).rig = s.rig := by
  unfold focusRunEnds; split <;> (try split) <;> simp
@[simp] theorem focusSupplyLow_rig : (focusSupplyLow s).rig = s.rig := by simp [focusSupplyLow]
@[simp] theorem reportKey_rig (key : Key) (source : Source) (outcome : List Field) :
    (reportKey key source outcome s).rig = s.rig := rfl
@[simp] theorem ignoreKey_rig (key : Key) (source : Source) (reason : Option String) :
    (ignoreKey key source reason s).rig = s.rig := rfl
@[simp] theorem reportTaken_rig (key : Key) (source : Source) (refusal : Option RefusalWord) (more : List Field) :
    (reportTaken key source refusal more s).rig = s.rig := by unfold reportTaken; split <;> rfl
@[simp] theorem reportQueued_rig (key : Key) (source : Source) (r : State × Bool) (more : List Field) :
    (reportQueued key source r more).rig = r.1.rig := rfl
@[simp] theorem reportShowKey_rig (key : Key) (source : Source) (r : State × Bool) :
    (reportShowKey key source r).rig = r.1.rig := by simp [reportShowKey]
@[simp] theorem stopKey_rig (source : Source) (mode : Mode) : (stopKey source mode s).rig = s.rig := by
  unfold stopKey; split <;> simp
@[simp] theorem digitKey_rig (d : Fin 10) : (digitKey d s).rig = s.rig := by unfold digitKey; split <;> rfl
@[simp] theorem digitsExpire_rig : (digitsExpire s).rig = s.rig := by unfold digitsExpire; split <;> rfl
@[simp] theorem focusKey_rig (key : Key) (dir : FocusDir) : (focusKey key dir s).rig = s.rig := by
  unfold focusKey; split <;> rfl
@[simp] theorem endKeyRun_rig (dir : FocusDir) : (endKeyRun dir s).rig = s.rig := by
  unfold endKeyRun; split <;> (try split) <;> simp
@[simp] theorem releaseKey_rig : (releaseKey s).rig = s.rig := by
  unfold releaseKey; split
  · rfl
  · dsimp only; split <;> simp
@[simp] theorem repeatKey_rig : (repeatKey s).rig = s.rig := rfl
@[simp] theorem setDecoder_rig (d : Decoder) : (setDecoder d s).rig = s.rig := rfl
@[simp] theorem frameInvalid_rig (leader : Bool) : (frameInvalid leader s).rig = s.rig := rfl
@[simp] theorem spaceEnds_rig (us : Nat) : (spaceEnds us s).rig = s.rig := by
  unfold spaceEnds; dsimp only; split
  · rfl
  · rfl
  · split
    · rfl
    · split <;> rfl
  · split
    · rfl
    · split
      · rfl
      · split <;> rfl
  · rfl
@[simp] theorem spaceRunsOn_rig (us : Nat) : (spaceRunsOn us s).rig = s.rig := by
  unfold spaceRunsOn; split <;> (try split) <;> rfl
@[simp] theorem wiredMoves_rig (key : WiredKey) (closed : Bool) : (wiredMoves key closed s).rig = s.rig := by
  cases key <;> rfl
@[simp] theorem doKeyaddr_rig (addr : Option KeyAddrArg) : (doKeyaddr addr s).1.rig = s.rig := by
  unfold doKeyaddr; split <;> (try split) <;> rfl
@[simp] theorem doFocus_rig (dir : FocusDir) (ms : Int) : (doFocus dir ms s).1.rig = s.rig := by
  unfold doFocus; split <;> rfl
@[simp] theorem doFocusStop_rig : (doFocusStop s).1.rig = s.rig := by simp [doFocusStop]
end

section
variable {P : Rig → Prop} (hk : Kept P) {s : State} (h : P s.rig)
include hk h

theorem keyMoves_keeps (key : Key) (source : Source) (k : Int) : P (keyMoves key source k s).rig := by
  have hr := hk.request h ⟨s.changer.relative k, originOf source, false, false⟩
  unfold keyMoves
  split
  next hu => rw [hu] at hr; simpa using hr

theorem slideKey_keeps (key : Key) (source : Source) (mode : Mode) (k : Int) (kind : TriggerKind)
    (action : CueAction) (len : LengthClass) : P (slideKey key source mode k kind action len s).rig := by
  have hw := keyWrite_rig s len action
  unfold slideKey
  split
  · exact keyMoves_keeps hk h _ _ _
  · simpa using h
  · simpa using h
  · split
    next hu => rw [hu] at hw; simpa [hw] using h
    next hu => rw [hu] at hw; exact keyMoves_keeps hk (by rw [show _ = s.rig from hw]; exact h) _ _ _

theorem showKey_keeps (source : Source) (mode : Mode) : P (showKey source mode s).rig := by
  unfold showKey
  split
  · rw [reportShowKey_rig]; exact runShow_keeps hk h
  · rw [reportShowKey_rig]; exact holdShow_keeps hk h
  · rw [reportShowKey_rig]; exact resumeRequest_keeps hk h
  · exact h

theorem goKey_keeps (source : Source) (mode : Mode) (n : Nat) : P (goKey source mode n s).rig := by
  have hr := hk.request h ⟨n, originOf source, false, false⟩
  unfold goKey
  split
  iterate 2
    · split
      · exact h
      · split
        next hu => rw [hu] at hr; simpa using hr
  iterate 2
    · split
      · exact h
      · simpa using h

omit hk in
/-- R147: a key that passes the check keeps what its action keeps. -/
theorem checkKey_keeps (key : Key) (source : Source) {act : Mode → State → State}
    (ha : ∀ mode u, P u.rig → P (act mode u).rig) : P (checkKey key source act s).rig := by
  have hj := judge_rig s source
  unfold checkKey
  split
  all_goals
    next u _ hu =>
      rw [hu] at hj
      have ho : P u.rig := by rw [show u.rig = s.rig from hj]; exact h
      first | exact ha _ _ ho | exact ho

theorem forwardKey_keeps (source : Source) : P (forwardKey source s).rig :=
  checkKey_keeps h _ _ fun _ _ hu => slideKey_keeps hk hu _ _ _ _ _ _ _

theorem reverseKey_keeps (source : Source) : P (reverseKey source s).rig :=
  checkKey_keeps h _ _ fun _ _ hu => slideKey_keeps hk hu _ _ _ _ _ _ _

theorem commitDigits_keeps : P (commitDigits s).rig := by
  unfold commitDigits
  split
  · exact h
  · exact checkKey_keeps (s := s.onKeys _) h _ _ fun _ _ hu => goKey_keeps hk hu _ _ _

theorem keyActs_keeps (key : Key) : P (keyActs key s).rig := by
  unfold keyActs
  split
  · simpa using h
  · simpa using h
  · simpa using h
  · split <;> simpa using h
  · simpa using h
  · exact forwardKey_keeps hk h _
  · exact reverseKey_keeps hk h _
  · exact checkKey_keeps h _ _ fun _ _ hu => showKey_keeps hk hu _ _
  · exact checkKey_keeps h _ _ fun _ _ hu => by simpa using hu
  · exact commitDigits_keeps hk h

theorem pressKey_keeps (key : Key) : P (pressKey key s).rig := keyActs_keeps hk (by simpa using h) key

theorem dataFrame_keeps (w : IrWord) : P (dataFrame w s).rig := by
  unfold dataFrame
  dsimp only
  split
  · exact h
  · split
    · exact h
    · split
      · simpa using h
      · exact pressKey_keeps hk h _

theorem markEnds_keeps (us : Nat) : P (markEnds us s).rig := by
  unfold markEnds
  dsimp only
  split
  · split <;> exact h
  · split <;> exact h
  · exact h
  · split <;> exact h
  · split
    · unfold frameCompletes
      dsimp only
      split
      · exact dataFrame_keeps hk (by simpa using h) _
      · exact h
    · exact h

theorem irDuration_keeps (g : IrSegment) : P (irDuration s g).rig := by
  cases g with
  | mark us => exact markEnds_keeps hk h us
  | space us => simpa [irDuration] using h
  | spaceRuns us => simpa [irDuration] using h

omit h in
theorem irDurations_keeps (gs : List IrSegment) {s : State} (h : P s.rig) :
    P (gs.foldl irDuration s).rig := by
  induction gs generalizing s with
  | nil => exact h
  | cons g gs ih => exact ih (irDuration_keeps hk h g)

theorem wiredSettles_keeps (key : WiredKey) : P (wiredSettles key s).rig := by
  unfold wiredSettles
  dsimp only
  split
  · exact h
  · split
    · exact h
    · cases key
      · exact forwardKey_keeps hk (s := s.onKeys _) h _
      · exact reverseKey_keeps hk (s := s.onKeys _) h _
end

/-! ## Tellings, CLEAR and the supply monitor -/

section
variable {P : Rig → Prop} (hk : Kept P) {s : State} (h : P s.rig)
include hk h

theorem endAction_keeps (k : FaultKind) : P (endAction k s).rig := by
  unfold endAction
  split
  iterate 3 exact hk.cleared h _
  all_goals simpa using h

theorem clearKind_keeps (k : FaultKind) : P (clearKind k s).rig := by
  unfold clearKind
  dsimp only
  split
  · exact h
  · exact causeLeaves_keeps hk (endAction_keeps hk (by simpa using h) k) k

theorem receive_keeps (sig : Signal) : P (receive sig s).rig := by
  cases sig with
  | changeDone slot origin => simpa [receive] using h
  | changeRefused why slot => exact engineSeesRefusal_keeps hk h _ _
  | rampDone level origin => exact engineSeesRamp_keeps hk h _
  | locateDone outcome arrival => simpa [receive] using h
  | tapeMoved old new => simpa [receive] using h
  | causeIn kind byItself => exact causeEnters_keeps hk h _ _
  | causeOut kind => exact causeLeaves_keeps hk h _
  | offerHead => exact offerHead_keeps hk h
  | reviewHold => simpa [receive] using h
  | clearKind kind => exact clearKind_keeps hk h _
  | settle => exact settleNext_keeps hk h
  | closeBurst d => exact closeClassifier_keeps hk h d
  | writeEnds => simpa [receive] using h

omit h in
theorem drainAll_keeps (fuel : Nat) {s : State} (h : P s.rig) : P (drainAll fuel s).rig := by
  induction fuel generalizing s with
  | zero => exact h
  | succ fuel ih =>
    unfold drainAll
    split
    · exact h
    · exact ih (receive_keeps hk (s := { s with signals := [] }) h _)

theorem drain_keeps : P (drain s).rig := drainAll_keeps hk 1000 h

end

/-! ## The motor discipline is kept -/

theorem inOrder_kept : Kept Rig.InOrder := ⟨changerRequest_inOrder, changerCleared_inOrder⟩

theorem drain_inOrder {s : State} (h : s.rig.InOrder) : (drain s).rig.InOrder := drain_keeps inOrder_kept h

section
variable {s : State} (h : s.rig.InOrder)
include h

omit h in
theorem showReply_inOrder {r : State × Bool} (h : r.1.rig.InOrder) (word : String) :
    (showReply word r).1.rig.InOrder := by
  unfold showReply
  split
  · exact drain_inOrder h
  · exact h

theorem raiseSupplyLow_inOrder : (raiseSupplyLow s).rig.InOrder := by
  have := changerSupplyLow_inOrder (s := lampSupplyLow (tellPresent .supplyLow none s)) (by simpa using h)
  simpa [raiseSupplyLow] using this

theorem supplyReturns_inOrder : (supplyReturns s).rig.InOrder := by
  have := changerSupplyGood_inOrder (s := lampSupplyGood (tellGone .supplyLow s)) (by simpa using h)
  simpa [supplyReturns] using this

theorem comparatorMoves_inOrder (good : Bool) : (comparatorMoves good s).rig.InOrder := by
  unfold comparatorMoves
  dsimp only
  split <;> exact h

theorem supplyDeglitchEnds_inOrder : (supplyDeglitchEnds s).rig.InOrder := by
  unfold supplyDeglitchEnds
  split
  · exact raiseSupplyLow_inOrder (s := setSupply _ _ s) h
  · exact h

theorem supplyRetryEnds_inOrder : (supplyRetryEnds s).rig.InOrder := by
  unfold supplyRetryEnds
  split
  · exact supplyReturns_inOrder (s := setSupply _ _ s) h
  · exact h

/-! ## Requests of the line -/

omit h in
@[simp] theorem doClear_rig (kind : Option FaultKind) (s : State) : (doClear kind s).1.rig = s.rig := by
  have tells (ks : List FaultKind) (u : State) : (ks.foldl (fun s k => s.emit (.clearKind k)) u).rig = u.rig := by
    induction ks generalizing u with
    | nil => rfl
    | cons k ks ih => exact ih _
  simp [doClear, tells]

theorem writeNum_inOrder (name : Setting) (n : Int) : (writeNum name n s).rig.InOrder := by
  unfold writeNum
  split
  iterate 2 exact h
  all_goals simpa [onHeatSet, setFanDrive] using h

theorem writeWord_inOrder (name : Setting) (w : String) (hw : name = .tray → trayShut s = false) :
    (writeWord name w s).rig.InOrder := by
  unfold writeWord
  dsimp only
  split
  · exact setTraySize_inOrder h (wanted_of_trayShut (hw rfl)) _
  · exact h
  all_goals simpa using h

theorem doSet_inOrder (name : Setting) (value : SetValue) : (doSet name value s).1.rig.InOrder := by
  unfold doSet
  split
  · unfold setNum
    dsimp only
    split
    · exact h
    · rw [accept_fst]
      split
      · exact h
      · exact writeNum_inOrder h _ _
  · unfold setWord
    split
    · exact h
    next hs =>
      split
      · exact h
      · rw [accept_fst]
        split
        · exact h
        · exact writeWord_inOrder h _ _ fun hn => Bool.eq_false_iff.2 fun ht => hs ⟨hn, ht⟩
  all_goals exact h

/-- R47 to R49: what GOTO, MOVE and PARK of the line do, by the answer of the changer. -/
theorem doGoto_inOrder (slot : Int) : (doGoto slot s).1.rig.InOrder := by
  have hr := changerRequest_inOrder h ⟨slot.toNat, .line, false, false⟩
  unfold doGoto
  split
  · exact h
  · split
    · exact h
    · split
      · exact h
      next hu => rw [hu] at hr; exact hr

theorem doMove_inOrder (k : Int) : (doMove k s).1.rig.InOrder := by
  have hr := changerRequest_inOrder h ⟨s.changer.relative (clamp (-9) 9 k), .line, false, false⟩
  unfold doMove
  split
  · exact h
  · dsimp only
    split
    · exact h
    · split
      · exact h
      next hu => rw [hu] at hr; exact hr

theorem doPark_inOrder : (doPark s).1.rig.InOrder := by
  have hr := changerRequest_inOrder h ⟨0, .line, true, false⟩
  unfold doPark
  split
  · exact h
  · split
    · exact h
    next hu => rw [hu] at hr; exact hr

theorem doHome_inOrder : (doHome s).1.rig.InOrder := by
  unfold doHome
  split
  · exact h
  · split
    · exact h
    · rw [accept_fst]
      refine takeRequest_inOrder ?_ _
      exact h

/-- Every request of the line keeps the changer in order. -/
theorem handle_inOrder (r : Request) : (handle r s).1.rig.InOrder := by
  cases r with
  | set name value => exact doSet_inOrder h _ _
  | goto slot => exact doGoto_inOrder h _
  | move k => exact doMove_inOrder h _
  | park => exact doPark_inOrder h
  | home => exact doHome_inOrder h
  | showRun => exact showReply_inOrder (runShow_keeps inOrder_kept h) _
  | showStop => exact showReply_inOrder (by simpa using h) _
  | showHold => exact showReply_inOrder (holdShow_keeps inOrder_kept h) _
  | showResume => exact showReply_inOrder (resumeRequest_keeps inOrder_kept h) _
  | _ =>
    simpa [handle, doAskSetting, doAskLine, doReport, doReset, doAskSlide, doLampmodAuto, doAskLamp, doAskHeat, doAskTape,
      doCuelogCounts, doAskKeys, doShowStatus, doPermitRead, permitReply, doPermitStatus, doFaultmodeRead,
      doAskFaults] using h
end

end Sys2Proof.Machine

namespace Sys2Proof.Machine

/-! ## The control line -/

section
variable {s : State} (h : s.rig.InOrder)
include h

theorem takeLine_inOrder (x : RxLine) : (takeLine x s).rig.InOrder := by
  unfold takeLine
  dsimp only
  rw [State.onLine_rig]
  split
  · exact drain_inOrder (handle_inOrder (by simpa using h) _)
  · exact drain_inOrder (by simpa using h)

omit h in
theorem takeAll_inOrder (fuel : Nat) {s : State} (h : s.rig.InOrder) : (takeAll fuel s).rig.InOrder := by
  induction fuel generalizing s with
  | zero => exact h
  | succ fuel ih =>
    unfold takeAll
    split
    · exact h
    · split
      · exact ih (takeLine_inOrder (by simpa using h) _)
      · exact h

theorem takeWaiting_inOrder : (takeWaiting s).rig.InOrder := takeAll_inOrder _ h

theorem offerLine_inOrder (x : RxLine) : (offerLine x s).rig.InOrder := by
  unfold offerLine
  split
  · exact takeWaiting_inOrder (by simpa using h)
  · simpa using h

theorem lineCompletes_inOrder : (lineCompletes s).rig.InOrder := by
  unfold lineCompletes
  dsimp only
  split
  · exact h
  · split
    · exact offerLine_inOrder (by simpa [setReceiver] using h) _
    · exact h

theorem receiveChar_inOrder (c : RxChar) : (receiveChar c s).rig.InOrder := by
  unfold receiveChar
  dsimp only
  split
  · split <;> exact h
  · split
    · exact lineCompletes_inOrder h
    · split
      · exact h
      · split <;> exact h

omit h in
@[simp] theorem retellLamp_rig (s : State) : (retellLamp s).rig = s.rig := by
  unfold retellLamp; split <;> simp

omit h in
/-- R45: a soft reset brings the changer into order from any state. -/
theorem softReset_inOrder (s : State) : (softReset s).rig.InOrder := by
  have retold : ∀ u : State, u.rig.InOrder → (retellSupply u).rig.InOrder := fun u hu => by
    unfold retellSupply; split
    · exact raiseSupplyLow_inOrder hu
    · exact hu
  refine drain_inOrder (retold _ ?_)
  simp only [retellLamp_rig, retellHeat_rig, softResetHeat_rig, State.onLamp_rig]
  exact softReset_rig_inOrder s.pins s.changer _

theorem lineSent_inOrder : (lineSent s).rig.InOrder := by
  unfold lineSent
  split
  · exact h
  · split
    · exact softReset_inOrder s
    · exact takeWaiting_inOrder (by simpa using h)

/-! ## Every command and every step -/

omit h in
/-- The state that a command answers has its changer in order. -/
abbrev Answer.InOrder (o : Answer) : Prop := ∀ t, o = .next t → t.rig.InOrder

theorem arrives_inOrder (r : Request) : Answer.InOrder (arrives r s) := by
  rintro t ⟨⟩; exact offerLine_inOrder h _

omit h in
theorem happens_inOrder {f : State → State} {s : State} (h : (f s).rig.InOrder) : Answer.InOrder (happens f s) := by
  rintro t ⟨⟩; exact drain_inOrder h

/-- Every command keeps the changer in order. -/
theorem exec_inOrder (i : Instr) : Answer.InOrder (exec i s) := by
  cases i with
  | hardReset pins => rintro t ⟨⟩; exact softReset_rig_inOrder pins s.changer _
  | softReset => rintro t ⟨⟩; exact softReset_inOrder s
  | characterReceived c => rintro t ⟨⟩; exact receiveChar_inOrder h c
  | transmitLineEnd => rintro t ⟨⟩; exact lineSent_inOrder h
  | lineRefusedForm fault => rintro t ⟨⟩; exact offerLine_inOrder h _
  | indexPulse zero => exact happens_inOrder (indexMoves_inOrder h zero)
  | topSwitchChange closed => exact happens_inOrder (topSwitchMoves_inOrder h closed)
  | seatSwitchChange closed => exact happens_inOrder (seatSwitchMoves_inOrder h closed)
  | gateBarrierChange interrupted => exact happens_inOrder (barrierMoves_inOrder h interrupted)
  | motorDeadTimeEnd motor => exact happens_inOrder (deadTimeEnds_inOrder h motor)
  | motorBlankingEnd => exact happens_inOrder (blankingEnds_inOrder h)
  | motorCurrentChange high => exact happens_inOrder (motorCurrentMoves_inOrder h high)
  | overcurrentDeglitchEnd => exact happens_inOrder (deglitchEnds_inOrder h)
  | phaseTimeout => exact happens_inOrder (phaseRunsOut_inOrder h)
  | backoffDriveEnd => exact happens_inOrder (backoffDriveEnds_inOrder h)
  | settleEnd => exact happens_inOrder (settleEnds_inOrder h)
  | trayOut => exact happens_inOrder (trayRemoved_inOrder h)
  | trayIn zero => exact happens_inOrder (trayInserted_inOrder h zero)
  | irDataFrame frame => exact happens_inOrder (f := fun s => List.foldl irDuration s _) (irDurations_keeps inOrder_kept _ h)
  | irRepeatFrame frame => exact happens_inOrder (f := fun s => List.foldl irDuration s _) (irDurations_keeps inOrder_kept _ h)
  | irFrameInvalid segments => exact happens_inOrder (f := fun s => List.foldl irDuration s _) (irDurations_keeps inOrder_kept _ h)
  | wiredDebounceEnd key => exact happens_inOrder (wiredSettles_keeps inOrder_kept h key)
  | supplyComparatorChange good => exact happens_inOrder (comparatorMoves_inOrder h good)
  | supplyDeglitchEnd => exact happens_inOrder (supplyDeglitchEnds_inOrder h)
  | supplyRetryEnd => exact happens_inOrder (supplyRetryEnds_inOrder h)
  | lampUpdate | lampCurrentChange | openTimerExpiry | shiftSwitchChange | shiftTimeout | thermalPeriod | fanTachPulse
  | riseStep | tapeOut | tapeIn | tapePulse | reverseGuardEnd | endOfTape | volumeUpdate | detectorWindowEnd
  | cueWritten | keyReleaseTimeout | digitsExpired | wiredInputChange | focusRestEnd | focusBlankingEnd
  | focusCurrentChange | focusRunEnd | dwellExpiry | risingCrossing => exact happens_inOrder (by simpa using h)
  | _ => exact arrives_inOrder h _

theorem step_inOrder : Answer.InOrder (step s) := by
  unfold step
  split
  · refine exec_inOrder ?_ _; exact h
  · split
    · exact exec_inOrder h _
    · rintro t ⟨⟩; exact tick_inOrder h
end

/-- Settles O53: every shared operation of the changer leaves its rig in order (`Entry.Ready` for the phases), every other
operation leaves the rig as it is, and a step is made of these. -/
theorem oneChangerMotorAtATime : Obligations.OneChangerMotorAtATime :=
  fun s t h hst => (State.rig_inOrder_iff t).1 (step_inOrder ((State.rig_inOrder_iff s).2 h) t hst)

end Sys2Proof.Machine

namespace Sys2Proof.Machine

/-- Settles O12: ASK SLIDE is a reading (R51), so that its reply is all that it leaves. -/
theorem askSlideReadsTheChanger : Obligations.AskSlideReadsTheChanger :=
  fun _ h => arrives_of_reading h rfl

end Sys2Proof.Machine

namespace Sys2Proof.Machine

/-! ## Successive changes of the changer -/

/-- Two changes of the changer are one. -/
theorem State.onChanger_onChanger (f g : Changer → Changer) (s : State) :
    (s.onChanger f).onChanger g = s.onChanger fun c => g (f c) := rfl

/-- Changes that make the same of the changer as it stands make the same state. -/
theorem State.onChanger_congr {f g : Changer → Changer} {s : State} (h : f s.changer = g s.changer) :
    s.onChanger f = s.onChanger g := by
  simp only [State.onChanger, h]

/-- A telling sent before the changer changes. -/
theorem State.emit_onChanger (sig : Signal) (f : Changer → Changer) (s : State) :
    (s.emit sig).onChanger f = (s.onChanger f).emit sig := rfl

/-! ## Where the occupancy does not change

The drive of the gate motor makes the difference of MOVING and UNKNOWN alone, and the occupancy is UNKNOWN in both. So a start
or a stop of the motors leaves the lamp alone where the occupancy followed the sensors before. -/

/-- R20: the occupancy does not depend on the gate motor's drive. -/
theorem occupancyOf_armOf (top seat d e barrier : Bool) :
    occupancyOf (armOf top seat d) barrier = occupancyOf (armOf top seat e) barrier := by
  cases top <;> cases seat <;> cases d <;> cases e <;> rfl

/-- R20: the occupancy is the one that the switches and the barrier give. -/
def OccupancyFollows (s : State) : Prop :=
  s.changer.occupancy = occupancyOf (armOf s.pins.topSwitch s.pins.seatSwitch false) s.pins.barrier

theorem occupancyFollows_of_gate {s : State} (h : GateFollows s) : OccupancyFollows s := by
  obtain ⟨ha, ho⟩ := h
  rw [OccupancyFollows, ho, ha]; exact occupancyOf_armOf ..

/-- R20: with the occupancy as it was, the refreshing sets the arm and leaves everything else. -/
theorem refreshGate_quiet {s : State} (h : OccupancyFollows s) :
    refreshGate s = s.onChanger fun c =>
      { c with arm := armOf s.pins.topSwitch s.pins.seatSwitch c.gateDrive.isSome } := by
  have ho : occupancyOf (armOf s.pins.topSwitch s.pins.seatSwitch s.changer.gateDrive.isSome) s.pins.barrier =
      s.changer.occupancy := (occupancyOf_armOf ..).trans h.symm
  unfold refreshGate
  dsimp only
  rw [if_pos (by exact ho)]
  exact State.onChanger_congr (by rw [ho])

/-- R23: every motor of the changer has stopped, the occupancy being as it was. -/
def State.motorsOff (s : State) : State :=
  s.onChanger fun c => { c.stopped with arm := armOf s.pins.topSwitch s.pins.seatSwitch false }

section
variable (s : State)
@[simp] theorem State.motorsOff_pins : s.motorsOff.pins = s.pins := rfl
@[simp] theorem State.motorsOff_changer :
    s.motorsOff.changer = { s.changer.stopped with arm := armOf s.pins.topSwitch s.pins.seatSwitch false } := rfl
@[simp] theorem State.motorsOff_tape : s.motorsOff.tape = s.tape := rfl
@[simp] theorem State.motorsOff_faults : s.motorsOff.faults = s.faults := rfl
end

/-- R23: with the occupancy as it was, the stop of the motors changes the changer alone. -/
theorem stopMotors_quiet {s : State} (h : OccupancyFollows s) : stopMotors s = s.motorsOff :=
  refreshGate_quiet (s := s.onChanger Changer.stopped) h

/-! ## The start of a drive, case by case -/

section
variable {s : State}

/-- R23: a tray drive starts at once. -/
theorem startDrive_tray {d : Direction} (hw : s.changer.wanted = some (.tray d)) (ha : s.changer.arm = .lifted)
    (hd : s.changer.trayDead = none) :
    startDrive s = (s.onChanger fun c => { c with
      trayDrive := some d, lastDriven := d, blanking := some 0, deglitch := none, startDue := false
      backoffTimer := if c.state = .backoff then some 0 else c.backoffTimer }, none) := by
  simp [startDrive, hw, ha, hd]

/-- R23: a tray drive waits for the dead time of its motor. -/
theorem startDrive_tray_waits {d : Direction} (hw : s.changer.wanted = some (.tray d)) (ha : s.changer.arm = .lifted)
    (hd : s.changer.trayDead ≠ none) : startDrive s = (s.onChanger fun c => { c with startDue := true }, none) := by
  simp [startDrive, hw, ha, Option.isSome_iff_ne_none.2 hd]

/-- R23: a gate drive starts at once, with the occupancy as it was. -/
theorem startDrive_gate {a : ArmDrive} (hw : s.changer.wanted = some (.gate a)) (hd : s.changer.gateDead = none)
    (ho : OccupancyFollows s) :
    startDrive s = (s.onChanger fun c => { c with
      arm := armOf s.pins.topSwitch s.pins.seatSwitch true, gateDrive := some a, blanking := some 0, deglitch := none
      startDue := false, backoffTimer := if c.state = .backoff then some 0 else c.backoffTimer }, none) := by
  simp only [startDrive, hw, hd, Option.isSome_none, Bool.false_eq_true, if_false]
  rw [refreshGate_quiet (by exact ho)]; rfl

/-- R23: a gate drive waits for the dead time of its motor. -/
theorem startDrive_gate_waits {a : ArmDrive} (hw : s.changer.wanted = some (.gate a)) (hd : s.changer.gateDead ≠ none) :
    startDrive s = (s.onChanger fun c => { c with startDue := true }, none) := by
  simp [startDrive, hw, Option.isSome_iff_ne_none.2 hd]

theorem drive_of_startDrive {t : State} (h : startDrive s = (t, none)) : drive s = t := by
  simp [drive, h]

/-! ## One entry after another -/

/-- An entry that nothing follows at once. -/
theorem enterAll_last {e : Entry} {t : State} (h : enterOnce e s = (t, none)) (n : Nat) : enterAll (n + 1) e s = t := by
  simp [enterAll, h]

/-- An entry that another follows at once. -/
theorem enterAll_next {e e' : Entry} {t : State} (h : enterOnce e s = (t, some e')) (n : Nat) :
    enterAll (n + 1) e s = enterAll n e' t := by
  simp [enterAll, h]

/-- R35: a phase that is not being retried completes without a word. -/
theorem completePhase_quiet {phase : Phase} (h : s.changer.retryPhase ≠ some phase) : completePhase phase s = s := by
  simp [completePhase, h]

/-- R26: LIFT begins, with the gate motor free to start. -/
theorem enterAll_lift (ha : s.changer.arm ≠ .lifted) (hd : s.changer.gateDead = none) (ho : OccupancyFollows s) (n : Nat) :
    enterAll (n + 1) .lift s = s.onChanger fun c => { c with
      state := .lifting, phaseTimer := some 0, arm := armOf s.pins.topSwitch s.pins.seatSwitch true
      gateDrive := some .up, blanking := some 0, deglitch := none, startDue := false } := by
  refine enterAll_last ?_ n
  show beginLift s = _
  unfold beginLift
  rw [if_neg (by exact ha), startDrive_gate rfl (by exact hd) (by exact ho)]
  rfl

/-- R30: DROP begins, with the gate motor free to start. -/
theorem enterAll_drop (ha : s.changer.arm ≠ .seated) (hd : s.changer.gateDead = none) (ho : OccupancyFollows s) (n : Nat) :
    enterAll (n + 1) .drop s = s.onChanger fun c => { c with
      state := .dropping, phaseTimer := some 0, arm := armOf s.pins.topSwitch s.pins.seatSwitch true
      gateDrive := some .down, blanking := some 0, deglitch := none, startDue := false } := by
  refine enterAll_last ?_ n
  show beginDrop s = _
  unfold beginDrop
  rw [if_neg (by exact ha), startDrive_gate rfl (by exact hd) (by exact ho)]
  rfl

/-- R23, R30: DROP begins, and its drive waits for the dead time. -/
theorem enterAll_drop_waits (ha : s.changer.arm ≠ .seated) (hd : s.changer.gateDead ≠ none) (n : Nat) :
    enterAll (n + 1) .drop s = s.onChanger fun c => { c with
      state := .dropping, phaseTimer := some 0, startDue := true } := by
  refine enterAll_last ?_ n
  show beginDrop s = _
  unfold beginDrop
  rw [if_neg (by exact ha), startDrive_gate_waits rfl (by exact hd)]
  rfl

/-- R28: ROTATE begins towards another slot, with the tray motor free to start. -/
theorem enterAll_rotate (ha : s.changer.arm = .lifted) (hd : s.changer.trayDead = none)
    (hg : s.changer.goal ≠ s.changer.slot) (n : Nat) :
    enterAll (n + 1) .rotate s = s.onChanger fun c =>
      let d := directionTo s.changer.size s.changer.slot s.changer.goal
      { c with
        state := .rotating, phaseTimer := some 0, direction := d, trayDrive := some d, lastDriven := d
        blanking := some 0, deglitch := none, startDue := false } := by
  refine enterAll_last ?_ n
  show beginRotate s = _
  unfold beginRotate
  rw [if_neg (by exact hg), startDrive_tray rfl (by exact ha) (by exact hd)]
  rfl

/-- R23, R28: ROTATE begins towards another slot, and its drive waits for the dead time. -/
theorem enterAll_rotate_waits (ha : s.changer.arm = .lifted) (hd : s.changer.trayDead ≠ none)
    (hg : s.changer.goal ≠ s.changer.slot) (n : Nat) :
    enterAll (n + 1) .rotate s = s.onChanger fun c => { c with
      state := .rotating, phaseTimer := some 0, startDue := true
      direction := directionTo s.changer.size s.changer.slot s.changer.goal } := by
  refine enterAll_last ?_ n
  show beginRotate s = _
  unfold beginRotate
  rw [if_neg (by exact hg), startDrive_tray_waits rfl (by exact ha) (by exact hd)]
  rfl

/-- R28: a rotation that begins at its target has ended. -/
theorem enterAll_rotate_at_goal (hg : s.changer.goal = s.changer.slot) (n : Nat) :
    enterAll (n + 1) .rotate s =
      enterAll n .rotated (s.onChanger fun c => { c with state := .rotating, phaseTimer := some 0 }) := by
  refine enterAll_next ?_ n
  show beginRotate s = _
  unfold beginRotate
  rw [if_pos (by exact hg)]
  rfl

/-- R28: the rotation ends: the motors stop, and DROP or the end of a park follows. -/
theorem enterAll_rotated (hr : s.changer.retryPhase = none) (ho : OccupancyFollows s) (n : Nat) :
    enterAll (n + 1) .rotated s =
      enterAll n (if (s.changer.inFlight.map Target.park).getD false then .parked else .drop) s.motorsOff := by
  refine enterAll_next ?_ n
  show rotateEnds s = _
  unfold rotateEnds
  rw [stopMotors_quiet ho, completePhase_quiet (by simp [Changer.stopped, hr])]
  rfl

/-- R32: HOMING begins away from slot 0, with the tray motor free to start. -/
theorem enterAll_homing (ha : s.changer.arm = .lifted) (hd : s.changer.trayDead = none)
    (hz : s.pins.zeroSensor = false) (n : Nat) :
    enterAll (n + 1) .homing s = s.onChanger fun c => { c with
      state := .homing, phaseTimer := some 0, direction := .forward
      homingCount := if c.keepCount then c.homingCount else 0, keepCount := false, trayDrive := some .forward
      lastDriven := .forward, blanking := some 0, deglitch := none, startDue := false } := by
  refine enterAll_last ?_ n
  show beginHoming s = _
  unfold beginHoming
  rw [if_neg (by simp [inPhase, hz]), startDrive_tray rfl (by exact ha) (by exact hd)]
  rfl

/-- R32: zero is found: the motors stop, the slot is 0 and known, and ROTATE follows. -/
theorem enterAll_zeroFound (hr : s.changer.retryPhase = none) (ho : OccupancyFollows s) (n : Nat) :
    enterAll (n + 1) .zeroFound s =
      enterAll n .rotate ((s.motorsOff.onChanger fun c =>
        { c with slot := 0, status := .known, homes := false }).report .slide [fw "HOMED"]) := by
  refine enterAll_next ?_ n
  show zeroFound s = _
  unfold zeroFound
  rw [stopMotors_quiet ho]
  dsimp only
  rw [completePhase_quiet (by simp [Changer.stopped, hr])]

/-- R26, R27: the motors stop where the arm is LIFTED, with no retried LIFT to complete. -/
theorem liftEnds_quiet (hr : s.changer.retryPhase = none ∨ s.changer.state ≠ .lifting) (ho : OccupancyFollows s) :
    liftEnds s = if s.pins.barrier then (slideStuck s.motorsOff, none)
      else (s.motorsOff, some (if s.changer.homes then .homing else .rotate)) := by
  have hphase : (if s.motorsOff.changer.state = .lifting then completePhase .lift s.motorsOff else s.motorsOff) =
      s.motorsOff := by
    rcases hr with hr | hr
    · rw [completePhase_quiet (by simp [Changer.stopped, hr]), ite_self]
    · exact if_neg hr
  unfold liftEnds
  rw [stopMotors_quiet ho]
  dsimp only
  rw [hphase]
  rfl

/-- R26, R27: the arm is LIFTED with the barrier clear: HOMING or ROTATE follows. -/
theorem enterAll_lifted (hr : s.changer.retryPhase = none ∨ s.changer.state ≠ .lifting) (ho : OccupancyFollows s)
    (hb : s.pins.barrier = false) (n : Nat) :
    enterAll (n + 1) .lifted s = enterAll n (if s.changer.homes then .homing else .rotate) s.motorsOff := by
  refine enterAll_next ?_ n
  show liftEnds s = _
  rw [liftEnds_quiet hr ho, if_neg (by simp [hb])]

/-- R27: the arm is LIFTED with the barrier still interrupted: the slide is stuck. -/
theorem enterAll_lifted_stuck (hr : s.changer.retryPhase = none) (ho : OccupancyFollows s) (hb : s.pins.barrier = true)
    (n : Nat) : enterAll (n + 1) .lifted s = slideStuck s.motorsOff := by
  refine enterAll_last ?_ n
  show liftEnds s = _
  rw [liftEnds_quiet (.inl hr) ho, if_pos hb]

/-- R30, R31: the arm is SEATED: the motors stop, and the settle time, if there is one, begins. -/
theorem enterAll_dropped (hr : s.changer.retryPhase = none) (ho : OccupancyFollows s) (ht : s.changer.settleFor ≠ 0)
    (n : Nat) :
    enterAll (n + 2) .dropped s = s.motorsOff.onChanger fun c => { c with
      state := .settling, phaseTimer := none, settleTime := s.changer.settleFor, settleTimer := some 0 } := by
  have hdrop : enterOnce .dropped s = (s.motorsOff, some .settle) := by
    show dropEnds s = _
    unfold dropEnds
    rw [stopMotors_quiet ho, completePhase_quiet (by simp [Changer.stopped, hr])]
  rw [enterAll_next hdrop (n + 1)]
  refine enterAll_last ?_ n
  show beginSettle _ = _
  unfold beginSettle
  dsimp only
  rw [if_neg (by exact ht)]
  rfl

/-- R25, R26: a change begins with the arm SEATED, the gate motor free to start and a way to go: its LIFT starts. -/
theorem enterAll_change (ha : s.changer.arm = .seated) (hd : s.changer.gateDead = none) (htop : s.pins.topSwitch = false)
    (hseat : s.pins.seatSwitch = true) (hocc : s.changer.occupancy = occupancyOf .seated s.pins.barrier)
    (hway : s.changer.status ≠ .known ∨ s.changer.goal ≠ s.changer.slot ∨
      (s.changer.inFlight.map Target.park).getD false = true) (n : Nat) :
    enterAll (n + 2) .change s = s.onChanger fun c => { c with
      state := .lifting, retries := 0, homes := c.status != .known, keepCount := false, retryPhase := none
      homingCount := 0, phaseTimer := some 0, gateDrive := some .up, blanking := some 0, deglitch := none
      startDue := false } := by
  have hchange : enterOnce .change s = (s.onChanger fun c => { c with
      retries := 0, homes := c.status != .known, keepCount := false, retryPhase := none, homingCount := 0 },
      some .lift) := by
    show beginChange s = _
    unfold beginChange
    rw [if_neg, if_neg (by simp [ha])]
    rintro ⟨hs, -, hg, hp⟩
    rcases hway with h | h | h
    · exact h hs
    · exact h hg
    · exact absurd (h.symm.trans hp) (by simp)
  have ho : OccupancyFollows s := by rw [OccupancyFollows, hocc, htop, hseat]; rfl
  rw [enterAll_next hchange (n + 1), enterAll_lift (by simp [ha]) (by exact hd) (by exact ho) n, State.onChanger_onChanger]
  refine State.onChanger_congr ?_
  simp [htop, hseat, armOf, ha]
end

end Sys2Proof.Machine

namespace Sys2Proof.Machine

/-! ## Requests, case by case -/

/-- R164: a show that is neither RUNNING nor HELD does not shut the line out. -/
theorem showBusy_eq_false {s : State} (hr : s.engine.state ≠ .running) (hh : s.engine.state ≠ .held) :
    s.showBusy = false := by
  simp [State.showBusy, ShowState.inShow, hr, hh]

section
variable {s : State} {t : Target}

/-- R22: a request for a slot of the tray is taken in every state but NO_TRAY and JAMMED. -/
theorem changerRequest_taken (hs : s.changer.shut = false) (ht : t.slot < s.changer.size) :
    changerRequest t s = (takeRequest t s, none) := by
  simp [changerRequest, requestRefusal, hs, Nat.not_le.2 ht]

/-- R22, R36: outside HALTED, NO_TRAY and JAMMED the changer is open to requests. -/
theorem shut_eq_false (h : s.changer.state ∉ [ChangerState.halted, .noTray, .jammed]) : s.changer.shut = false := by
  simp only [List.mem_cons, List.not_mem_nil, or_false, not_or] at h
  unfold Changer.shut
  rw [Changer.heldOrState_of_ne h.1]
  split <;> simp_all

/-- R25, R38: a request at rest with the arm SEATED begins its change with the LIFT. -/
theorem takeRequest_from_seat (hst : s.changer.state = .idle) (hd : s.changer.gateDead = none)
    (htop : s.pins.topSwitch = false) (hseat : s.pins.seatSwitch = true) (ha : s.changer.arm = .seated)
    (hocc : s.changer.occupancy = occupancyOf .seated s.pins.barrier)
    (hway : s.changer.status ≠ .known ∨ t.slot ≠ s.changer.slot ∨ t.park = true) :
    takeRequest t s = s.onChanger fun c =>
      { Changer.liftFor t c with homes := c.status != .known } := by
  have hh : s.changer.heldOrState = .idle := by rw [Changer.heldOrState_of_ne (by simp [hst]), hst]
  unfold takeRequest
  dsimp only
  rw [hh]
  dsimp only
  rw [if_neg (by simp [hst])]
  exact enterAll_change (s := s.onChanger fun c => { c with inFlight := some t }) ha hd htop hseat hocc hway 22

/-- R38: in LIFTING and HOMING the target in flight is replaced. -/
theorem takeRequest_replaces (hst : s.changer.state = .lifting ∨ s.changer.state = .homing) :
    takeRequest t s = s.onChanger fun c => { c with inFlight := some t } := by
  have hh : s.changer.heldOrState = s.changer.state := Changer.heldOrState_of_ne (by rcases hst with h | h <;> simp [h])
  unfold takeRequest
  dsimp only
  rw [hh]
  rcases hst with h | h <;> rw [h]

/-- R39: in ROTATING the tray motor runs on where the new target lies the same way. -/
theorem takeRequest_rotating (hst : s.changer.state = .rotating) (hne : t.slot ≠ s.changer.slot)
    (hd : s.changer.trayDrive = some (directionTo s.changer.size s.changer.slot t.slot)) :
    takeRequest t s = s.onChanger fun c =>
      { c with inFlight := some t, direction := directionTo s.changer.size s.changer.slot t.slot } := by
  have hh : s.changer.heldOrState = .rotating := by rw [Changer.heldOrState_of_ne (by simp [hst]), hst]
  unfold takeRequest
  dsimp only
  rw [hh]
  dsimp only
  rw [if_neg (by simp [hst])]
  unfold redirect
  dsimp only
  rw [if_neg (by exact hne), if_pos (by exact hd)]
  rfl

/-- R40: in DROPPING and SETTLING the request waits as the pending target. -/
theorem takeRequest_pends (hst : s.changer.state = .dropping ∨ s.changer.state = .settling) :
    takeRequest t s = s.onChanger fun c => { c with pendingTarget := some t } := by
  have hh : s.changer.heldOrState = s.changer.state := Changer.heldOrState_of_ne (by rcases hst with h | h <;> simp [h])
  unfold takeRequest
  dsimp only
  rw [hh]
  rcases hst with h | h <;> rw [h]

/-- R47: a GOTO that is accepted. -/
theorem doGoto_accepted {slot : Nat} (hb : s.showBusy = false) (hs : s.changer.shut = false)
    (ht : slot < s.changer.size) :
    doGoto slot s = (takeRequest ⟨slot, .line, false, false⟩ s, .accepted "GOTO" [fi slot]) := by
  unfold doGoto
  rw [if_neg (by omega), if_neg (by simp [lineShut, hb, hs]), Int.toNat_natCast, changerRequest_taken hs (by exact ht)]
  rfl

/-- R48: a MOVE to another slot that is accepted. -/
theorem doMove_accepted {k : Int} (hb : s.showBusy = false) (hs : s.changer.shut = false) (hk : k ≠ 0)
    (ht : s.changer.relative (clamp (-9) 9 k) < s.changer.size) :
    doMove k s =
      (takeRequest ⟨s.changer.relative (clamp (-9) 9 k), .line, false, false⟩ s,
        .accepted "MOVE" [fc (clamp (-9) 9 k) (outside (-9) 9 k),
          fi (takeRequest ⟨s.changer.relative (clamp (-9) 9 k), .line, false, false⟩ s).changer.targetOfRecord]) := by
  unfold doMove
  dsimp only
  rw [if_neg (by simp [lineShut, hb, hs]), if_neg (by simp only [clamp]; omega), changerRequest_taken hs (by exact ht)]
  rfl

/-- R49: a PARK that is accepted. -/
theorem doPark_accepted (hb : s.showBusy = false) (hs : s.changer.shut = false) (ht : 0 < s.changer.size) :
    doPark s = (takeRequest ⟨0, .line, true, false⟩ s, .accepted "PARK" []) := by
  unfold doPark
  rw [if_neg (by simp [lineShut, hb, hs]), changerRequest_taken hs (by exact ht)]
  rfl

/-- R50: a HOME at rest that is accepted. -/
theorem doHome_accepted (hb : s.showBusy = false) (hs : s.changer.shut = false) (hr : s.changer.busy = false) :
    doHome s = (takeRequest ⟨0, .line, false, false⟩ (s.onChanger fun c =>
      { c with status := if c.status = .unhomed then .unhomed else .unsure }), .accepted "HOME" []) := by
  unfold doHome
  rw [if_neg (by simp [lineShut, hb, hs]), if_neg (by simp [hr])]
  rfl
end

/-- R22: a relative slot lies on the tray. -/
theorem relativeSlot_lt {n : Nat} (hn : 2 ≤ n) (skip : Bool) (base : Nat) (k : Int) : relativeSlot n skip base k < n := by
  have hm := Int.emod_lt_of_pos ((base : Int) + k) (show (0 : Int) < n by omega)
  unfold relativeSlot
  dsimp only
  split
  · split <;> omega
  · omega

/-- R22: the relative slot of a distance other than 0. -/
theorem relativeSlot_of_ne {n base : Nat} {skip : Bool} {k : Int} (hk : k ≠ 0) :
    relativeSlot n skip base k =
      if skip = true ∧ (((base : Int) + k) % n).toNat = 0 then (if 0 < k then 1 else n - 1)
      else (((base : Int) + k) % n).toNat := by
  simp [relativeSlot, hk]

/-- R4: a request that only changes the changer, at a free line. -/
theorem arrives_of_changer {r : Request} {reply : Reply} {s : State} {f : Changer → Changer} (h : LineFree s)
    (hr : handle r s.busyLine = (s.busyLine.onChanger f, reply)) :
    arrives r s = .next ((s.onChanger f).answered reply) :=
  arrives_of_silent (t := s.onChanger f) h hr h.2.2.2 h.2.2.1

/-- R25, R47 to R50: the requests at rest. -/
theorem requests_at_rest {s : State} (h : LineFree s) (hrest : SeatedAtRest s) (hb : s.showBusy = false) :
    (∀ slot : Nat, slot < s.changer.size → slot ≠ s.changer.slot →
      exec (.goto slot) s =
        .next ((s.onChanger (Changer.liftFor ⟨slot, .line, false, false⟩)).answered (.accepted "GOTO" [fi slot]))) ∧
    (∀ k : Int, k ≠ 0 → 2 ≤ s.changer.size →
      s.changer.relative (clamp (-9) 9 k) ≠ s.changer.slot →
      exec (.move k) s =
        .next ((s.onChanger (Changer.liftFor ⟨s.changer.relative (clamp (-9) 9 k), .line, false, false⟩)).answered
          (.accepted "MOVE" [fc (clamp (-9) 9 k) (outside (-9) 9 k), fi (s.changer.relative (clamp (-9) 9 k))]))) ∧
    (0 < s.changer.size →
      exec .park s =
        .next ((s.onChanger (Changer.liftFor ⟨0, .line, true, false⟩)).answered (.accepted "PARK" []))) ∧
    exec .home s =
      .next ((s.onChanger fun c =>
        { Changer.liftFor ⟨0, .line, false, false⟩ c with status := .unsure, homes := true }).answered
        (.accepted "HOME" [])) := by
  obtain ⟨hst, hknown, hin, hpend, -, hgd, htop, hseat, harm, hocc⟩ := hrest
  have hs : s.changer.shut = false := shut_eq_false (by simp [hst])
  have lifts (t : Target) (hway : t.slot ≠ s.changer.slot ∨ t.park = true) :
      takeRequest t s.busyLine = s.busyLine.onChanger (Changer.liftFor t) := by
    rw [takeRequest_from_seat (s := s.busyLine) hst hgd htop hseat harm hocc (.inr hway)]
    refine State.onChanger_congr ?_
    simp [State.busyLine, hknown, Changer.liftFor]
  refine ⟨fun slot hlt hne => ?_, fun k hk hn hne => ?_, fun hn => ?_, ?_⟩
  · refine arrives_of_changer h ?_
    rw [← lifts _ (.inl hne)]
    exact doGoto_accepted hb hs hlt
  · refine arrives_of_changer h ((doMove_accepted (s := s.busyLine) hb hs hk (relativeSlot_lt hn _ _ _)).trans ?_)
    have hl := lifts ⟨s.changer.relative (clamp (-9) 9 k), .line, false, false⟩ (.inl hne)
    refine Prod.ext hl (.trans (congrArg (fun t : State =>
      OutLine.accepted "MOVE" [fc (clamp (-9) 9 k) (outside (-9) 9 k), fi t.changer.targetOfRecord]) hl) ?_)
    simp [Changer.targetOfRecord, Changer.liftFor, State.onChanger, State.busyLine, State.onLine, hpend]
  · refine arrives_of_changer h ?_
    rw [← lifts _ (.inr rfl)]
    exact doPark_accepted hb hs hn
  · refine arrives_of_changer h ?_
    have hbusy : s.changer.busy = false := by
      simp [Changer.busy, Changer.heldOrState_of_ne, hst, hin, ChangerState.inChange]
    refine (doHome_accepted (s := s.busyLine) hb hs hbusy).trans ?_
    rw [takeRequest_from_seat (by exact hst) (by exact hgd) (by exact htop) (by exact hseat) (by exact harm)
      (by exact hocc) (.inl (by simp [State.busyLine, hknown])), State.onChanger_onChanger]
    congr 1
    refine State.onChanger_congr ?_
    simp [State.busyLine, hknown, Changer.liftFor]

/-- R38 to R40: GOTO in a change. -/
theorem goto_in_a_change {s : State} {slot : Nat} {f : Changer → Changer} (h : LineFree s) (hb : s.showBusy = false)
    (hst : s.changer.state ∉ [ChangerState.halted, .noTray, .jammed]) (ht : slot < s.changer.size)
    (hf : takeRequest ⟨slot, .line, false, false⟩ s.busyLine = s.busyLine.onChanger f) :
    exec (.goto slot) s = .next ((s.onChanger f).answered (.accepted "GOTO" [fi slot])) :=
  arrives_of_changer h (hf ▸ doGoto_accepted (s := s.busyLine) hb (shut_eq_false (s := s.busyLine) hst) ht)

/-- Settles O18: what each request does is said by `takeRequest`, state by state; at rest it begins a
change with its LIFT. -/
theorem changerRequestsActInOrder : Obligations.ChangerRequestsActInOrder := by
  refine ⟨fun s h hrest hrun hheld => ?_,
    fun s slot h hrun hheld hlt => ⟨fun hst => ?_, fun hst hne hd => ?_, fun hst => ?_⟩⟩
  · have ⟨_, _, hin, hpend, _⟩ := hrest
    obtain ⟨hgoto, hmove, hpark, hhome⟩ := requests_at_rest h hrest (showBusy_eq_false hrun hheld)
    refine ⟨hgoto, fun k hk hn => ?_, hpark, hhome⟩
    have hrel : s.changer.relative (clamp (-9) 9 k) = _ := relativeSlot_of_ne (by simp only [clamp]; omega)
    have hrec : s.changer.targetOfRecord = s.changer.slot := by
      simp [Changer.targetOfRecord, hin, hpend]
    have hout : outside (-9) 9 k = decide (k < -9 ∨ 9 < k) := by simp [outside]
    intro kk t slot hne
    rw [hrec] at hrel
    have := hmove k hk hn (by rw [hrel]; exact hne)
    rw [hrel, hout] at this
    exact this
  · exact goto_in_a_change h (showBusy_eq_false hrun hheld) (by rcases hst with h | h <;> simp [h]) hlt
      (takeRequest_replaces (s := s.busyLine) hst)
  · exact goto_in_a_change h (showBusy_eq_false hrun hheld) (by simp [hst]) hlt
      (takeRequest_rotating (s := s.busyLine) hst hne hd)
  · exact goto_in_a_change h (showBusy_eq_false hrun hheld) (by rcases hst with h | h <;> simp [h]) hlt
      (takeRequest_pends (s := s.busyLine) hst)

end Sys2Proof.Machine

namespace Sys2Proof.Machine

/-! ## What a telling to the fault list leaves -/

/-- The fault list and the line have changed, the tellings `sigs` wait behind those of `s`, and the rest is that of `s`. -/
def Tells (sigs : List Signal) (s t : State) : Prop :=
  t = { s with faults := t.faults, line := t.line, signals := s.signals ++ sigs }

theorem Tells.refl (s : State) : Tells [] s s := by simp [Tells]

theorem Tells.trans {a b : List Signal} {s t u : State} (h : Tells a s t) (h' : Tells b t u) : Tells (a ++ b) s u := by
  unfold Tells at *
  rw [h', h]
  simp

/-- Tellings that wait for nobody, and then some more. -/
theorem Tells.trans_quiet {b : List Signal} {s t u : State} (h : Tells [] s t) (h' : Tells b t u) : Tells b s u :=
  h.trans h'

theorem Tells.quiet_trans {a : List Signal} {s t u : State} (h : Tells a s t) (h' : Tells [] t u) : Tells a s u := by
  simpa using h.trans h'

section
variable {sigs : List Signal} {s t : State}

theorem Tells.changer (h : Tells sigs s t) : t.changer = s.changer := by rw [h]
theorem Tells.pins (h : Tells sigs s t) : t.pins = s.pins := by rw [h]
theorem Tells.lamp (h : Tells sigs s t) : t.lamp = s.lamp := by rw [h]
theorem Tells.heat (h : Tells sigs s t) : t.heat = s.heat := by rw [h]
theorem Tells.tape (h : Tells sigs s t) : t.tape = s.tape := by rw [h]
theorem Tells.engine (h : Tells sigs s t) : t.engine = s.engine := by rw [h]
theorem Tells.signals (h : Tells sigs s t) : t.signals = s.signals ++ sigs := by rw [h]

/-- The same change of the changer before and after. -/
theorem Tells.onChanger (h : Tells sigs s t) (f : Changer → Changer) : Tells sigs (s.onChanger f) (t.onChanger f) := by
  unfold Tells at *
  rw [h]
  rfl

/-- What has changed, where the changer changed and the fault list was told. -/
theorem Tells.changed {f : Changer → Changer} (h : Tells [] (s.onChanger f) t) :
    t = { s with changer := f s.changer, faults := t.faults, line := t.line } := by
  unfold Tells at h
  rw [h]
  simp [State.onChanger]

theorem Tells.report (h : Tells sigs s t) (cls : ReportClass) (fields : List Field) :
    Tells sigs s (t.report cls fields) := by
  unfold Tells at *
  rw [h]
  rfl

theorem Tells.occupancyFollows (h : Tells sigs s t) (ho : OccupancyFollows s) : OccupancyFollows t := by
  rw [OccupancyFollows, h.changer, h.pins]; exact ho
end

/-! ## The records, and the tellings to the show engine -/

/-- R178: what the latch of a kind tells the show engine. -/
def latchTelling (k : FaultKind) (m : FaultMode) : List Signal :=
  match causeOf k with
  | some _ => [.causeIn k (heldByItself k m)]
  | none => []

section
variable {k : FaultKind} {s : State}

theorem onFaults_change_record (k : FaultKind) (f : FaultRecord → FaultRecord) (s : State) :
    (s.onFaults (Faults.change k f)).faults.record k = f (s.faults.record k) := Faults.record_change k f s.faults

/-- R201: a record already latched is left as it is. -/
theorem setLatch_of_latched (h : (s.faults.record k).latched = true) : setLatch k s = s := by
  simp [setLatch, h]

/-- R201: the latch is set. -/
theorem setLatch_record_self (k : FaultKind) (s : State) :
    (setLatch k s).faults.record k = { s.faults.record k with latched := true } := by
  unfold setLatch
  split
  next h => rw [← h]
  next => cases causeOf k <;> simp [State.onFaults, State.emit]

/-- R178, R201: a fresh latch tells the show engine. -/
theorem setLatch_tells (h : (s.faults.record k).latched = false) :
    Tells (latchTelling k (s.faults.record k).mode) s (setLatch k s) := by
  unfold Tells
  rw [setLatch_frame]
  congr 1
  unfold setLatch latchTelling
  rw [if_neg (by simp [h])]
  have hm : ∀ t : State, ((evaluateFaultLine (reportFault k [fw "LATCHED"] t)).faults.record k).mode =
    (t.faults.record k).mode := fun _ => rfl
  cases causeOf k <;> simp only [hm, onFaults_change_record] <;> simp [State.emit]
  · rfl
  · rfl

/-- R203: after a latch the fault line stands as the records do. -/
theorem setLatch_faultLine (k : FaultKind) {s : State} (h : FaultLineOk s) : FaultLineOk (setLatch k s) := by
  unfold setLatch
  split
  · exact h
  · cases causeOf k <;> rfl

/-- R201: what the record of a kind becomes at an occurrence. -/
def FaultRecord.occurred (k : FaultKind) (detail : Option FaultDetail) (t : Tape) (r : FaultRecord) : FaultRecord :=
  { r with
    present := true, count := satInc 255 r.count, detail := detail, tape := if t.present then some t.counter else none
    latched := r.latched || latchesAtOnce k r.mode }

/-- R201: an occurrence in a mode other than OFF, up to the latch. -/
def raiseRecord (k : FaultKind) (detail : Option FaultDetail) (s : State) : State :=
  evaluateFaultLine (reportRaised k ((s.onFaults (Faults.change k fun r => { r with present := true })).onFaults
    (Faults.change k fun r => { r with
      count := satInc 255 r.count, detail := detail, tape := if s.tape.present then some s.tape.counter else none })))

theorem tellPresent_eq (detail : Option FaultDetail) (hm : (s.faults.record k).mode ≠ .off) :
    tellPresent k detail s =
      if latchesAtOnce k (s.faults.record k).mode then setLatch k (raiseRecord k detail s) else raiseRecord k detail s := by
  unfold tellPresent
  dsimp only
  rw [onFaults_change_record, if_neg (by exact hm)]
  rfl

theorem raiseRecord_tells (k : FaultKind) (detail : Option FaultDetail) (s : State) :
    Tells [] s (raiseRecord k detail s) := by
  simp [raiseRecord, Tells, evaluateFaultLine, State.onFaults, reportRaised, reportFault, State.report, State.onLine]

theorem raiseRecord_faultLine (k : FaultKind) (detail : Option FaultDetail) (s : State) :
    FaultLineOk (raiseRecord k detail s) := rfl

theorem raiseRecord_record_self (k : FaultKind) (detail : Option FaultDetail) (s : State) :
    (raiseRecord k detail s).faults.record k = { s.faults.record k with
      present := true, count := satInc 255 (s.faults.record k).count, detail := detail
      tape := if s.tape.present then some s.tape.counter else none } := by
  simp only [raiseRecord, evaluateFaultLine_record, reportRaised_faults, onFaults_change_record]

/-- R201: the record after an occurrence. -/
theorem tellPresent_record_self (detail : Option FaultDetail) (hm : (s.faults.record k).mode ≠ .off) :
    (tellPresent k detail s).faults.record k = (s.faults.record k).occurred k detail s.tape := by
  rw [tellPresent_eq detail hm, FaultRecord.occurred]
  split
  next h => rw [setLatch_record_self, raiseRecord_record_self]; simp [h]
  next h => rw [raiseRecord_record_self]; simp [h]

/-- R201: an occurrence that latches nothing tells the show engine nothing. -/
theorem tellPresent_quiet (detail : Option FaultDetail) (hm : (s.faults.record k).mode ≠ .off)
    (hl : latchesAtOnce k (s.faults.record k).mode = false ∨ (s.faults.record k).latched = true) :
    Tells [] s (tellPresent k detail s) := by
  have hs := raiseRecord_tells k detail s
  rw [tellPresent_eq detail hm]
  split
  next h => rwa [setLatch_of_latched (by simpa [h, raiseRecord_record_self] using hl)]
  next => exact hs

/-- R178, R201: an occurrence that latches its record tells the show engine. -/
theorem tellPresent_latches (detail : Option FaultDetail) (hm : (s.faults.record k).mode ≠ .off)
    (hl : latchesAtOnce k (s.faults.record k).mode = true) (hf : (s.faults.record k).latched = false) :
    Tells (latchTelling k (s.faults.record k).mode) s (tellPresent k detail s) := by
  have hlatch := setLatch_tells (k := k) (s := raiseRecord k detail s) (by rw [raiseRecord_record_self]; exact hf)
  rw [raiseRecord_record_self] at hlatch
  rw [tellPresent_eq detail hm, if_pos hl]
  exact (raiseRecord_tells k detail s).trans_quiet hlatch

/-- R203: after an occurrence the fault line stands as the records do. -/
theorem tellPresent_faultLine (detail : Option FaultDetail) (hm : (s.faults.record k).mode ≠ .off) :
    FaultLineOk (tellPresent k detail s) := by
  have hf := raiseRecord_faultLine k detail s
  rw [tellPresent_eq detail hm]
  split
  · exact setLatch_faultLine k hf
  · exact hf

/-- R202: where the condition is not present, nothing goes. -/
theorem tellGone_of_absent (h : (s.faults.record k).present = false) : tellGone k s = s := by
  simp [tellGone, h]

/-- R202: a condition that goes leaves the latch, in every kind but FAN_STALL and SUPPLY_LOW. -/
theorem tellGone_keeps_latch (h1 : k ≠ .fanStall) (h2 : k ≠ .supplyLow) (s : State) :
    (tellGone k s).faults.record k = { s.faults.record k with present := false } ∧ Tells [] s (tellGone k s) ∧
      (FaultLineOk s → FaultLineOk (tellGone k s)) := by
  by_cases hp : (s.faults.record k).present
  · unfold tellGone
    dsimp only
    rw [if_neg (by simp [hp]), if_neg (not_or.2 ⟨h1, h2⟩)]
    refine ⟨?_, ?_, fun _ => rfl⟩
    · rw [evaluateFaultLine_record]
      split <;> (try split) <;> simp [State.onFaults]
    · unfold Tells
      split <;> (try split) <;>
        simp [evaluateFaultLine, State.onFaults, reportFault, State.report, State.onLine]
  · have hp : (s.faults.record k).present = false := by simpa using hp
    rw [tellGone_of_absent hp]
    exact ⟨by rw [← hp], .refl s, id⟩

/-- R203: a record that is active asserts the fault line. -/
theorem anyActive_of_active {f : Faults} (h : (f.record k).active k = true) : f.anyActive = true := by
  rw [Faults.anyActive, List.any_eq_true]
  exact ⟨k, by cases k <;> decide, h⟩

/-- R203: a fault line that stands as the records do is asserted where one is active. -/
theorem asserted_of_active (hf : FaultLineOk s) (h : (s.faults.record k).active k = true) : s.faults.asserted = true :=
  hf.trans (anyActive_of_active h)
end

/-! ## The receiving of a cause outside a show -/

/-- R178: outside a show a change of the cause set is that change alone. -/
theorem setCauses_outside_show {s : State} (cs : List Cause) (hr : s.engine.state ≠ .running)
    (hh : s.engine.state ≠ .held) : setCauses cs s = s.onEngine fun e => { e with causes := inOrder cs } := by
  unfold setCauses
  dsimp only
  split
  next h => simp [State.onEngine, h]
  next => split <;> simp_all [State.onEngine]

/-- R178: outside a show a cause enters alone. -/
theorem causeEnters_outside_show {s : State} {k : FaultKind} {c : Cause} (byItself : Bool) (hk : causeOf k = some c)
    (hr : s.engine.state ≠ .running) (hh : s.engine.state ≠ .held) :
    causeEnters k byItself s = s.onEngine fun e => { e with causes := inOrder (c :: e.causes) } := by
  simp only [causeEnters, hk, showBusy_eq_false hr hh, Bool.false_and, Bool.false_eq_true, if_false, List.nil_append]
  exact setCauses_outside_show _ hr hh

/-- R178: outside a show, the telling of a latch is received: its cause enters the set. -/
theorem Tells.drain_latch {s t : State} {k : FaultKind} {m : FaultMode} {c : Cause} (h : Tells (latchTelling k m) s t)
    (hs : s.signals = []) (hk : causeOf k = some c) (hr : s.engine.state ≠ .running) (hh : s.engine.state ≠ .held) :
    drain t = { s with
      faults := t.faults, line := t.line
      engine := { s.engine with causes := Cause.all.filter (· ∈ c :: s.engine.causes) } } := by
  have hsig : t.signals = [.causeIn k (heldByItself k m)] := by rw [h.signals, hs, latchTelling, hk]; rfl
  have hrec : receive (.causeIn k (heldByItself k m)) { t with signals := [] } =
      { t with signals := [] }.onEngine fun e => { e with causes := inOrder (c :: e.causes) } :=
    causeEnters_outside_show _ hk (by rw [← h.engine] at hr; exact hr) (by rw [← h.engine] at hh; exact hh)
  rw [drain_one hsig (by rw [hrec]; rfl), hrec]
  unfold Tells at h
  rw [h, ← hs]
  rfl

/-- A telling that told nobody is received at once. -/
theorem Tells.drain_quiet {s t : State} (h : Tells [] s t) (hs : s.signals = []) : drain t = t :=
  drain_of_quiet (by rw [h.signals, hs]; rfl)

end Sys2Proof.Machine

namespace Sys2Proof.Machine

/-! ## Jams, case by case -/

/-- R36: the changer as it enters JAMMED, its arm at `arm`. -/
def Changer.jammed (kind : FaultKind) (phase : Phase) (arm : Arm) (c : Changer) : Changer :=
  { c.stopped with
    arm := arm, state := .jammed, jam := some (kind, phase), inFlight := none, pendingTarget := none, retryPhase := none
    phaseTimer := none, backoffTimer := none, settleTimer := none }

section
variable {s : State}

/-- R36: the state in which the fault list is told that the changer is JAMMED. -/
def jamReported (kind : FaultKind) (phase : Phase) (s : State) : State :=
  (s.onChanger (Changer.jammed kind phase (armOf s.pins.topSwitch s.pins.seatSwitch false))).report .slide
    [fw "JAMMED", fw phase.word, fi s.changer.slot]

theorem jamReported_tells (kind : FaultKind) (phase : Phase) (s : State) :
    Tells [] (s.onChanger (Changer.jammed kind phase (armOf s.pins.topSwitch s.pins.seatSwitch false)))
      (jamReported kind phase s) :=
  (Tells.refl _).report _ _

theorem enterJammed_eq (ho : OccupancyFollows s) (kind : FaultKind) (phase : Phase) :
    enterJammed kind phase s =
      tellGone .jam (if kind = .jam then setLatch .jam (jamReported kind phase s) else jamReported kind phase s) := by
  unfold enterJammed
  rw [stopMotors_quiet ho]
  rfl

/-- R36: a jam of another kind, with the condition of JAM absent, only reports. -/
theorem enterJammed_of_other (ho : OccupancyFollows s) {kind : FaultKind} (hk : kind ≠ .jam)
    (hj : (s.faults.record .jam).present = false) (phase : Phase) :
    enterJammed kind phase s = jamReported kind phase s := by
  rw [enterJammed_eq ho, if_neg hk]
  exact tellGone_of_absent hj

/-- R36, R201: a jam latches its record, and its condition goes. -/
theorem enterJammed_jam (ho : OccupancyFollows s) (phase : Phase) :
    Tells (if (s.faults.record .jam).latched then [] else latchTelling .jam (s.faults.record .jam).mode)
        (s.onChanger (Changer.jammed .jam phase (armOf s.pins.topSwitch s.pins.seatSwitch false)))
        (enterJammed .jam phase s) ∧
      (enterJammed .jam phase s).faults.record .jam =
        { s.faults.record .jam with latched := true, present := false } ∧
      (∀ k, k ≠ .jam → (enterJammed .jam phase s).faults.record k = s.faults.record k) ∧
      (FaultLineOk s → FaultLineOk (enterJammed .jam phase s)) := by
  rw [enterJammed_eq ho, if_pos rfl]
  obtain ⟨hrec, htells, hline⟩ := tellGone_keeps_latch (k := .jam) (by decide) (by decide)
    (setLatch .jam (jamReported .jam phase s))
  refine ⟨?_, ?_, fun k hk => ?_, fun h => hline (setLatch_faultLine .jam h)⟩
  · refine ((jamReported_tells .jam phase s).trans_quiet ?_).quiet_trans htells
    split
    next h => rw [setLatch_of_latched (by exact h)]; exact .refl _
    next h => exact setLatch_tells (k := .jam) (s := jamReported .jam phase s) (by simpa [jamReported] using h)
  · rw [hrec, setLatch_record_self]; rfl
  · rw [tellGone_record hk, setLatch_record hk]; rfl

/-- R27, R33, R36, R201: a jam of another kind, with JAM absent: its own record latches and stays present. -/
theorem enterJammed_latching {kind : FaultKind} (hk : kind ≠ .jam) (ho : OccupancyFollows s)
    (hm : (s.faults.record kind).mode = .latch) (hf : (s.faults.record kind).latched = false)
    (hj : (s.faults.record .jam).present = false) (detail : Option FaultDetail) (phase : Phase) :
    Tells (latchTelling kind .latch)
        (s.onChanger (Changer.jammed kind phase (armOf s.pins.topSwitch s.pins.seatSwitch false)))
        (enterJammed kind phase (tellPresent kind detail s)) ∧
      (enterJammed kind phase (tellPresent kind detail s)).faults.record kind = { s.faults.record kind with
        present := true, latched := true, count := min 255 ((s.faults.record kind).count + 1), detail := detail
        tape := if s.tape.present then some s.tape.counter else none } ∧
      (∀ k, k ≠ kind → (enterJammed kind phase (tellPresent kind detail s)).faults.record k = s.faults.record k) ∧
      FaultLineOk (enterJammed kind phase (tellPresent kind detail s)) := by
  have hoff : (s.faults.record kind).mode ≠ .off := by simp [hm]
  have htold := tellPresent_latches detail hoff (by simp [hm, latchesAtOnce]) hf
  rw [hm] at htold
  rw [enterJammed_of_other (htold.occupancyFollows ho) hk (by rw [tellPresent_record hk.symm]; exact hj)]
  refine ⟨?_, ?_, fun k hk' => tellPresent_record hk' detail s, tellPresent_faultLine detail hoff⟩
  · have hrep := jamReported_tells kind phase (tellPresent kind detail s)
    rw [htold.pins] at hrep
    exact (htold.onChanger _).quiet_trans hrep
  · show (tellPresent kind detail s).faults.record kind = _
    rw [tellPresent_record_self detail hoff, FaultRecord.occurred]
    simp [satInc, hm, latchesAtOnce]

/-- R34, R35: BACKOFF of a phase whose motor is in its dead time: the drive waits. -/
theorem enterBackoff_waits {phase : Phase} (hg : motorOf phase = .gate → s.changer.gateDead ≠ none)
    (ht : motorOf phase = .tray → s.changer.trayDead ≠ none ∧ s.changer.arm = .lifted) :
    enterBackoff phase s = s.onChanger fun c => { c with
      state := .backoff, backoffPhase := phase, backoffDriven := false, backoffCounted := false, backoffTimer := none
      phaseTimer := none, retryPhase := some phase, startDue := true } := by
  refine drive_of_startDrive ?_
  cases phase with
  | lift => exact startDrive_gate_waits (a := .down) rfl (hg rfl)
  | drop => exact startDrive_gate_waits (a := .up) rfl (hg rfl)
  | rotate => exact startDrive_tray_waits rfl (ht rfl).2 (ht rfl).1
  | homing => exact startDrive_tray_waits (d := .reverse) rfl (ht rfl).2 (ht rfl).1

/-- R22, R34: in a phase that can jam it is the phase's motor that is driven. -/
theorem driven_of_phase (h : ChangerOk s) {phase : Phase} (hp : jamPhase s.changer.state = some phase)
    (hd : s.changer.driven = true) :
    (motorOf phase = .gate → s.changer.gateDrive.isSome = true) ∧
      (motorOf phase = .tray → s.changer.trayDrive.isSome = true ∧ s.changer.arm = .lifted) := by
  obtain ⟨-, ⟨htray, hgate⟩, -, -⟩ := h
  have hw : s.changer.wanted.map Drive.motor = some (motorOf phase) := by
    revert hp
    unfold jamPhase Changer.wanted
    cases s.changer.state <;> simp <;> rintro rfl <;> rfl
  rw [Changer.driven, Bool.or_eq_true] at hd
  rcases hd with hd | hd
  · obtain ⟨-, ha, hm, -⟩ := htray hd
    have : motorOf phase = .tray := by simpa using hw.symm.trans hm
    simp [this, hd, ha]
  · obtain ⟨-, hm, -⟩ := hgate hd
    have : motorOf phase = .gate := by simpa using hw.symm.trans hm
    simp [this, hd]

/-- R34: a jam event stops the motors and tells the fault list. -/
def jamTold (phase : Phase) (s : State) : State :=
  tellPresent .jam (some (.phaseSlot phase s.changer.slot)) s.motorsOff

theorem jamEvent_eq (ho : OccupancyFollows s) {phase : Phase} (hp : jamPhase s.changer.state = some phase) :
    jamEvent s =
      if ((jamTold phase s).faults.record .jam).mode = .retry ∧
          (jamTold phase s).changer.retries < (jamTold phase s).changer.retriesMax
      then enterBackoff phase (jamTold phase s) else enterJammed .jam phase (jamTold phase s) := by
  unfold jamEvent
  rw [hp]
  dsimp only
  rw [stopMotors_quiet ho]
  rfl

/-- R34: the JAM record after the telling. -/
theorem jamTold_record (hoff : (s.faults.record .jam).mode ≠ .off) (phase : Phase) :
    (jamTold phase s).faults.record .jam =
      (s.faults.record .jam).occurred .jam (some (.phaseSlot phase s.changer.slot)) s.tape :=
  tellPresent_record_self (s := s.motorsOff) _ hoff

/-- R34, R201: the telling of a jam latches in LATCH mode alone. -/
theorem jamTold_tells (phase : Phase) (hf : (s.faults.record .jam).latched = false)
    (hm : (s.faults.record .jam).mode = .latch ∨ (s.faults.record .jam).mode = .retry) :
    Tells (if ((jamTold phase s).faults.record .jam).latched then latchTelling .jam (s.faults.record .jam).mode else [])
      s.motorsOff (jamTold phase s) := by
  have hoff : (s.faults.record .jam).mode ≠ .off := by rcases hm with hm | hm <;> simp [hm]
  rw [jamTold_record hoff, FaultRecord.occurred]
  rcases hm with hm | hm
  · rw [if_pos (by simp [hm, latchesAtOnce])]
    exact tellPresent_latches (s := s.motorsOff) _ hoff (by simp [hm, latchesAtOnce]) hf
  · rw [if_neg (by simp [hf, hm, latchesAtOnce])]
    exact tellPresent_quiet (s := s.motorsOff) _ hoff (.inl (by simp [hm, latchesAtOnce]))

/-- R34: what the fault list is told of a jam leaves the changer as it was. -/
theorem jamTold_changer (phase : Phase) (s : State) : (jamTold phase s).changer = s.motorsOff.changer := by
  unfold jamTold; rw [tellPresent_frame]

/-- R34, R35, R201: a jam event with retries left. -/
theorem jamEvent_backs_off (h : ChangerOk s) {phase : Phase} (hp : jamPhase s.changer.state = some phase)
    (hd : s.changer.driven = true) (hm : (s.faults.record .jam).mode = .retry)
    (hr : s.changer.retries < s.changer.retriesMax) :
    Tells [] (s.motorsOff.onChanger fun c => { c with
        state := .backoff, backoffPhase := phase
        backoffDriven := false, backoffCounted := false, backoffTimer := none, phaseTimer := none
        retryPhase := some phase, startDue := true }) (jamEvent s) ∧
      (jamEvent s).faults.record .jam = { s.faults.record .jam with
        present := true, count := min 255 ((s.faults.record .jam).count + 1)
        detail := some (.phaseSlot phase s.changer.slot), tape := if s.tape.present then some s.tape.counter else none } ∧
      (∀ k, k ≠ .jam → (jamEvent s).faults.record k = s.faults.record k) := by
  have hoff : (s.faults.record .jam).mode ≠ .off := by simp [hm]
  have htold : Tells [] s.motorsOff (jamTold phase s) :=
    tellPresent_quiet (s := s.motorsOff) _ hoff (.inl (by simp [hm, latchesAtOnce]))
  have hrec := jamTold_record hoff phase
  obtain ⟨hgate, htray⟩ := driven_of_phase h hp hd
  have hback := by
    refine enterBackoff_waits (phase := phase) (s := jamTold phase s) (fun hg => ?_) (fun ht => ?_) <;> rw [htold.changer]
    · simp [Changer.stopped, hgate hg]
    · obtain ⟨hdrive, ha⟩ := htray ht
      obtain ⟨⟨harm, -⟩, ⟨hoff, -⟩, -, -⟩ := h
      refine ⟨by simp [Changer.stopped, hdrive], ?_⟩
      rw [← ha, harm, (hoff hdrive).1]; rfl
  rw [jamEvent_eq (occupancyFollows_of_gate h.1) hp, if_pos ⟨by rw [hrec]; exact hm, by rw [htold.changer]; exact hr⟩, hback]
  refine ⟨htold.onChanger _, ?_, fun k hk => tellPresent_record hk _ _⟩
  show (jamTold phase s).faults.record .jam = _
  rw [hrec, FaultRecord.occurred]
  simp [satInc, hm, latchesAtOnce]

/-- R34, R36, R201: a jam event in LATCH mode, or with the retries used up. -/
theorem jamEvent_jams (h : ChangerOk s) {phase : Phase} (hp : jamPhase s.changer.state = some phase)
    (hm : (s.faults.record .jam).mode = .latch ∨
      (s.changer.retriesMax ≤ s.changer.retries ∧ (s.faults.record .jam).mode = .retry))
    (hf : (s.faults.record .jam).latched = false) :
    Tells (latchTelling .jam (s.faults.record .jam).mode)
        (s.onChanger (Changer.jammed .jam phase (armOf s.pins.topSwitch s.pins.seatSwitch false))) (jamEvent s) ∧
      (jamEvent s).faults.record .jam = { s.faults.record .jam with
        present := false, latched := true, count := min 255 ((s.faults.record .jam).count + 1)
        detail := some (.phaseSlot phase s.changer.slot), tape := if s.tape.present then some s.tape.counter else none } ∧
      (∀ k, k ≠ .jam → (jamEvent s).faults.record k = s.faults.record k) ∧ (jamEvent s).faults.asserted = true := by
  have hoff : (s.faults.record .jam).mode ≠ .off := by rcases hm with hm | ⟨-, hm⟩ <;> simp [hm]
  have hrec := jamTold_record hoff phase
  have htold := jamTold_tells phase hf (hm.imp_right And.right)
  have hexhausted : ¬(((jamTold phase s).faults.record .jam).mode = .retry ∧
      (jamTold phase s).changer.retries < (jamTold phase s).changer.retriesMax) := by
    rw [hrec, jamTold_changer]
    rintro ⟨hm', hlt⟩
    rcases hm with hm | ⟨hle, -⟩
    · exact absurd (hm.symm.trans hm') (by decide)
    · exact absurd hlt (Nat.not_lt.2 hle)
  obtain ⟨hjam, hjrec, hother, hline⟩ :=
    enterJammed_jam (htold.occupancyFollows (s := s.motorsOff) (occupancyFollows_of_gate (s := s) h.1)) phase
  rw [jamEvent_eq (occupancyFollows_of_gate h.1) hp, if_neg hexhausted]
  have hfinal : (enterJammed .jam phase (jamTold phase s)).faults.record .jam = { s.faults.record .jam with
      present := false, latched := true, count := min 255 ((s.faults.record .jam).count + 1)
      detail := some (.phaseSlot phase s.changer.slot)
      tape := if s.tape.present then some s.tape.counter else none } := by
    rw [hjrec, hrec]; rfl
  refine ⟨?_, hfinal, fun k hk => (hother k hk).trans (tellPresent_record hk _ _), ?_⟩
  · rw [htold.pins] at hjam
    have htrans := (htold.onChanger _).trans hjam
    have hmode : ((jamTold phase s).faults.record .jam).mode = (s.faults.record .jam).mode := by rw [hrec]; rfl
    rw [hmode] at htrans
    refine cast (congrArg (Tells · _ _) ?_) htrans
    split <;> simp
  · refine asserted_of_active (k := .jam) (hline (tellPresent_faultLine _ hoff)) ?_
    rw [hfinal]
    simpa [FaultRecord.active, holdsAction] using hoff

/-- R34: a deglitch time that runs, and a phase timeout of a driven phase, end in a jam event. -/
theorem jam_instr_acts {i : Instr} (hd : s.changer.driven = true)
    (hi : (i = .overcurrentDeglitchEnd ∧ s.changer.deglitch ≠ none) ∨ i = .phaseTimeout) :
    exec i s = .next (drain (jamEvent s)) := by
  rcases hi with ⟨rfl, hg⟩ | rfl
  · show happens deglitchEnds s = _
    rw [happens, deglitchEnds, if_pos (Option.isSome_iff_ne_none.2 hg)]
  · show happens phaseRunsOut s = _
    rw [happens, phaseRunsOut, if_pos hd]
end

/-- Settles O24: either instruction is a jam event, of which `jamEvent_backs_off` and `jamEvent_jams` say what it does. -/
theorem aJamBacksOffOrJams : Obligations.AJamBacksOffOrJams := by
  intro s i phase hs h hphase hdriven hi
  have hp : jamPhase s.changer.state = some phase := by
    simp only [List.mem_cons, Prod.mk.injEq, List.not_mem_nil, or_false] at hphase
    rcases hphase with ⟨hst, rfl⟩ | ⟨hst, rfl⟩ | ⟨hst, rfl⟩ | ⟨hst, rfl⟩ <;> rw [hst] <;> rfl
  have hd : s.changer.driven = true := by simpa [Changer.driven] using hdriven
  have hacts := jam_instr_acts hd hi
  refine ⟨fun hm hr => ?_, fun hm hf hrun hheld => ?_⟩
  · obtain ⟨htells, hrec, hother⟩ := jamEvent_backs_off h hp hd hm hr
    rw [htells.drain_quiet hs.2] at hacts
    exact ⟨_, hacts, htells.changed, hrec, hother⟩
  · obtain ⟨htells, hrec, hother, hline⟩ := jamEvent_jams h hp hm hf
    rw [htells.drain_latch hs.2 rfl hrun hheld] at hacts
    exact ⟨_, hacts, rfl, hrec, hother, hline⟩

end Sys2Proof.Machine

namespace Sys2Proof.Machine

/-! ## Completed changes -/

/-- R31, R61: a change to `b` completes: its report, and what the lamp controller and the show engine are told. -/
def changeTold (word : String) (b : Target) (s : State) : State :=
  (dwellSeesCompletion s.changer.occupancy (s.report .slide [fi b.slot, fw word])).emit (.changeDone b.slot b.origin)

/-- R28, R31: the changer after a completed change, its pending target in flight. -/
def Changer.completed (c : Changer) : Changer :=
  { c with state := .idle, inFlight := c.pendingTarget, pendingTarget := none, phaseTimer := none, settleTimer := none }

theorem changeCompletes_eq {s : State} {b : Target} (word : String) (hb : s.changer.inFlight = some b) :
    changeCompletes word s = ((changeTold word b s).onChanger Changer.completed,
      if ((changeTold word b s).changer.pendingTarget).isSome then some .change else none) := by
  unfold changeCompletes Changer.goal
  dsimp only
  rw [hb]
  rfl

@[simp] theorem changeTold_changer (word : String) (b : Target) (s : State) :
    (changeTold word b s).changer = s.changer := by
  unfold changeTold
  rw [(dwellSeesCompletion_frame _ _).1]
  rfl

/-- R28: the change of a park completes with nothing pending. -/
theorem enterAll_parked {s : State} {b : Target} (hb : s.changer.inFlight = some b) (hp : s.changer.pendingTarget = none)
    (n : Nat) : enterAll (n + 1) .parked s = (changeTold "PARKED" b s).onChanger Changer.completed := by
  refine enterAll_last ?_ n
  show changeCompletes "PARKED" s = _
  rw [changeCompletes_eq "PARKED" hb]
  simp [hp]

/-- R31: a change completes with nothing pending. -/
theorem enterAll_settled {s : State} {b : Target} (hb : s.changer.inFlight = some b) (hp : s.changer.pendingTarget = none)
    (n : Nat) :
    enterAll (n + 1) .settled s = (changeTold (seatedWord s.changer.occupancy) b s).onChanger Changer.completed := by
  refine enterAll_last ?_ n
  show changeCompletes _ s = _
  rw [changeCompletes_eq _ hb]
  simp [hp]

/-- R31, R40: a change completes, and the pending target begins the next. -/
theorem enterAll_settled_pending {s : State} {b p : Target} (hb : s.changer.inFlight = some b)
    (hp : s.changer.pendingTarget = some p) (n : Nat) :
    enterAll (n + 1) .settled s =
      enterAll n .change ((changeTold (seatedWord s.changer.occupancy) b s).onChanger Changer.completed) := by
  refine enterAll_next ?_ n
  show changeCompletes _ s = _
  rw [changeCompletes_eq _ hb]
  simp [hp]

/-- Tellings whose receivers do nothing are taken away. -/
theorem drainAll_of_deaf {s : State} (h : ∀ sig ∈ s.signals, ∀ t : State, t.engine = s.engine → receive sig t = t) {n : Nat}
    (hn : s.signals.length ≤ n) : { drainAll n s with signals := [] } = { s with signals := [] } := by
  induction n generalizing s with
  | zero => rfl
  | succ n ih =>
    rw [drainAll]
    split
    next => rfl
    next sig rest hsig =>
      rw [hsig] at h hn
      dsimp only
      rw [h sig (by simp) { s with signals := [] } rfl]
      refine ih (s := { s with signals := rest }) (fun sig' hmem => h sig' (by simp at hmem ⊢; exact .inr hmem)) ?_
      simpa using hn

/-- R31: outside a step of the show, the completions of changes reach nobody. -/
theorem drain_of_changes_done {s : State} (h : s.engine.execution = none)
    (hs : ∀ sig ∈ s.signals, ∃ slot origin, sig = .changeDone slot origin) (hn : s.signals.length ≤ 1000) :
    drain s = { s with signals := [] } := by
  refine drainAll_of_deaf (fun sig hsig t ht => ?_) hn
  obtain ⟨slot, origin, rfl⟩ := hs sig hsig
  show engineSeesChange slot origin t = t
  simp [engineSeesChange, ht, h]

/-- R31: outside a step of the show, the completion of a change leads to nothing further. -/
theorem drain_of_change_done {s : State} (slot : Nat) (origin : Origin) (h : s.engine.execution = none)
    (hs : s.signals = []) : drain (s.emit (.changeDone slot origin)) = s := by
  rw [drain_of_changes_done (by exact h) (by simp [State.emit, hs]) (by simp [State.emit, hs])]
  cases s
  simp_all [State.emit]

/-! ## Index pulses, case by case -/

section
variable {s : State} {zero : Bool}

/-- R19: a pulse that moves the slot at a known position. -/
theorem indexMoves_known (ht : s.changer.trayPresent = true) (hh : s.changer.homes = false)
    (hk : s.changer.status = .known) :
    indexMoves zero s = zeroCheck ((s.onPins fun p => { p with zeroSensor := zero }).onChanger fun c =>
      { c with slot := movedSlot c.size c.slot c.lastDriven }) := by
  unfold indexMoves
  dsimp only
  rw [if_neg (by simp [ht]), if_neg (by simp [Changer.homingRun, hh])]
  simp only [State.onPins_changer, hk]

/-- R32: a pulse in HOMING is one of a homing run. -/
theorem indexMoves_homing (ht : s.changer.trayPresent = true) (hh : s.changer.homes = true)
    (hst : s.changer.state = .homing) :
    indexMoves zero s = homingPulse (s.onPins fun p => { p with zeroSensor := zero }) := by
  unfold indexMoves
  dsimp only
  rw [if_neg (by simp [ht]),
    if_pos (by simp [Changer.homingRun, Changer.heldOrState_of_ne (c := s.changer) (by simp [hst]), hh, hst])]

/-- R29: the zero sensor agrees with the slot. -/
theorem zeroCheck_agrees (hz : s.pins.zeroSensor = decide (s.changer.slot = 0)) : zeroCheck s = rotationPulse s := by
  unfold zeroCheck
  dsimp only
  rw [hz, if_neg (by simp), if_neg (by simp)]

/-- R29: the zero sensor at another slot, with the tray not rotating. -/
theorem zeroCheck_slips (hz : s.pins.zeroSensor = true) (hn : s.changer.slot ≠ 0) (hst : s.changer.state ≠ .rotating) :
    zeroCheck s = (s.onChanger fun c => { c with slot := 0 }).report .slide [fw "SLIP", fi s.changer.slot] := by
  unfold zeroCheck
  dsimp only
  rw [if_pos ⟨hz, hn⟩, if_neg (by exact hst)]

/-- R29: no zero sensor at slot 0. -/
theorem zeroCheck_unsure (hz : s.pins.zeroSensor = false) (hn : s.changer.slot = 0) :
    zeroCheck s = rotationPulse ((s.onChanger fun c => { c with status := .unsure }).report .slide [fw "UNSURE"]) := by
  unfold zeroCheck
  dsimp only
  rw [if_neg (by simp [hz]), if_pos ⟨hz, hn⟩]

/-- R28: outside ROTATING a pulse leads to nothing further. -/
theorem rotationPulse_elsewhere (hst : s.changer.state ≠ .rotating) : rotationPulse s = s := if_pos hst

/-- R28: short of the target the index timeout restarts. -/
theorem rotationPulse_passes (hst : s.changer.state = .rotating) (hg : s.changer.goal ≠ s.changer.slot) :
    rotationPulse s = s.onChanger fun c => { c with phaseTimer := some 0 } := by
  rw [rotationPulse, if_neg (by simp [hst]), if_neg hg]

/-- R28: at the target the rotation ends. -/
theorem rotationPulse_reaches (hst : s.changer.state = .rotating) (hg : s.changer.goal = s.changer.slot) :
    rotationPulse s = enter .rotated s := by
  rw [rotationPulse, if_neg (by simp [hst]), if_pos hg]

/-- R32: a pulse in HOMING with the zero sensor active ends the run. -/
theorem homingPulse_finds (hst : s.changer.state = .homing) (hz : s.pins.zeroSensor = true) :
    homingPulse s = enter .zeroFound (s.onChanger fun c => { c with homingCount := c.homingCount + 1 }) := by
  unfold homingPulse
  dsimp only
  rw [if_neg (by simp [hst]), if_pos (by exact hz)]

/-- R33: a pulse in HOMING within the limit is counted. -/
theorem homingPulse_counts (hst : s.changer.state = .homing) (hz : s.pins.zeroSensor = false)
    (hn : s.changer.homingCount + 1 < s.changer.size + 2) :
    homingPulse s = s.onChanger fun c => { c with homingCount := c.homingCount + 1, phaseTimer := some 0 } := by
  unfold homingPulse
  dsimp only
  rw [if_neg (by simp [hst]), if_neg (by simp [hz]), if_neg (by simpa using hn)]
  rfl

/-- R33: the pulse in HOMING that is one too many. -/
theorem homingPulse_gives_up (hst : s.changer.state = .homing) (hz : s.pins.zeroSensor = false)
    (hn : s.changer.size + 2 ≤ s.changer.homingCount + 1)
    (ho : OccupancyFollows s) :
    homingPulse s = tellGone .noZero (enterJammed .noZero .homing (tellPresent .noZero
      (some (.num (s.changer.homingCount + 1 : Nat)))
      (s.onChanger fun c => { c with homingCount := c.homingCount + 1 }).motorsOff)) := by
  unfold homingPulse
  dsimp only
  rw [if_neg (by simp [hst]), if_neg (by simp [hz]), if_pos (by exact hn), stopMotors_quiet (by exact ho)]
  rfl

/-- R19: between commands a pulse that tells nobody anything. -/
theorem exec_indexPulse {t : State} (hs : s.signals = []) (h : indexMoves zero s = t) (ht : t.signals = s.signals) :
    exec (.indexPulse zero) s = .next t := by
  subst h
  exact happens_of_quiet (ht.trans hs)
end

/-! ## Pulses that lead to no other phase -/

section
variable {s : State}

/-- R19, R28, R29: pulses at a known position, outside a homing run. -/
theorem pulses_at_a_known_slot (hs : s.signals = []) (ht : s.changer.trayPresent = true) (hh : s.changer.homes = false)
    (hk : s.changer.status = .known) {m : Nat} (hm : movedSlot s.changer.size s.changer.slot s.changer.lastDriven = m) :
    (s.changer.state = .rotating → m ≠ 0 → s.changer.inFlight.map Target.slot ≠ some m → s.changer.inFlight ≠ none →
      exec (.indexPulse false) s = .next ((s.onPins fun p => { p with zeroSensor := false }).onChanger fun c =>
        { c with slot := m, phaseTimer := some 0 })) ∧
    (s.changer.state = .idle → m ≠ 0 →
      exec (.indexPulse false) s = .next ((s.onPins fun p => { p with zeroSensor := false }).onChanger fun c =>
        { c with slot := m }) ∧
      exec (.indexPulse true) s = .next (((s.onPins fun p => { p with zeroSensor := true }).onChanger fun c =>
        { c with slot := 0 }).report .slide [fw "SLIP", fi m])) ∧
    (s.changer.state = .idle → m = 0 →
      exec (.indexPulse false) s = .next (((s.onPins fun p => { p with zeroSensor := false }).onChanger fun c =>
        { c with slot := 0, status := .unsure }).report .slide [fw "UNSURE"])) := by
  subst hm
  refine ⟨fun hst hm hg hin => ?_, fun hst hm => ⟨?_, ?_⟩, fun hst hm => ?_⟩
  · refine exec_indexPulse hs ?_ rfl
    obtain ⟨b, hb⟩ := Option.ne_none_iff_exists'.1 hin
    rw [indexMoves_known ht hh hk, zeroCheck_agrees (by simp [hm]), rotationPulse_passes (by exact hst)]
    · rfl
    · simpa [Changer.goal, hb] using hg
  · refine exec_indexPulse hs ?_ rfl
    rw [indexMoves_known ht hh hk, zeroCheck_agrees (by simp [hm]), rotationPulse_elsewhere (by simp [hst])]
    rfl
  · refine exec_indexPulse hs ?_ rfl
    rw [indexMoves_known ht hh hk, zeroCheck_slips rfl (by exact hm) (by simp [hst])]
    rfl
  · refine exec_indexPulse hs ?_ rfl
    rw [indexMoves_known ht hh hk, zeroCheck_unsure rfl (by exact hm), rotationPulse_elsewhere]
    · simp [State.onChanger, hm]
    · simp [State.report, hst]

/-! ## The pulse that reaches the target -/

theorem occupancyFollows_of_lifted (hl : LiftedAtWork s) : OccupancyFollows s := by
  obtain ⟨htop, hseat, -, hocc, -, -⟩ := hl
  rw [OccupancyFollows, htop, hseat, hocc]; rfl

/-- R23: with the arm LIFTED and its motor off, the stop of the motors is that of the tray motor. -/
theorem motorsOff_of_lifted (hl : LiftedAtWork s) :
    s.motorsOff = s.onChanger fun c => { c with
      trayDrive := none, trayDead := if s.changer.trayDrive.isSome then some 0 else s.changer.trayDead, startDue := false
      blanking := none, deglitch := none } := by
  obtain ⟨htop, hseat, harm, -, hgd, -⟩ := hl
  refine State.onChanger_congr ?_
  simp [Changer.stopped, htop, hseat, armOf, harm, hgd]

/-- R28, R30: the rotation ends, and DROP starts at once. -/
theorem enterAll_rotated_drops (hl : LiftedAtWork s) (hp : (s.changer.inFlight.map Target.park).getD false = false)
    (hd : s.changer.gateDead = none) (n : Nat) :
    enterAll (n + 2) .rotated s = s.onChanger fun c => { c with
      state := .dropping, trayDrive := none, trayDead := if s.changer.trayDrive.isSome then some 0 else s.changer.trayDead
      gateDrive := some .down, blanking := some 0, deglitch := none, startDue := false, phaseTimer := some 0 } := by
  obtain ⟨htop, hseat, harm, -, -, hretry⟩ := id hl
  rw [enterAll_rotated hretry (occupancyFollows_of_lifted hl), hp, motorsOff_of_lifted hl, if_neg (by simp),
    enterAll_drop (by simp [harm]) (by simpa using hd) (by exact occupancyFollows_of_lifted hl), State.onChanger_onChanger]
  refine State.onChanger_congr ?_
  simp [htop, hseat, armOf, harm]

/-- R23, R28, R30: the rotation ends, and DROP waits for the dead time of the gate motor. -/
theorem enterAll_rotated_waits (hl : LiftedAtWork s) (hp : (s.changer.inFlight.map Target.park).getD false = false)
    (hd : s.changer.gateDead ≠ none) (n : Nat) :
    enterAll (n + 2) .rotated s = s.onChanger fun c => { c with
      state := .dropping, trayDrive := none, trayDead := if s.changer.trayDrive.isSome then some 0 else s.changer.trayDead
      blanking := none, deglitch := none, startDue := true, phaseTimer := some 0 } := by
  obtain ⟨-, -, harm, -, -, hretry⟩ := id hl
  rw [enterAll_rotated hretry (occupancyFollows_of_lifted hl), hp, motorsOff_of_lifted hl, if_neg (by simp),
    enterAll_drop_waits (by simp [harm]) (by simpa using hd)]
  rfl

/-- R28: the rotation ends, and the change of a park is complete. -/
theorem enterAll_rotated_parks {b : Target} (hl : LiftedAtWork s) (hb : s.changer.inFlight = some b) (hp : b.park = true)
    (hpend : s.changer.pendingTarget = none) (n : Nat) :
    enterAll (n + 2) .rotated s = ((s.onChanger fun c => { c with
      state := .idle, inFlight := none, trayDrive := none
      trayDead := if s.changer.trayDrive.isSome then some 0 else s.changer.trayDead, blanking := none, deglitch := none
      startDue := false, phaseTimer := none, settleTimer := none }).report .slide [fi b.slot, fw "PARKED"]).emit
        (.changeDone b.slot b.origin) := by
  obtain ⟨-, -, -, hocc, -, hretry⟩ := id hl
  rw [enterAll_rotated hretry (occupancyFollows_of_lifted hl), hb, motorsOff_of_lifted hl, if_pos (by exact hp)]
  rw [enterAll_parked (by exact hb) (by exact hpend)]
  unfold changeTold
  rw [(dwellSeesCompletion_frame _ _).2 (.inl (by simp [hocc]))]
  simp [State.emit, State.report, State.onLine, State.onChanger, Changer.completed, hpend]

/-- R23, R32: zero is found, and ROTATE to another slot waits for the dead time of the tray motor. -/
theorem enterAll_zeroFound_waits {b : Target} (hl : LiftedAtWork s) (hb : s.changer.inFlight = some b) (hne : b.slot ≠ 0)
    (hd : (if s.changer.trayDrive.isSome then some 0 else s.changer.trayDead) ≠ none) (n : Nat) :
    enterAll (n + 2) .zeroFound s = (s.onChanger fun c => { c with
      slot := 0, status := .known, homes := false, state := .rotating, direction := directionTo c.size 0 b.slot
      trayDrive := none, trayDead := if s.changer.trayDrive.isSome then some 0 else s.changer.trayDead, blanking := none
      deglitch := none, startDue := true, phaseTimer := some 0 }).report .slide [fw "HOMED"] := by
  obtain ⟨-, -, harm, -, -, hretry⟩ := id hl
  rw [enterAll_zeroFound hretry (occupancyFollows_of_lifted hl), motorsOff_of_lifted hl,
    enterAll_rotate_waits (by exact harm) (by exact hd) (by simpa [Changer.goal, State.report, hb] using hne)]
  simp [State.report, State.onLine, State.onChanger, Changer.goal, hb]

/-- R30, R32: zero is found at the target, and DROP starts at once. -/
theorem enterAll_zeroFound_drops {b : Target} (hl : LiftedAtWork s) (hb : s.changer.inFlight = some b) (hz : b.slot = 0)
    (hp : b.park = false) (hd : s.changer.gateDead = none) (n : Nat) :
    enterAll (n + 4) .zeroFound s = (s.onChanger fun c => { c with
      slot := 0, status := .known, homes := false, state := .dropping, trayDrive := none
      trayDead := if s.changer.trayDrive.isSome then some 0 else s.changer.trayDead, gateDrive := some .down
      blanking := some 0, deglitch := none, startDue := false, phaseTimer := some 0 }).report .slide [fw "HOMED"] := by
  obtain ⟨-, -, harm, -, -, hretry⟩ := id hl
  rw [enterAll_zeroFound hretry (occupancyFollows_of_lifted hl), motorsOff_of_lifted hl,
    enterAll_rotate_at_goal (by simp [Changer.goal, State.report, hb, hz]),
    enterAll_rotated_drops (by exact hl) (by simp [State.report, hb, hp]) (by exact hd)]
  simp [State.report, State.onLine, State.onChanger]

/-! ## The three parts of the obligation -/

/-- R28: the pulse that reaches the target in ROTATING ends the rotation. -/
theorem indexMoves_reaches {b : Target} (hb : s.changer.inFlight = some b) (ht : s.changer.trayPresent = true)
    (hh : s.changer.homes = false) (hk : s.changer.status = .known) (hst : s.changer.state = .rotating)
    (hm : movedSlot s.changer.size s.changer.slot s.changer.lastDriven = b.slot) :
    indexMoves (decide (b.slot = 0)) s = enter .rotated ((s.onPins fun p =>
      { p with zeroSensor := decide (b.slot = 0) }).onChanger fun c => { c with slot := b.slot }) := by
  rw [indexMoves_known ht hh hk]
  simp only [State.onPins_changer, hm, State.onChanger]
  rw [zeroCheck_agrees rfl, rotationPulse_reaches (by exact hst) (by simp [Changer.goal, hb])]

theorem pulse_reaches_the_target {b : Target} (hb : s.changer.inFlight = some b) (hs : s.signals = [])
    (hl : LiftedAtWork s) (ht : s.changer.trayPresent = true) (hh : s.changer.homes = false)
    (hk : s.changer.status = .known) (hst : s.changer.state = .rotating)
    (hm : movedSlot s.changer.size s.changer.slot s.changer.lastDriven = b.slot) :
    (b.park = false → s.changer.gateDead = none →
      exec (.indexPulse (decide (b.slot = 0))) s =
        .next ((s.onPins fun p => { p with zeroSensor := decide (b.slot = 0) }).onChanger fun c =>
          { c with
            slot := b.slot, state := .dropping, trayDrive := none
            trayDead := if s.changer.trayDrive.isSome then some 0 else s.changer.trayDead, gateDrive := some .down
            blanking := some 0, deglitch := none, startDue := false, phaseTimer := some 0 })) ∧
    (b.park = false → s.changer.gateDead ≠ none →
      exec (.indexPulse (decide (b.slot = 0))) s =
        .next ((s.onPins fun p => { p with zeroSensor := decide (b.slot = 0) }).onChanger fun c =>
          { c with
            slot := b.slot, state := .dropping, trayDrive := none
            trayDead := if s.changer.trayDrive.isSome then some 0 else s.changer.trayDead, blanking := none
            deglitch := none, startDue := true, phaseTimer := some 0 })) ∧
    (b.park = true → s.changer.pendingTarget = none → s.engine.execution = none →
      exec (.indexPulse (decide (b.slot = 0))) s =
        .next (((s.onPins fun p => { p with zeroSensor := decide (b.slot = 0) }).onChanger fun c =>
          { c with
            slot := b.slot, state := .idle, inFlight := none, trayDrive := none
            trayDead := if s.changer.trayDrive.isSome then some 0 else s.changer.trayDead, blanking := none
            deglitch := none, startDue := false, phaseTimer := none, settleTimer := none }).report .slide
              [fi b.slot, fw "PARKED"])) := by
  have hreach := indexMoves_reaches hb ht hh hk hst hm
  refine ⟨fun hp hd => ?_, fun hp hd => ?_, fun hp hpend hx => ?_⟩
  · refine exec_indexPulse hs (hreach.trans ?_) rfl
    exact enterAll_rotated_drops (by exact hl) (by simp [hb, hp]) (by exact hd) 22
  · refine exec_indexPulse hs (hreach.trans ?_) rfl
    exact enterAll_rotated_waits (by exact hl) (by simp [hb, hp]) (by exact hd) 22
  · show happens (indexMoves _) s = _
    rw [happens, hreach]
    have hpark := enterAll_rotated_parks (s := (s.onPins fun p =>
      { p with zeroSensor := decide (b.slot = 0) }).onChanger fun c => { c with slot := b.slot }) hl hb hp hpend 22
    rw [enter, hpark, drain_of_change_done _ _ (by exact hx) (by exact hs)]
    rfl

/-- R32: a pulse that finds zero short of the target. -/
theorem homingPulse_waits {b : Target} (hl : LiftedAtWork s) (hb : s.changer.inFlight = some b)
    (hst : s.changer.state = .homing) (hz : s.pins.zeroSensor = true) (hne : b.slot ≠ 0)
    (hd : (if s.changer.trayDrive.isSome then some 0 else s.changer.trayDead) ≠ none) :
    homingPulse s = (s.onChanger fun c => { c with
      homingCount := c.homingCount + 1, slot := 0, status := .known, homes := false, state := .rotating
      direction := directionTo c.size 0 b.slot, trayDrive := none
      trayDead := if s.changer.trayDrive.isSome then some 0 else s.changer.trayDead, blanking := none
      deglitch := none, startDue := true, phaseTimer := some 0 }).report .slide [fw "HOMED"] := by
  rw [homingPulse_finds hst hz, enter, enterAll_zeroFound_waits (by exact hl) (by exact hb) hne (by exact hd)]
  rfl

/-- R30, R32: a pulse that finds zero at the target. -/
theorem homingPulse_drops {b : Target} (hl : LiftedAtWork s) (hb : s.changer.inFlight = some b)
    (hst : s.changer.state = .homing) (hz : s.pins.zeroSensor = true) (hzero : b.slot = 0) (hp : b.park = false)
    (hd : s.changer.gateDead = none) :
    homingPulse s = (s.onChanger fun c => { c with
      homingCount := c.homingCount + 1, slot := 0, status := .known, homes := false, state := .dropping
      trayDrive := none, trayDead := if s.changer.trayDrive.isSome then some 0 else s.changer.trayDead
      gateDrive := some .down, blanking := some 0, deglitch := none, startDue := false
      phaseTimer := some 0 }).report .slide [fw "HOMED"] := by
  rw [homingPulse_finds hst hz, enter, enterAll_zeroFound_drops (by exact hl) (by exact hb) hzero hp (by exact hd)]
  rfl

/-- R33, R36, R201: a pulse that is one too many. -/
theorem homingPulse_jams (hl : LiftedAtWork s) (hst : s.changer.state = .homing) (hz : s.pins.zeroSensor = false)
    (hn : s.changer.size + 2 ≤ s.changer.homingCount + 1) (hm : (s.faults.record .noZero).mode = .latch)
    (hf : (s.faults.record .noZero).latched = false) (hj : (s.faults.record .jam).present = false) :
    Tells (latchTelling .noZero .latch)
        (s.onChanger fun c => { c with
          homingCount := c.homingCount + 1, state := .jammed, jam := some (.noZero, .homing), inFlight := none
          pendingTarget := none, trayDrive := none
          trayDead := if s.changer.trayDrive.isSome then some 0 else s.changer.trayDead, blanking := none
          deglitch := none, startDue := false, phaseTimer := none, backoffTimer := none, settleTimer := none })
        (homingPulse s) ∧
      (homingPulse s).faults.record .noZero = { s.faults.record .noZero with
        present := false, latched := true, count := min 255 ((s.faults.record .noZero).count + 1)
        detail := some (.num (s.changer.homingCount + 1 : Nat))
        tape := if s.tape.present then some s.tape.counter else none } ∧
      (∀ k, k ≠ .noZero → (homingPulse s).faults.record k = s.faults.record k) ∧
      (homingPulse s).faults.asserted = true := by
  have ho := occupancyFollows_of_lifted hl
  rw [homingPulse_gives_up hst hz hn ho]
  obtain ⟨htells, hrec, hother, hline⟩ := enterJammed_latching
    (s := (s.onChanger fun c => { c with homingCount := c.homingCount + 1 }).motorsOff) (kind := .noZero) (by decide)
    ho hm hf hj (some (.num (s.changer.homingCount + 1 : Nat))) .homing
  obtain ⟨hgone, htells', hline'⟩ := tellGone_keeps_latch (k := .noZero) (by decide) (by decide) (enterJammed .noZero .homing
    (tellPresent .noZero (some (.num (s.changer.homingCount + 1 : Nat)))
      (s.onChanger fun c => { c with homingCount := c.homingCount + 1 }).motorsOff))
  have hfinal := hgone.trans (congrArg (fun r : FaultRecord => { r with present := false }) hrec)
  refine ⟨?_, hfinal, fun k hk => (tellGone_record hk _).trans (hother k hk), ?_⟩
  · refine cast (congrArg (Tells _ · _) ?_) (htells.quiet_trans htells')
    rw [State.motorsOff, State.onChanger_onChanger, State.onChanger_onChanger]
    obtain ⟨htop, hseat, harm, -, hgd, hretry⟩ := hl
    refine State.onChanger_congr ?_
    simp [Changer.jammed, Changer.stopped, htop, hseat, armOf, harm, hgd, hretry]
  · exact asserted_of_active (k := .noZero) (hline' hline) (by rw [hfinal]; simp [FaultRecord.active, holdsAction, hm])

end

/-- Settles O20: each pulse is a `rotationPulse` or a `homingPulse`, and `pulse_reaches_the_target` and the lemmas about
`homingPulse` say what those that end a phase lead to. -/
theorem indexPulsesMoveTheSlot : Obligations.IndexPulsesMoveTheSlot := by
  refine ⟨fun s hs => ⟨fun zero ht => ?_, ?_, fun ht hst hh hn => ?_⟩,
    fun s b hb hs hl ht hh hk hst => ?_, fun s b hb hs hl ht hh hst => ⟨fun hne hd => ?_, fun hz hp hd => ?_, ?_⟩⟩
  · exact exec_indexPulse hs.2 (if_pos (by simp [ht])) rfl
  · exact fun ht hh hk => pulses_at_a_known_slot hs.2 ht hh hk rfl
  · exact exec_indexPulse hs.2 ((indexMoves_homing ht hh hst).trans (homingPulse_counts hst rfl hn)) rfl
  · intro m hm
    have hreach := pulse_reaches_the_target hb hs.2 hl ht hh hk hst hm
    rw [← hm] at hreach
    exact hreach
  · exact exec_indexPulse hs.2 ((indexMoves_homing ht hh hst).trans (homingPulse_waits hl hb hst rfl hne hd)) rfl
  · exact exec_indexPulse hs.2 ((indexMoves_homing ht hh hst).trans (homingPulse_drops hl hb hst rfl hz hp hd)) rfl
  · intro hn hrun hheld hm hf hj
    have hexec : exec (.indexPulse false) s = .next (drain (indexMoves false s)) := rfl
    obtain ⟨htells, hrec, hother, hline⟩ :=
      homingPulse_jams (s := s.onPins fun p => { p with zeroSensor := false }) hl hst rfl hn hm hf hj
    rw [indexMoves_homing ht hh hst, htells.drain_latch hs.2 rfl hrun hheld] at hexec
    exact ⟨_, hexec, rfl, hrec, hother, hline⟩

end Sys2Proof.Machine

namespace Sys2Proof.Machine

/-! ## The lamp at a change of occupancy -/

/-- R66: with a normal current the short check does nothing. -/
theorem checkShort_normal {s : State} (h : s.pins.lampCurrent = .normal) : checkShort s = s := by
  rw [checkShort, if_neg (by simp [h])]

/-- R57, R59: with a normal current the duty computed at once changes the level, the duty and the open timer alone. -/
theorem dutyAtOnce_normal {s : State} (h : s.pins.lampCurrent = .normal) :
    dutyAtOnce s = s.onLamp fun l => { l with
      level := l.leastLevel, duty := min l.duty (tableDuty s l.leastLevel), openTimer := none } := by
  unfold dutyAtOnce checkLampCurrent
  rw [checkShort_normal (by exact h), checkOpen_frame]
  simp [openSeen, h, State.onLamp]

/-- R56, R61: what a change of occupancy from `old` to `now` makes of the lamp. -/
def Lamp.Sees (old now : Occupancy) (l l' : Lamp) : Prop :=
  l'.gateCleared = (l.gateCleared || old == .slide) ∧ l'.duty ≤ l.duty ∧
    (l.guarded = true → l' = { l with
      gateCleared := l'.gateCleared, guard := 0, recovery := if now = .slide then some 0 else none, level := 0
      duty := l'.duty, openTimer := l'.openTimer })

/-- R56, R61: the gate-cleared mark and the guard at a change of occupancy. -/
def Lamp.gateChanged (old now : Occupancy) (l : Lamp) : Lamp :=
  { l with
    gateCleared := l.gateCleared || (old == .slide && now != .slide)
    guard := if l.guarded then 0 else l.guard
    recovery := if l.guarded then (if now = .slide then some 0 else none) else l.recovery }

theorem lampSeesOccupancy_eq (old : Occupancy) (s : State) :
    lampSeesOccupancy old s = dutyAtOnce (s.onLamp (Lamp.gateChanged old s.changer.occupancy)) := by
  have hmark : (if old = .slide ∧ s.changer.occupancy ≠ .slide then s.onLamp fun l => { l with gateCleared := true } else s) =
      s.onLamp fun l =>
        { l with gateCleared := l.gateCleared || (old == .slide && s.changer.occupancy != .slide) } := by
    have hb : (old == .slide && s.changer.occupancy != .slide) =
        decide (old = .slide ∧ s.changer.occupancy ≠ .slide) := by
      rw [Bool.eq_iff_iff]; simp
    rw [hb]
    split
    next h => simp [State.onLamp, h]
    next h => simp [State.onLamp, decide_eq_false h]
  unfold lampSeesOccupancy
  dsimp only
  rw [hmark]
  congr 1
  by_cases hg : s.lamp.guarded = true
  · have hn : ¬(!s.lamp.guarded) = true := by simp [hg]
    rw [if_neg (by exact hn)]
    split <;> simp_all [State.onLamp, Lamp.gateChanged]
  · have hn : (!s.lamp.guarded) = true := by simp [hg]
    rw [if_pos (by exact hn)]
    simp [State.onLamp, Lamp.gateChanged, hg]

theorem lampSeesOccupancy_sees {s : State} {old : Occupancy} (h : s.pins.lampCurrent = .normal)
    (hne : s.changer.occupancy ≠ old) :
    lampSeesOccupancy old s = { s with lamp := (lampSeesOccupancy old s).lamp } ∧
      Lamp.Sees old s.changer.occupancy s.lamp (lampSeesOccupancy old s).lamp := by
  rw [lampSeesOccupancy_eq, dutyAtOnce_normal (by exact h)]
  refine ⟨rfl, ?_, Nat.min_le_left _ _, fun hg => ?_⟩
  · have hmark : (old == .slide && s.changer.occupancy != .slide) = (old == .slide) := by
      by_cases hold : old = .slide
      · subst hold; simpa using hne
      · simp [hold]
    simp [Lamp.gateChanged, hmark]
  · simp [Lamp.gateChanged, hg, Lamp.leastLevel]

section
variable {s : State}

/-- R20: the arm that the switches and the gate motor's drive give. -/
abbrev State.armNow (s : State) : Arm := armOf s.pins.topSwitch s.pins.seatSwitch s.changer.gateDrive.isSome

/-- R20, R56: the refreshing, where the occupancy changes. -/
theorem refreshGate_changes (h : s.pins.lampCurrent = .normal)
    (hne : occupancyOf s.armNow s.pins.barrier ≠ s.changer.occupancy) :
    refreshGate s = { s with
        changer := { s.changer with arm := s.armNow, occupancy := occupancyOf s.armNow s.pins.barrier }
        lamp := (refreshGate s).lamp } ∧
      Lamp.Sees s.changer.occupancy (occupancyOf s.armNow s.pins.barrier) s.lamp (refreshGate s).lamp := by
  have hsees := lampSeesOccupancy_sees (old := s.changer.occupancy)
    (s := s.onChanger fun c => { c with arm := s.armNow, occupancy := occupancyOf s.armNow s.pins.barrier }) h hne
  have heq : refreshGate s = lampSeesOccupancy s.changer.occupancy (s.onChanger fun c =>
      { c with arm := s.armNow, occupancy := occupancyOf s.armNow s.pins.barrier }) := by
    unfold refreshGate
    dsimp only
    rw [if_neg (by exact hne)]
  rw [heq]
  exact hsees

/-- R20: the refreshing, where the occupancy stays. -/
theorem refreshGate_stays (heq : occupancyOf s.armNow s.pins.barrier = s.changer.occupancy) :
    refreshGate s = s.onChanger fun c =>
      { c with arm := s.armNow, occupancy := occupancyOf s.armNow s.pins.barrier } := by
  unfold refreshGate
  dsimp only
  rw [if_pos (by exact heq)]

/-- R27: without a stuck slide, none goes. -/
theorem stuckGone_of_absent (h : (s.faults.record .slideStuck).present = false) : stuckGone s = s := by
  unfold stuckGone
  rw [tellGone_of_absent h, ite_self]

/-- R20: in the states of rest a switch leads to nothing further. -/
theorem armMoves_at_rest (h : s.changer.state ∈ [ChangerState.noTray, .unhomed, .idle, .jammed, .halted]) (old : Arm)
    (top seat : Bool) : armMoves old top seat s = s := by
  simp only [List.mem_cons, List.not_mem_nil, or_false] at h
  unfold armMoves
  rcases h with h | h | h | h | h <;> simp [h]

/-- R20, R56, R61: what the refreshing of the gate record does with a normal lamp current. -/
theorem refreshGate_guards (h : s.pins.lampCurrent = .normal) :
    refreshGate s = { s with
        changer := { s.changer with arm := s.armNow, occupancy := occupancyOf s.armNow s.pins.barrier }
        lamp := (refreshGate s).lamp } ∧
      (occupancyOf s.armNow s.pins.barrier = s.changer.occupancy → (refreshGate s).lamp = s.lamp) ∧
      (occupancyOf s.armNow s.pins.barrier ≠ s.changer.occupancy →
        Lamp.Sees s.changer.occupancy (occupancyOf s.armNow s.pins.barrier) s.lamp (refreshGate s).lamp) := by
  by_cases hocc : occupancyOf s.armNow s.pins.barrier = s.changer.occupancy
  · rw [refreshGate_stays hocc]
    exact ⟨rfl, fun _ => rfl, fun hne => absurd hocc hne⟩
  · obtain ⟨heq, hsees⟩ := refreshGate_changes h hocc
    exact ⟨heq, fun heq => absurd heq hocc, fun _ => hsees⟩

/-- R20, R27: at rest, without a stuck slide, a sensor of the gate only refreshes the gate record. -/
theorem sensor_at_rest (hst : s.changer.state ∈ [ChangerState.noTray, .unhomed, .idle, .jammed, .halted])
    (hstuck : (s.faults.record .slideStuck).present = false) (hl : s.pins.lampCurrent = .normal) (on : Bool) :
    topSwitchMoves on s = refreshGate (s.onPins fun p => { p with topSwitch := on }) ∧
      seatSwitchMoves on s = refreshGate (s.onPins fun p => { p with seatSwitch := on }) ∧
      barrierMoves on s = refreshGate (s.onPins fun p => { p with barrier := on }) := by
  have quiet (p : Pins) (hp : p.lampCurrent = .normal) (old : Arm) (top seat : Bool) :
      stuckGone (refreshGate { s with pins := p }) = refreshGate { s with pins := p } ∧
        armMoves old top seat (refreshGate { s with pins := p }) = refreshGate { s with pins := p } := by
    obtain ⟨heq, -⟩ := refreshGate_guards (s := { s with pins := p }) hp
    exact ⟨stuckGone_of_absent (by rw [heq]; exact hstuck), armMoves_at_rest (by rw [heq]; exact hst) old top seat⟩
  refine ⟨?_, ?_, ?_⟩
  · have hq := quiet { s.pins with topSwitch := on } hl s.changer.arm (on && !s.pins.topSwitch) false
    exact (congrArg (armMoves _ _ _) hq.1).trans hq.2
  · have hq := quiet { s.pins with seatSwitch := on } hl s.changer.arm false (on && !s.pins.seatSwitch)
    exact (congrArg (armMoves _ _ _) hq.1).trans hq.2
  · exact (quiet { s.pins with barrier := on } hl s.changer.arm false false).1
end

/-- Settles O21: at rest each sensor refreshes the gate record, and `refreshGate_guards` says what that does to the lamp. -/
theorem theGateRecordFollowsItsSensors : Obligations.TheGateRecordFollowsItsSensors := by
  intro s hs hst hstuck hl on q hq arm occ
  obtain ⟨htop, hseat, hbar⟩ := sensor_at_rest hst hstuck hl on
  have acts (hp : q.2.lampCurrent = .normal) (hexec : exec q.1 s = happens (fun s => refreshGate { s with pins := q.2 }) s) :
      ∃ t, exec q.1 s = .next t ∧
        t = { s with pins := q.2, changer := { s.changer with arm := arm, occupancy := occupancyOf arm q.2.barrier }
                     lamp := t.lamp } ∧
        (occupancyOf arm q.2.barrier = s.changer.occupancy → t.lamp = s.lamp) ∧
        (occupancyOf arm q.2.barrier ≠ s.changer.occupancy →
          Lamp.Sees s.changer.occupancy (occupancyOf arm q.2.barrier) s.lamp t.lamp) := by
    obtain ⟨heq, hstays, hsees⟩ := refreshGate_guards (s := { s with pins := q.2 }) hp
    exact ⟨_, hexec.trans (happens_of_quiet (by rw [heq]; exact hs.2)), heq, hstays, hsees⟩
  have hacts := acts (by
      simp only [List.mem_cons, List.not_mem_nil, or_false] at hq
      rcases hq with rfl | rfl | rfl <;> exact hl) (by
      simp only [List.mem_cons, List.not_mem_nil, or_false] at hq
      rcases hq with rfl | rfl | rfl
      · exact congrArg (fun t => (.next (drain t) : Answer)) htop
      · exact congrArg (fun t => (.next (drain t) : Answer)) hseat
      · exact congrArg (fun t => (.next (drain t) : Answer)) hbar)
  have hocc : occupancyOf arm q.2.barrier = occ := rfl
  rw [hocc] at hacts
  obtain ⟨t, hexec, heq, hstays, hsees⟩ := hacts
  refine ⟨t, hexec, heq, hstays, fun hne => ?_⟩
  obtain ⟨hcleared, hduty, hguard⟩ := hsees hne
  refine ⟨hcleared, hduty, fun hg => ?_⟩
  rw [hguard (by simpa [Lamp.guarded] using hg)]
  exact ⟨rfl, rfl, rfl⟩

end Sys2Proof.Machine

namespace Sys2Proof.Machine

/-! ## The ends of LIFT and DROP -/

section
variable {s : State}

/-- R26: the arm LIFTED in LIFTING ends the LIFT. -/
theorem armMoves_lifted (hst : s.changer.state = .lifting) (ha : s.changer.arm = .lifted) (old : Arm) (top seat : Bool) :
    armMoves old top seat s = enter .lifted s := by
  simp [armMoves, hst, ha]

/-- R30: the arm SEATED in DROPPING ends the DROP. -/
theorem armMoves_seated (hst : s.changer.state = .dropping) (ha : s.changer.arm = .seated) (old : Arm) (top seat : Bool) :
    armMoves old top seat s = enter .dropped s := by
  simp [armMoves, hst, ha]

/-- R20: with both switches open the occupancy is UNKNOWN. -/
theorem occupancy_of_open (hg : GateFollows s) (htop : s.pins.topSwitch = false) (hseat : s.pins.seatSwitch = false) :
    s.changer.occupancy = .unknown := by
  rw [hg.2, hg.1, htop, hseat]
  cases s.changer.gateDrive <;> rfl

/-- R20, R56: what the lamp is after a change of occupancy from UNKNOWN, in a guarded lamp. -/
theorem lamp_of_sees {now : Occupancy} {l l' : Lamp} (h : Lamp.Sees .unknown now l l') (hg : l.guarded = true) :
    l' = { l with
      guard := 0, recovery := if now = .slide then some 0 else none, level := 0, duty := l'.duty
      openTimer := l'.openTimer } := by
  obtain ⟨hcleared, -, hlamp⟩ := h
  have hkept : l'.gateCleared = l.gateCleared := hcleared.trans (Bool.or_false _)
  exact (hlamp hg).trans (by rw [hkept])

/-- R27: a slide that is in the gate, the arm not SEATED, stays stuck. -/
theorem stuckGone_quiet (h : (s.faults.record .slideStuck).present = false ∨ (s.pins.barrier = true ∧ s.changer.arm ≠ .seated)) :
    stuckGone s = s := by
  rcases h with h | ⟨hb, ha⟩
  · exact stuckGone_of_absent h
  · simp [stuckGone, hb, ha]

/-- R20, R26: the top switch closes in LIFTING. -/
theorem topSwitch_ends_lift (hg : GateFollows s) (htop : s.pins.topSwitch = false) (hseat : s.pins.seatSwitch = false)
    (hl : s.pins.lampCurrent = .normal)
    (hstuck : (s.faults.record .slideStuck).present = false ∨ s.pins.barrier = true)
    (hst : s.changer.state = .lifting) :
    ∃ l, topSwitchMoves true s = enter .lifted { s with
        pins := { s.pins with topSwitch := true }, changer := { s.changer with arm := .lifted, occupancy := .empty }
        lamp := l } ∧ Lamp.Sees .unknown .empty s.lamp l := by
  have hocc := occupancy_of_open hg htop hseat
  have harm : (s.onPins fun p => { p with topSwitch := true }).armNow = .lifted := by simp [State.armNow, hseat, armOf]
  obtain ⟨heq, hsees⟩ := refreshGate_changes (s := s.onPins fun p => { p with topSwitch := true }) hl
    (by rw [harm]; simp [hocc, occupancyOf])
  rw [harm] at heq hsees
  refine ⟨_, ?_, by rw [← hocc]; exact hsees⟩
  unfold topSwitchMoves
  dsimp only
  rw [heq, stuckGone_quiet (by exact hstuck.imp_right fun hb => ⟨hb, by simp⟩), armMoves_lifted (by exact hst) rfl]
  rfl

/-- R20, R30: the seat switch closes in DROPPING. -/
theorem seatSwitch_ends_drop (hg : GateFollows s) (htop : s.pins.topSwitch = false) (hseat : s.pins.seatSwitch = false)
    (hl : s.pins.lampCurrent = .normal) (hstuck : (s.faults.record .slideStuck).present = false)
    (hst : s.changer.state = .dropping) :
    ∃ l, seatSwitchMoves true s = enter .dropped { s with
        pins := { s.pins with seatSwitch := true }
        changer := { s.changer with arm := .seated, occupancy := if s.pins.barrier then .slide else .empty }
        lamp := l } ∧ Lamp.Sees .unknown (if s.pins.barrier then .slide else .empty) s.lamp l := by
  have hocc := occupancy_of_open hg htop hseat
  have harm : (s.onPins fun p => { p with seatSwitch := true }).armNow = .seated := by simp [State.armNow, htop, armOf]
  obtain ⟨heq, hsees⟩ := refreshGate_changes (s := s.onPins fun p => { p with seatSwitch := true }) hl
    (by rw [harm]; cases hb : s.pins.barrier <;> simp [hocc, occupancyOf, hb])
  rw [harm] at heq hsees
  refine ⟨_, ?_, by rw [← hocc]; exact hsees⟩
  unfold seatSwitchMoves
  dsimp only
  rw [heq, stuckGone_of_absent (by exact hstuck), armMoves_seated (by exact hst) rfl]
  rfl

/-- R26, R28: a LIFT that has ended leads to ROTATE towards another slot. -/
theorem enter_lifted_rotates (hr : s.changer.retryPhase = none) (ho : OccupancyFollows s) (hb : s.pins.barrier = false)
    (hh : s.changer.homes = false) (htop : s.pins.topSwitch = true) (hseat : s.pins.seatSwitch = false)
    (hgd : s.changer.gateDrive = some .up) (htd : s.changer.trayDrive = none) (hdead : s.changer.trayDead = none)
    (hne : s.changer.goal ≠ s.changer.slot) :
    enter .lifted s = s.onChanger fun c =>
      let d := directionTo s.changer.size s.changer.slot s.changer.goal
      { c with
        arm := .lifted, gateDrive := none, gateDead := some 0, state := .rotating, phaseTimer := some 0, direction := d
        trayDrive := some d, lastDriven := d, blanking := some 0, deglitch := none, startDue := false } := by
  rw [enter, enterAll_lifted (.inl hr) ho hb, hh, if_neg (by simp), enterAll_rotate (by simp [htop, hseat, armOf])
    (by simp [Changer.stopped, htd, hdead]) (by exact hne)]
  rw [State.motorsOff, State.onChanger_onChanger]
  refine State.onChanger_congr ?_
  simp [Changer.stopped, htop, hseat, armOf, hgd, htd, hdead, Changer.goal]

/-- R30, R31: a DROP that has ended leads to SETTLING. -/
theorem enter_dropped_settles (hr : s.changer.retryPhase = none) (ho : OccupancyFollows s)
    (htop : s.pins.topSwitch = false) (hseat : s.pins.seatSwitch = true) (hgd : s.changer.gateDrive = some .down)
    (htd : s.changer.trayDrive = none) (ht : s.changer.settleFor ≠ 0) :
    enter .dropped s = s.onChanger fun c => { c with
      arm := .seated, gateDrive := none, gateDead := some 0, state := .settling, phaseTimer := none
      settleTime := s.changer.settleFor, settleTimer := some 0, blanking := none, deglitch := none
      startDue := false } := by
  rw [enter, enterAll_dropped hr ho ht, State.motorsOff, State.onChanger_onChanger]
  refine State.onChanger_congr ?_
  simp [Changer.stopped, htop, hseat, armOf, hgd, htd]
end

/-- Settles O22: the switch refreshes the gate record and ends its phase, and the next phase starts. -/
theorem switchesEndLiftAndDrop : Obligations.SwitchesEndLiftAndDrop := by
  intro s hs hg htop hseat hl hguard hstuck hretry
  have hguarded : s.lamp.guarded = true := by simpa [Lamp.guarded] using hguard
  refine ⟨fun b hb hst hgd hh htd hdead hbar hne => ?_, ?_⟩
  · obtain ⟨l, hmoves, hsees⟩ := topSwitch_ends_lift hg htop hseat hl (.inl hstuck) hst
    rw [enter_lifted_rotates (by exact hretry) (by simp [OccupancyFollows, hseat, armOf, occupancyOf]) (by exact hbar)
      (by exact hh) rfl (by exact hseat) (by exact hgd) (by exact htd) (by exact hdead)
      (by simpa [Changer.goal, hb] using hne)] at hmoves
    refine ⟨_, happens_of_quiet (f := topSwitchMoves true) (by rw [hmoves]; exact hs.2), ?_, ?_⟩ <;> rw [hmoves]
    · conv_lhs => rw [lamp_of_sees hsees hguarded]
      simp [State.onChanger, Changer.goal, hb]
    · exact hsees.2.1
  · intro b hb hst hgd htd time htime
    obtain ⟨l, hmoves, hsees⟩ := seatSwitch_ends_drop hg htop hseat hl hstuck hst
    have hsettle : s.changer.settleFor = time := by simp [Changer.settleFor, hb, time, Config.shortSettle]
    rw [enter_dropped_settles (by exact hretry) (by simp [OccupancyFollows, htop, armOf, occupancyOf]) (by exact htop) rfl
      (by exact hgd) (by exact htd) (by show s.changer.settleFor ≠ 0; omega)] at hmoves
    refine ⟨_, happens_of_quiet (f := seatSwitchMoves true) (by rw [hmoves]; exact hs.2), ?_, ?_⟩ <;> rw [hmoves]
    · conv_lhs => rw [lamp_of_sees hsees hguarded]
      cases s.pins.barrier <;> simp [State.onChanger, Changer.settleFor, hb, time, Config.shortSettle]
    · exact hsees.2.1

end Sys2Proof.Machine

namespace Sys2Proof.Machine

/-! ## Blanking and deglitch -/

section
variable {s : State}

/-- R34: the phases that can jam. -/
theorem jamPhase_isSome (st : ChangerState) :
    (jamPhase st).isSome = true ↔ st ∈ [ChangerState.lifting, .rotating, .dropping, .homing] := by
  cases st <;> simp [jamPhase]

/-- R34: what the watch of the motor current does. -/
theorem watchCurrent_eq (s : State) :
    watchCurrent s = s.onChanger fun c =>
      { c with
        deglitch :=
          if s.pins.motorOver = true ∧ (c.trayDrive.isSome ∨ c.gateDrive.isSome) ∧ c.blanking = none ∧
              c.state ∈ [ChangerState.lifting, .rotating, .dropping, .homing]
          then some (c.deglitch.getD 0) else none } := by
  refine State.onChanger_congr ?_
  simp only [← jamPhase_isSome, Changer.driven, Bool.and_eq_true, Bool.or_eq_true, Option.isNone_iff_eq_none, and_assoc]

/-- R23, R34: the motor current and the end of the blanking time. -/
theorem blanking_and_deglitch (hs : s.signals = []) :
    (∀ high, exec (.motorCurrentChange high) s =
      .next ((s.onPins fun p => { p with motorOver := high }).onChanger fun c =>
        { c with deglitch :=
            if high = true ∧ (c.trayDrive.isSome ∨ c.gateDrive.isSome) ∧ c.blanking = none ∧
                c.state ∈ [ChangerState.lifting, .rotating, .dropping, .homing]
            then some (c.deglitch.getD 0) else none })) ∧
    (s.changer.blanking ≠ none → exec .motorBlankingEnd s =
      .next (s.onChanger fun c =>
        { c with
          blanking := none
          deglitch :=
            if s.pins.motorOver = true ∧ (c.trayDrive.isSome ∨ c.gateDrive.isSome) ∧
                c.state ∈ [ChangerState.lifting, .rotating, .dropping, .homing]
            then some (c.deglitch.getD 0) else none })) ∧
    (s.changer.blanking = none → exec .motorBlankingEnd s = .next s) := by
  refine ⟨fun high => ?_, fun hb => ?_, fun hb => ?_⟩
  · have hmoves : motorCurrentMoves high s = _ := watchCurrent_eq (s.onPins fun p => { p with motorOver := high })
    exact (happens_of_quiet (f := motorCurrentMoves high) (by rw [hmoves]; exact hs)).trans (by rw [hmoves]; rfl)
  · have hends : blankingEnds s = _ :=
      (if_pos (Option.isSome_iff_ne_none.2 hb)).trans (watchCurrent_eq (s.onChanger fun c => { c with blanking := none }))
    refine (happens_of_quiet (f := blankingEnds) (by rw [hends]; exact hs)).trans ?_
    rw [hends, State.onChanger_onChanger]
    simp only [State.onChanger_pins, true_and]
  · have hends : blankingEnds s = s := if_neg (by simp [hb])
    exact (happens_of_quiet (f := blankingEnds) (by rw [hends]; exact hs)).trans (by rw [hends])

/-! ## Dead times -/

/-- R23: a dead time is over. -/
def Changer.deadOver (motor : ChangerMotor) (c : Changer) : Changer :=
  match motor with
  | .tray => { c with trayDead := none }
  | .gate => { c with gateDead := none }

/-- R23: the end of a dead time that is not that of a backoff, with no start waiting. -/
theorem deadTimeEnds_idle {motor : ChangerMotor} (hd : s.changer.deadOf motor ≠ none) (hst : s.changer.state ≠ .backoff)
    (hdue : s.changer.startDue = false) : deadTimeEnds motor s = s.onChanger (Changer.deadOver motor) := by
  unfold deadTimeEnds
  rw [if_neg (by simpa using hd)]
  cases motor <;> simp [hst, hdue] <;> rfl

/-- R23: the end of a dead time for which a start waits. -/
theorem deadTimeEnds_starts {motor : ChangerMotor} (hd : s.changer.deadOf motor ≠ none) (hst : s.changer.state ≠ .backoff)
    (hdue : s.changer.startDue = true) (hw : s.changer.wanted.map Drive.motor = some motor) :
    deadTimeEnds motor s = drive (s.onChanger (Changer.deadOver motor)) := by
  unfold deadTimeEnds
  rw [if_neg (by simpa using hd)]
  cases motor <;> dsimp only <;> rw [if_neg (by simp [hst]), if_pos ⟨hdue, hw⟩] <;> rfl

/-- R35: the end of the dead time after a backoff's drive starts the retry. -/
theorem deadTimeEnds_retries {phase : Phase} (hp : s.changer.backoffPhase = phase)
    (hd : s.changer.deadOf (motorOf phase) ≠ none) (hst : s.changer.state = .backoff)
    (hb : s.changer.backoffDriven = true) :
    deadTimeEnds (motorOf phase) s = retryStarts (s.onChanger (Changer.deadOver (motorOf phase))) := by
  unfold deadTimeEnds
  rw [if_neg (by simpa using hd)]
  cases phase <;> simp [motorOf, hp, hst, hb] <;> rfl

/-- R35: the phase that is retried, by the phase that jammed. -/
theorem retryStarts_lift (hp : s.changer.backoffPhase = .lift) : retryStarts s = enter .lift s := by
  rw [retryStarts, hp]
theorem retryStarts_drop (hp : s.changer.backoffPhase = .drop) : retryStarts s = enter .drop s := by
  rw [retryStarts, hp]
theorem retryStarts_rotate (hp : s.changer.backoffPhase = .rotate) (ha : s.changer.arm = .lifted) :
    retryStarts s = enter .rotate s := by
  rw [retryStarts, hp]; dsimp only; rw [if_pos ha]
theorem retryStarts_homing (hp : s.changer.backoffPhase = .homing) (ha : s.changer.arm = .lifted) :
    retryStarts s = enter .homing (s.onChanger fun c => { c with keepCount := false }) := by
  rw [retryStarts, hp]; dsimp only; rw [if_pos ha]

/-- R23: an end of a dead time that changes the changer alone. -/
theorem exec_deadTimeEnd {motor : ChangerMotor} {f : Changer → Changer} (hs : s.signals = [])
    (h : deadTimeEnds motor s = s.onChanger f) : exec (.motorDeadTimeEnd motor) s = .next (s.onChanger f) := by
  rw [← h]
  exact happens_of_quiet (by rw [h]; exact hs)

/-- R23: the ends of the dead times outside a backoff. -/
theorem dead_times_end (hs : s.signals = []) (hst : s.changer.state ≠ .backoff)
    (ha : s.changer.arm = armOf s.pins.topSwitch s.pins.seatSwitch false)
    (ho : s.changer.occupancy = occupancyOf s.changer.arm s.pins.barrier) :
    (s.changer.trayDead ≠ none → s.changer.startDue = false →
      exec (.motorDeadTimeEnd .tray) s = .next (s.onChanger fun c => { c with trayDead := none })) ∧
    (s.changer.gateDead ≠ none → s.changer.startDue = false →
      exec (.motorDeadTimeEnd .gate) s = .next (s.onChanger fun c => { c with gateDead := none })) ∧
    (s.changer.trayDead ≠ none → s.changer.startDue = true → s.changer.state = .rotating → s.changer.arm = .lifted →
      exec (.motorDeadTimeEnd .tray) s = .next (s.onChanger fun c =>
        { c with
          trayDead := none, trayDrive := some c.direction, lastDriven := c.direction, blanking := some 0
          deglitch := none, startDue := false })) ∧
    (s.changer.gateDead ≠ none → s.changer.startDue = true → s.changer.state = .dropping → s.changer.arm = .lifted →
      exec (.motorDeadTimeEnd .gate) s = .next (s.onChanger fun c =>
        { c with gateDead := none, gateDrive := some .down, blanking := some 0, deglitch := none, startDue := false })) := by
  have hfollows : OccupancyFollows s := by rw [OccupancyFollows, ho, ha]
  refine ⟨fun hd hdue => ?_, fun hd hdue => ?_, fun hd hdue hrot hl => ?_, fun hd hdue hdrop hl => ?_⟩
  · exact exec_deadTimeEnd hs (deadTimeEnds_idle hd hst hdue)
  · exact exec_deadTimeEnd hs (deadTimeEnds_idle hd hst hdue)
  · have hw : s.changer.wanted = some (.tray s.changer.direction) := by simp [Changer.wanted, hrot]
    refine exec_deadTimeEnd hs ((deadTimeEnds_starts (motor := .tray) hd hst hdue (by rw [hw]; rfl)).trans ?_)
    rw [drive_of_startDrive (startDrive_tray (d := s.changer.direction) (by exact hw) (by exact hl) rfl),
      State.onChanger_onChanger]
    refine State.onChanger_congr ?_
    simp [Changer.deadOver, hrot]
  · have hw : s.changer.wanted = some (.gate .down) := by simp [Changer.wanted, hdrop]
    refine exec_deadTimeEnd hs ((deadTimeEnds_starts (motor := .gate) hd hst hdue (by rw [hw]; rfl)).trans ?_)
    rw [drive_of_startDrive (startDrive_gate (a := .down) (by exact hw) rfl (by exact hfollows)), State.onChanger_onChanger]
    refine State.onChanger_congr ?_
    have harm : armOf s.pins.topSwitch s.pins.seatSwitch true = .lifted := by
      rw [hl] at ha
      revert ha
      cases s.pins.topSwitch <;> cases s.pins.seatSwitch <;> simp [armOf]
    simp [Changer.deadOver, hdrop, harm, hl]

/-! ## Backoff -/

/-- R35: the end of a backoff's drive. -/
theorem backoff_drive_ends (hs : s.signals = []) (h : ChangerOk s) :
    (s.changer.state = .backoff → (s.changer.trayDrive.isSome = true ∨ s.changer.gateDrive.isSome = true) →
      exec .backoffDriveEnd s = .next (s.onChanger fun c =>
        { c with
          arm := armOf s.pins.topSwitch s.pins.seatSwitch false, trayDrive := none, gateDrive := none
          trayDead := if c.trayDrive.isSome then some 0 else c.trayDead
          gateDead := if c.gateDrive.isSome then some 0 else c.gateDead
          startDue := false, blanking := none, deglitch := none, backoffTimer := none, backoffDriven := true
          backoffCounted := true, retries := if c.backoffCounted then c.retries else c.retries + 1 })) ∧
    (s.changer.state ≠ .backoff → exec .backoffDriveEnd s = .next s) := by
  refine ⟨fun hst hd => ?_, fun hst => ?_⟩
  · have hends : backoffDriveEnds s = s.motorsOff.onChanger fun c => { c with
        backoffTimer := none, backoffDriven := true, backoffCounted := true
        retries := if c.backoffCounted then c.retries else c.retries + 1 } := by
      rw [backoffDriveEnds, if_pos ⟨hst, by simpa [Changer.driven] using hd⟩,
        stopMotors_quiet (occupancyFollows_of_gate h.1)]
    exact (happens_of_quiet (f := backoffDriveEnds) (by rw [hends]; exact hs)).trans (by rw [hends]; rfl)
  · have hends : backoffDriveEnds s = s := if_neg (by simp [hst])
    exact (happens_of_quiet (f := backoffDriveEnds) (by rw [hends]; exact hs)).trans (by rw [hends])

/-- R35: the retries. -/
theorem retries_start (hs : s.signals = []) (hg : GateFollows s) (hst : s.changer.state = .backoff)
    (hb : s.changer.backoffDriven = true) :
    (s.changer.gateDead ≠ none → s.changer.arm ≠ .lifted → s.changer.backoffPhase = .lift →
      exec (.motorDeadTimeEnd .gate) s = .next (s.onChanger fun c =>
        { c with
          state := .lifting, arm := armOf s.pins.topSwitch s.pins.seatSwitch true, gateDead := none, gateDrive := some .up
          blanking := some 0, deglitch := none, startDue := false, phaseTimer := some 0 })) ∧
    (s.changer.gateDead ≠ none → s.changer.arm ≠ .seated → s.changer.backoffPhase = .drop →
      exec (.motorDeadTimeEnd .gate) s = .next (s.onChanger fun c =>
        { c with
          state := .dropping, arm := armOf s.pins.topSwitch s.pins.seatSwitch true, gateDead := none
          gateDrive := some .down, blanking := some 0, deglitch := none, startDue := false, phaseTimer := some 0 })) ∧
    (∀ b, s.changer.inFlight = some b → s.changer.trayDead ≠ none → s.changer.arm = .lifted →
      s.changer.backoffPhase = .rotate → b.slot ≠ s.changer.slot →
      let d := directionTo s.changer.size s.changer.slot b.slot
      exec (.motorDeadTimeEnd .tray) s = .next (s.onChanger fun c =>
        { c with
          state := .rotating, direction := d, trayDead := none, trayDrive := some d, lastDriven := d, blanking := some 0
          deglitch := none, startDue := false, phaseTimer := some 0 })) ∧
    (s.changer.trayDead ≠ none → s.changer.arm = .lifted → s.changer.backoffPhase = .homing →
      s.pins.zeroSensor = false →
      exec (.motorDeadTimeEnd .tray) s = .next (s.onChanger fun c =>
        { c with
          state := .homing, direction := .forward, homingCount := 0, keepCount := false, trayDead := none
          trayDrive := some .forward, lastDriven := .forward, blanking := some 0, deglitch := none, startDue := false
          phaseTimer := some 0 })) := by
  have ho := occupancyFollows_of_gate hg
  refine ⟨fun hd ha hp => ?_, fun hd ha hp => ?_, fun b hin hd ha hp hne => ?_, fun hd ha hp hz => ?_⟩
  · refine exec_deadTimeEnd hs ((deadTimeEnds_retries hp hd hst hb).trans ?_)
    rw [retryStarts_lift (by exact hp)]
    exact (enterAll_lift (by exact ha) rfl (by exact ho) 23).trans (State.onChanger_onChanger _ _ _)
  · refine exec_deadTimeEnd hs ((deadTimeEnds_retries hp hd hst hb).trans ?_)
    rw [retryStarts_drop (by exact hp)]
    exact (enterAll_drop (by exact ha) rfl (by exact ho) 23).trans (State.onChanger_onChanger _ _ _)
  · refine exec_deadTimeEnd hs ((deadTimeEnds_retries hp hd hst hb).trans ?_)
    rw [retryStarts_rotate (by exact hp) (by exact ha)]
    refine (enterAll_rotate (by exact ha) rfl (by simpa [Changer.goal, Changer.deadOver, motorOf, hin] using hne) 23).trans ?_
    refine (State.onChanger_onChanger _ _ _).trans (State.onChanger_congr ?_)
    simp [Changer.goal, Changer.deadOver, motorOf, hin]
  · refine exec_deadTimeEnd hs ((deadTimeEnds_retries hp hd hst hb).trans ?_)
    rw [retryStarts_homing (by exact hp) (by exact ha)]
    exact (enterAll_homing (by exact ha) rfl (by exact hz) 23).trans (State.onChanger_onChanger _ _ _)

/-! ## The stuck slide -/

/-- R27, R36, R201: a LIFT that ends with the barrier interrupted jams the changer. -/
theorem enter_lifted_sticks (hr : s.changer.retryPhase = none) (ho : OccupancyFollows s) (hb : s.pins.barrier = true)
    (hm : (s.faults.record .slideStuck).mode = .latch) (hf : (s.faults.record .slideStuck).latched = false)
    (hj : (s.faults.record .jam).present = false) :
    Tells (latchTelling .slideStuck .latch)
        (s.onChanger (Changer.jammed .slideStuck .lift (armOf s.pins.topSwitch s.pins.seatSwitch false)))
        (enter .lifted s) ∧
      (enter .lifted s).faults.record .slideStuck = { s.faults.record .slideStuck with
        present := true, latched := true, count := min 255 ((s.faults.record .slideStuck).count + 1)
        detail := some (.num s.changer.slot), tape := if s.tape.present then some s.tape.counter else none } ∧
      (∀ k, k ≠ .slideStuck → (enter .lifted s).faults.record k = s.faults.record k) ∧
      (enter .lifted s).faults.asserted = true := by
  rw [enter, enterAll_lifted_stuck hr ho hb, slideStuck]
  obtain ⟨htells, hrec, hother, hline⟩ := enterJammed_latching (s := s.motorsOff) (kind := .slideStuck) (by decide) ho hm hf
    hj (some (.num s.changer.slot)) .lift
  refine ⟨htells, hrec, hother, asserted_of_active (k := .slideStuck) hline ?_⟩
  refine (congrArg (FaultRecord.active .slideStuck) hrec).trans ?_
  simp [FaultRecord.active, hm]

/-- R27: the top switch closes in LIFTING over a slide that has stayed in the gate. -/
theorem slide_sticks (hs : s.signals = []) (hg : GateFollows s) (htop : s.pins.topSwitch = false)
    (hseat : s.pins.seatSwitch = false) (hb : s.pins.barrier = true) (hl : s.pins.lampCurrent = .normal)
    (hst : s.changer.state = .lifting) (hgd : s.changer.gateDrive = some .up) (htd : s.changer.trayDrive = none)
    (hr : s.changer.retryPhase = none) (hrun : s.engine.state ≠ .running) (hheld : s.engine.state ≠ .held)
    (hm : (s.faults.record .slideStuck).mode = .latch) (hf : (s.faults.record .slideStuck).latched = false)
    (hj : (s.faults.record .jam).present = false) :
    ∃ t, exec (.topSwitchChange true) s = .next t ∧
      t = { s with
        pins := { s.pins with topSwitch := true }
        changer := { s.changer with
          state := .jammed, arm := .lifted, occupancy := .empty, jam := some (.slideStuck, .lift), inFlight := none
          pendingTarget := none, gateDrive := none, gateDead := some 0, blanking := none, deglitch := none
          startDue := false, phaseTimer := none, backoffTimer := none, settleTimer := none }
        lamp := t.lamp, faults := t.faults, line := t.line
        engine := { s.engine with causes := Cause.all.filter (· ∈ Cause.slideStuck :: s.engine.causes) } } ∧
      t.faults.record .slideStuck = { s.faults.record .slideStuck with
        present := true, latched := true, count := min 255 ((s.faults.record .slideStuck).count + 1)
        detail := some (.num s.changer.slot), tape := if s.tape.present then some s.tape.counter else none } ∧
      (∀ k, k ≠ .slideStuck → t.faults.record k = s.faults.record k) ∧ t.faults.asserted = true ∧
      t.lamp.duty ≤ s.lamp.duty := by
  obtain ⟨l, hmoves, -, hduty, -⟩ := topSwitch_ends_lift hg htop hseat hl (.inr hb) hst
  have hexec : exec (.topSwitchChange true) s = .next (drain (topSwitchMoves true s)) := rfl
  obtain ⟨htells, hrec, hother, hline⟩ := enter_lifted_sticks (s := { s with
    pins := { s.pins with topSwitch := true }, changer := { s.changer with arm := .lifted, occupancy := .empty }, lamp := l })
    hr (by simp [OccupancyFollows, hseat, armOf, occupancyOf]) hb hm hf hj
  rw [hmoves, htells.drain_latch hs rfl hrun hheld] at hexec
  refine ⟨_, hexec, ?_, hrec, hother, hline, hduty⟩
  simp [State.onChanger, Changer.jammed, Changer.stopped, hseat, armOf, hgd, htd, hr]
end

end Sys2Proof.Machine

namespace Sys2Proof.Machine

/-! ## The state of the supply monitor

No operation of the changer moves the supply monitor, and so, as the changer is reached by its own operations alone, no
telling does. -/

section
variable (s : State)

@[simp] theorem tellGone_supply (k : FaultKind) : (tellGone k s).faults.supply = s.faults.supply :=
  congrArg Rig.supply (tellGone_rig s k)
@[simp] theorem tellPresent_supply (k : FaultKind) (detail : Option FaultDetail) :
    (tellPresent k detail s).faults.supply = s.faults.supply := congrArg Rig.supply (tellPresent_rig s k detail)
@[simp] theorem tellLatch_supply (k : FaultKind) : (tellLatch k s).faults.supply = s.faults.supply :=
  congrArg Rig.supply (tellLatch_rig s k)
@[simp] theorem dwellSeesCompletion_supply (occ : Occupancy) :
    (dwellSeesCompletion occ s).faults.supply = s.faults.supply := congrArg Rig.supply (dwellSeesCompletion_rig s occ)
@[simp] theorem refreshGate_supply : (refreshGate s).faults.supply = s.faults.supply :=
  congrArg Rig.supply (refreshGate_rig s)
@[simp] theorem stopMotors_supply : (stopMotors s).faults.supply = s.faults.supply :=
  congrArg Rig.supply (stopMotors_rig s)
@[simp] theorem report_supply (cls : ReportClass) (fields : List Field) :
    (s.report cls fields).faults.supply = s.faults.supply := rfl

@[simp] theorem startDrive_supply : (startDrive s).1.faults.supply = s.faults.supply := by
  unfold startDrive
  split
  · rfl
  · split
    · simp [returnToLift]
    · split <;> rfl
  · split <;> simp

@[simp] theorem enterJammed_supply (kind : FaultKind) (phase : Phase) :
    (enterJammed kind phase s).faults.supply = s.faults.supply := by
  unfold enterJammed
  dsimp only
  split <;> simp

@[simp] theorem completePhase_supply (phase : Phase) : (completePhase phase s).faults.supply = s.faults.supply := by
  unfold completePhase; split <;> simp

@[simp] theorem changeCompletes_supply (word : String) : (changeCompletes word s).1.faults.supply = s.faults.supply := by
  unfold changeCompletes; dsimp only; split <;> simp

/-- R207: no beginning and no end of a phase moves the monitor. -/
@[simp] theorem enterOnce_supply (e : Entry) : (enterOnce e s).1.faults.supply = s.faults.supply := by
  cases e with
  | change => unfold enterOnce beginChange; dsimp only; split <;> (try split) <;> rfl
  | lift => unfold enterOnce beginLift inPhase; dsimp only; split <;> simp
  | lifted => unfold enterOnce liftEnds; dsimp only; split <;> split <;> simp [slideStuck]
  | homing => unfold enterOnce beginHoming inPhase; dsimp only; split <;> simp
  | zeroFound => simp [enterOnce, zeroFound]
  | rotate => unfold enterOnce beginRotate inPhase; dsimp only; split <;> simp
  | rotated => simp [enterOnce, rotateEnds]
  | drop => unfold enterOnce beginDrop inPhase; dsimp only; split <;> simp
  | dropped => simp [enterOnce, dropEnds]
  | settle => rfl
  | settled => exact changeCompletes_supply s _
  | parked => exact changeCompletes_supply s _
end

@[simp] theorem enterAll_supply (n : Nat) (e : Entry) (s : State) :
    (enterAll n e s).faults.supply = s.faults.supply := by
  induction n generalizing e s with
  | zero => rfl
  | succ n ih =>
    have honce := enterOnce_supply s e
    rw [enterAll]
    split
    next h => rw [h] at honce; exact honce
    next h => rw [h] at honce; rw [ih]; exact honce

section
variable (s : State)

@[simp] theorem enter_supply (e : Entry) : (enter e s).faults.supply = s.faults.supply := enterAll_supply 24 e s

@[simp] theorem drive_supply : (drive s).faults.supply = s.faults.supply := by
  have hstart := startDrive_supply s
  unfold drive
  split
  next h => rw [h] at hstart; exact hstart
  next h => rw [h] at hstart; rw [enter_supply]; exact hstart

@[simp] theorem redirect_supply : (redirect s).faults.supply = s.faults.supply := by
  unfold redirect; dsimp only
  split
  · simp
  · split
    · rfl
    · split <;> simp

@[simp] theorem takeRequest_supply (t : Target) : (takeRequest t s).faults.supply = s.faults.supply := by
  unfold takeRequest; dsimp only
  split <;> (try split) <;> simp

@[simp] theorem changerRequest_supply (t : Target) : (changerRequest t s).1.faults.supply = s.faults.supply := by
  unfold changerRequest; split <;> simp

@[simp] theorem haltIfLow_supply : (haltIfLow s).faults.supply = s.faults.supply := by
  unfold haltIfLow enterHalted; split <;> simp

@[simp] theorem changerCleared_supply (kind : FaultKind) : (changerCleared kind s).faults.supply = s.faults.supply := by
  unfold changerCleared
  split
  · split <;> simp
  · rfl

@[simp] theorem resumeHeld_supply : (resumeHeld s).faults.supply = s.faults.supply := by
  unfold resumeHeld
  split <;> (try split) <;> simp

@[simp] theorem changerSupplyGood_supply : (changerSupplyGood s).faults.supply = s.faults.supply := by
  unfold changerSupplyGood
  split <;> simp
end

/-- R207: the tellings that follow an event leave the monitor. -/
theorem supply_kept (v : SupplyState) : Kept fun r => r.supply = v where
  request h t := (changerRequest_supply _ t).trans h
  cleared h kind := (changerCleared_supply _ kind).trans h

theorem drain_supply (s : State) : (drain s).faults.supply = s.faults.supply :=
  drain_keeps (supply_kept s.faults.supply) rfl

/-- R207: the end of the retry time finds the supply good. -/
theorem supplyRetryEnds_good {s : State} (h : s.faults.supply = .recovering) :
    (supplyRetryEnds s).faults.supply = .good := by
  have hlamp (t : State) : (lampSupplyGood t).faults.supply = t.faults.supply := congrArg Rig.supply (lampSupplyGood_rig t)
  have htape (t : State) : (tapeSupplyGood t).faults.supply = t.faults.supply := congrArg Rig.supply (tapeSupplyGood_rig t)
  rw [supplyRetryEnds, if_pos h, supplyReturns]
  simp [hlamp, htape, setSupply]

end Sys2Proof.Machine

namespace Sys2Proof.Machine

/-! ## The return of the supply -/

section
variable {s : State}

/-- R202: SUPPLY_LOW goes, and its latch with it. -/
theorem tellGone_supplyLow (hp : (s.faults.record .supplyLow).present = true)
    (hl : (s.faults.record .supplyLow).latched = true) :
    Tells [.causeOut .supplyLow] s (tellGone .supplyLow s) := by
  unfold Tells
  rw [tellGone_frame]
  congr 1
  unfold tellGone releaseLatch
  simp [hp, hl, causeOf, evaluateFaultLine, State.onFaults, State.emit, reportFault, State.report, State.onLine]

/-- R69: without a shift to go on with, and outside ON, the lamp controller has nothing to do. -/
theorem lampSupplyGood_quiet (hsh : s.lamp.shift = none) (hh : s.heat.state ≠ .on) : lampSupplyGood s = s := by
  unfold lampSupplyGood relight
  rw [if_neg (by exact hh)]
  have hmap : (s.lamp.shift.map fun sh => { sh with driven := true, drive := 0 }) = s.lamp.shift := by rw [hsh]; rfl
  simp only [State.onLamp, hmap]

/-- R116: SUPPLY leaves the pause reasons of a stopped tape. -/
theorem tapeSupplyGood_stopped (ht : s.tape.state = .stopped) :
    tapeSupplyGood s = s.onTape fun t => { t with reasons := { t.reasons with bySupply := false } } := by
  unfold tapeSupplyGood reasonGone
  split
  next h => rw [if_neg (by simp [ht])]
  next h =>
    have hs : s.tape.reasons.bySupply = false := by simpa using h
    simp [State.onTape, ← hs]

/-- R44: the changer is back in the state that HALTED interrupted. -/
def backIn (st : ChangerState) (s : State) : State :=
  (s.onChanger fun c => { c with state := st, held := none }).report .slide [fw "RESUMED"]

/-- R44: the changer acts on its held state. -/
theorem changerSupplyGood_halted {st : ChangerState} (hst : s.changer.state = .halted) (hh : s.changer.held = some st) :
    changerSupplyGood s = resumeHeld (backIn st s) := by
  unfold changerSupplyGood
  rw [hst, hh]
  rfl

/-- R178: outside a show, SUPPLY_LOW leaves the cause set that holds nothing else. -/
theorem Tells.drain_supplyLow_out {t : State} (h : Tells [.causeOut .supplyLow] s t) (hs : s.signals = [])
    (hr : s.engine.state ≠ .running) (hh : s.engine.state ≠ .held) (hc : s.engine.causes = [.supplyLow]) :
    drain t = { s with faults := t.faults, line := t.line, engine := { s.engine with causes := [] } } := by
  have hrec : receive (.causeOut .supplyLow) { t with signals := [] } =
      { t with signals := [], engine := { t.engine with causes := [] } } := by
    refine (setCauses_outside_show (s := { t with signals := [] }) _ (by rw [← h.engine] at hr; exact hr)
      (by rw [← h.engine] at hh; exact hh)).trans ?_
    simp [h.engine, hc, inOrder, State.onEngine]
  rw [drain_one (by rw [h.signals, hs]; rfl) (by rw [hrec]), hrec]
  unfold Tells at h
  rw [h, ← hs]

/-- R26, R44: LIFTING goes on with its drive. -/
theorem resumeHeld_lifting (hst : s.changer.state = .lifting) (ha : s.changer.arm ≠ .lifted)
    (hd : s.changer.gateDead = none) (ho : OccupancyFollows s) {p : Pins} (hpins : s.pins = p) :
    resumeHeld s = s.onChanger fun c => { c with
      phaseTimer := some 0, arm := armOf p.topSwitch p.seatSwitch true, gateDrive := some .up
      blanking := some 0, deglitch := none, startDue := false } := by
  subst hpins
  unfold resumeHeld
  rw [hst]
  refine (enterAll_lift ha hd ho 23).trans (State.onChanger_congr ?_)
  rw [← hst]

/-- R30, R44: DROPPING goes on with its drive. -/
theorem resumeHeld_dropping (hst : s.changer.state = .dropping) (ha : s.changer.arm ≠ .seated)
    (hd : s.changer.gateDead = none) (ho : OccupancyFollows s) {p : Pins} (hpins : s.pins = p) :
    resumeHeld s = s.onChanger fun c => { c with
      phaseTimer := some 0, arm := armOf p.topSwitch p.seatSwitch true, gateDrive := some .down
      blanking := some 0, deglitch := none, startDue := false } := by
  subst hpins
  unfold resumeHeld
  rw [hst]
  refine (enterAll_drop ha hd ho 23).trans (State.onChanger_congr ?_)
  rw [← hst]

/-- R31, R44: SETTLING waits its time anew. -/
theorem resumeHeld_settling (hst : s.changer.state = .settling) :
    resumeHeld s = s.onChanger fun c => { c with settleTimer := some 0 } := by
  unfold resumeHeld
  rw [hst]

/-- R32, R44: ROTATING and HOMING become a homing run. -/
theorem resumeHeld_homes (hst : s.changer.state = .rotating ∨ s.changer.state = .homing) (hg : GateFollows s)
    (ha : s.changer.arm = .lifted) (hb : s.pins.barrier = false) (hz : s.pins.zeroSensor = false)
    (htd : s.changer.trayDrive = none) (hgd : s.changer.gateDrive = none) (hd : s.changer.trayDead = none) :
    resumeHeld s = s.onChanger fun c => { c with
      state := .homing, status := .unsure, homes := true, keepCount := false, homingCount := 0, direction := .forward
      trayDrive := some .forward, lastDriven := .forward, blanking := some 0, deglitch := none, startDue := false
      phaseTimer := some 0 } := by
  have ho := occupancyFollows_of_gate hg
  have harm : armOf s.pins.topSwitch s.pins.seatSwitch false = .lifted := by rw [← ha, hg.1, hgd]; rfl
  have hresume : resumeHeld s = enter .lifted (s.onChanger fun c =>
      { c with status := .unsure, homes := true, keepCount := false }) := by
    unfold resumeHeld
    rcases hst with hst | hst <;> rw [hst] <;> dsimp only <;> rw [if_pos (by exact ha)]
  rw [hresume, enter, enterAll_lifted (.inr (by rcases hst with hst | hst <;> simp [hst])) (by exact ho) (by exact hb),
    if_pos (by rfl), enterAll_homing (by exact harm) (by simp [Changer.stopped, htd, hd]) (by exact hz), State.motorsOff,
    State.onChanger_onChanger, State.onChanger_onChanger]
  refine State.onChanger_congr ?_
  simp [Changer.stopped, htd, hgd, harm, ha]

/-- R35, R44: the reverse drive of a backoff of LIFT is made again. -/
theorem resumeHeld_backoff (hst : s.changer.state = .backoff) (hp : s.changer.backoffPhase = .lift)
    (hd : s.changer.gateDead = none) (ho : OccupancyFollows s) {p : Pins} (hpins : s.pins = p) :
    resumeHeld s = s.onChanger fun c => { c with
      arm := armOf p.topSwitch p.seatSwitch true, backoffDriven := false, gateDrive := some .down
      blanking := some 0, deglitch := none, startDue := false, backoffTimer := some 0 } := by
  subst hpins
  unfold resumeHeld
  rw [hst]
  dsimp only
  rw [drive_of_startDrive (startDrive_gate (a := .down) (by simp [Changer.wanted, hst, hp]) (by exact hd) (by exact ho)),
    State.onChanger_onChanger]
  refine State.onChanger_congr ?_
  simp [hst]

/-- R44, R69, R116: what the blocks of the power stage do when the supply is good again, the changer acting on `st` by `f`. -/
theorem blocks_resume {st : ChangerState} {f : Changer → Changer} (hst : s.changer.state = .halted)
    (hheld : s.changer.held = some st) (htape : s.tape.state = .stopped) (hshift : s.lamp.shift = none)
    (hheat : s.heat.state ≠ .on)
    (hres : ∀ t : State, t.changer = { s.changer with state := st, held := none } → t.pins = s.pins →
      resumeHeld t = t.onChanger f) :
    tapeSupplyGood (changerSupplyGood (lampSupplyGood s)) =
      ((backIn st s).onChanger f).onTape fun t => { t with reasons := { t.reasons with bySupply := false } } := by
  rw [lampSupplyGood_quiet hshift hheat, changerSupplyGood_halted hst hheld, hres (backIn st s) rfl rfl,
    tapeSupplyGood_stopped (by exact htape)]
end

/-- R44, R207: what the return of the supply to a halted changer does outside a show, the changer acting on its held state by
`f`. -/
theorem supply_resumes {s : State} {st : ChangerState} {f : Changer → Changer} (hs : s.signals = [])
    (hsup : s.faults.supply = .recovering) (hst : s.changer.state = .halted) (htape : s.tape.state = .stopped)
    (hshift : s.lamp.shift = none) (hheat : s.heat.state ≠ .on) (hp : (s.faults.record .supplyLow).present = true)
    (hl : (s.faults.record .supplyLow).latched = true) (hr : s.engine.state ≠ .running) (hh : s.engine.state ≠ .held)
    (hc : s.engine.causes = [.supplyLow]) (hheld : s.changer.held = some st)
    (hres : ∀ t : State, t.changer = { s.changer with state := st, held := none } → t.pins = s.pins →
      resumeHeld t = t.onChanger f) :
    drain (supplyRetryEnds s) = { s with
        changer := f { s.changer with state := st, held := none }
        tape := { s.tape with reasons := { s.tape.reasons with bySupply := false } }
        faults := (drain (supplyRetryEnds s)).faults, line := (drain (supplyRetryEnds s)).line
        engine := { s.engine with causes := [] } } ∧
      ∀ k, k ≠ .supplyLow → (drain (supplyRetryEnds s)).faults.record k = s.faults.record k := by
  have hgone : Tells [.causeOut .supplyLow] (setSupply .good none s) (tellGone .supplyLow (setSupply .good none s)) :=
    tellGone_supplyLow hp hl
  have hrec (k : FaultKind) (hk : k ≠ .supplyLow) :
      (tellGone .supplyLow (setSupply .good none s)).faults.record k = s.faults.record k := tellGone_record hk _
  have hends : supplyRetryEnds s = _ :=
    (if_pos hsup).trans (blocks_resume (s := tellGone .supplyLow (setSupply .good none s)) (st := st) (f := f)
      (by rw [hgone.changer]; exact hst) (by rw [hgone.changer]; exact hheld) (by rw [hgone.tape]; exact htape)
      (by rw [hgone.lamp]; exact hshift) (by rw [hgone.heat]; exact hheat)
      (by rw [hgone.changer, hgone.pins]; exact hres))
  have htells : Tells [.causeOut .supplyLow] ((s.onChanger fun c => f { c with state := st, held := none }).onTape fun t =>
      { t with reasons := { t.reasons with bySupply := false } }) (supplyRetryEnds s) := by
    rw [hends]
    unfold Tells at hgone ⊢
    rw [hgone]
    rfl
  rw [htells.drain_supplyLow_out hs hr hh hc]
  refine ⟨rfl, fun k hk => ?_⟩
  rw [hends]
  exact hrec k hk

/-- R44, R207: the return of the supply, by the state that HALTED interrupted. -/
theorem supply_returns_to_halted {s : State} (hs : s.signals = []) (hsup : s.faults.supply = .recovering)
    (hst : s.changer.state = .halted) (hg : GateFollows s) (htd : s.changer.trayDrive = none)
    (hgd : s.changer.gateDrive = none) (htape : s.tape.state = .stopped) (hshift : s.lamp.shift = none)
    (hheat : s.heat.state ≠ .on) (hp : (s.faults.record .supplyLow).present = true)
    (hl : (s.faults.record .supplyLow).latched = true) (hr : s.engine.state ≠ .running) (hh : s.engine.state ≠ .held)
    (hc : s.engine.causes = [.supplyLow]) :
    ∃ t, exec .supplyRetryEnd s = .next t ∧ t.faults.supply = .good ∧
      (let resumed (c : Changer) : Prop :=
        t = { s with
          changer := c, tape := { s.tape with reasons := { s.tape.reasons with bySupply := false } }
          faults := t.faults, line := t.line, engine := { s.engine with causes := [] } } ∧
        (∀ k, k ≠ .supplyLow → t.faults.record k = s.faults.record k)
       (s.changer.held = some .lifting → s.changer.arm ≠ .lifted → s.changer.gateDead = none →
          resumed { s.changer with
            state := .lifting, held := none, arm := armOf s.pins.topSwitch s.pins.seatSwitch true
            gateDrive := some .up, blanking := some 0, deglitch := none, startDue := false, phaseTimer := some 0 }) ∧
       (s.changer.held = some .dropping → s.changer.arm ≠ .seated → s.changer.gateDead = none →
          resumed { s.changer with
            state := .dropping, held := none, arm := armOf s.pins.topSwitch s.pins.seatSwitch true
            gateDrive := some .down, blanking := some 0, deglitch := none, startDue := false, phaseTimer := some 0 }) ∧
       (s.changer.held = some .settling →
          resumed { s.changer with state := .settling, held := none, settleTimer := some 0 }) ∧
       (s.changer.held = some .rotating ∨ s.changer.held = some .homing → s.changer.arm = .lifted →
          s.pins.barrier = false → s.pins.zeroSensor = false → s.changer.trayDead = none →
          resumed { s.changer with
            state := .homing, held := none, status := .unsure, homes := true, keepCount := false, homingCount := 0
            direction := .forward, trayDrive := some .forward, lastDriven := .forward, blanking := some 0
            deglitch := none, startDue := false, phaseTimer := some 0 }) ∧
       (s.changer.held = some .backoff → s.changer.backoffPhase = .lift → s.changer.gateDead = none →
          resumed { s.changer with
            state := .backoff, held := none, arm := armOf s.pins.topSwitch s.pins.seatSwitch true
            backoffDriven := false, gateDrive := some .down, blanking := some 0, deglitch := none, startDue := false
            backoffTimer := some 0 })) := by
  refine ⟨drain (supplyRetryEnds s), rfl, (drain_supply _).trans (supplyRetryEnds_good hsup), ?_⟩
  have resumes {st : ChangerState} {f : Changer → Changer} :=
    supply_resumes (st := st) (f := f) hs hsup hst htape hshift hheat hp hl hr hh hc
  have follows {st : ChangerState} {t : State} (hc : t.changer = { s.changer with state := st, held := none })
      (hp : t.pins = s.pins) : GateFollows t := by rw [GateFollows, hc, hp]; exact hg
  intro resumed
  refine ⟨fun hheld ha hd => ?_, fun hheld ha hd => ?_, fun hheld => ?_, fun hheld ha hb hz hd => ?_,
    fun hheld hp hd => ?_⟩
  · exact resumes hheld fun t hc hp => resumeHeld_lifting (by rw [hc]) (by rw [hc]; exact ha) (by rw [hc]; exact hd)
      (occupancyFollows_of_gate (follows hc hp)) hp
  · exact resumes hheld fun t hc hp => resumeHeld_dropping (by rw [hc]) (by rw [hc]; exact ha) (by rw [hc]; exact hd)
      (occupancyFollows_of_gate (follows hc hp)) hp
  · exact resumes hheld fun t hc _ => resumeHeld_settling (by rw [hc])
  · have homes {st : ChangerState} (hst : st = .rotating ∨ st = .homing) (hheld : s.changer.held = some st) :=
      resumes hheld fun t hc hp => resumeHeld_homes (by rw [hc]; exact hst) (follows hc hp) (by rw [hc]; exact ha)
        (by rw [hp]; exact hb) (by rw [hp]; exact hz) (by rw [hc]; exact htd) (by rw [hc]; exact hgd) (by rw [hc]; exact hd)
    rcases hheld with hheld | hheld
    · exact homes (.inl rfl) hheld
    · exact homes (.inr rfl) hheld
  · exact resumes hheld fun t hc' hp' => resumeHeld_backoff (by rw [hc']) (by rw [hc']; exact hp) (by rw [hc']; exact hd)
      (occupancyFollows_of_gate (follows hc' hp')) hp'

/-- Settles O23, one theorem for each part of the statement. -/
theorem motorTimesAct : Obligations.MotorTimesAct := by
  refine ⟨fun s hs => blanking_and_deglitch hs.2, fun s hs hst ha ho => dead_times_end hs.2 hst ha ho,
    fun s hs h => backoff_drive_ends hs.2 h,
    fun s hs hg htop hseat hb hl hst hgd htd hr hrun hheld hm hf hj =>
      slide_sticks hs.2 hg htop hseat hb hl hst hgd htd hr hrun hheld hm hf hj,
    fun s hs hg hst hb _ _ => retries_start hs.2 hg hst hb,
    fun s hs hsup hst hg htd hgd htape hshift hheat hp hl hr hh hc =>
      supply_returns_to_halted hs.2 hsup hst hg htd hgd htape hshift hheat hp hl hr hh hc⟩

end Sys2Proof.Machine

namespace Sys2Proof.Machine

/-! ## The end of the settle time -/

section
variable {s : State} {b p : Target}

/-- R61: what the lamp controller makes of a completed change, told with `word`. -/
def dwellSeen (word : String) (b : Target) (s : State) : State :=
  dwellSeesCompletion s.changer.occupancy (s.report .slide [fi b.slot, fw word])

@[simp] theorem dwellSeen_changer (word : String) : (dwellSeen word b s).changer = s.changer := by
  rw [dwellSeen, (dwellSeesCompletion_frame _ _).1]; rfl
@[simp] theorem dwellSeen_pins (word : String) : (dwellSeen word b s).pins = s.pins := by
  rw [dwellSeen, (dwellSeesCompletion_frame _ _).1]; rfl
@[simp] theorem dwellSeen_engine (word : String) : (dwellSeen word b s).engine = s.engine := by
  rw [dwellSeen, (dwellSeesCompletion_frame _ _).1]; rfl
@[simp] theorem dwellSeen_signals (word : String) : (dwellSeen word b s).signals = s.signals := by
  rw [dwellSeen, (dwellSeesCompletion_frame _ _).1]; rfl

/-- R61: after a completion no fresh slide is left. -/
theorem dwellSeesCompletion_clears (occ : Occupancy) (s : State) :
    occ ≠ .slide ∨ (dwellSeesCompletion occ s).lamp.gateCleared = false := by
  by_cases hocc : occ = .slide
  · right
    by_cases hg : s.lamp.gateCleared = true
    · unfold dwellSeesCompletion
      rw [if_pos ⟨hocc, hg⟩]
      dsimp only
      split <;> rfl
    · rw [(dwellSeesCompletion_frame _ _).2 (.inr (by simpa using hg))]
      simpa using hg
  · exact .inl hocc

/-- R61: a completion, written out. -/
theorem dwellSeesCompletion_eq (occ : Occupancy) (s : State) :
    dwellSeesCompletion occ s =
      if occ = .slide ∧ s.lamp.gateCleared = true then
        (if s.lamp.dwellCap = 1000 then s.onLamp fun l => { l with dwell := 0, gateCleared := false, dwellCap := 1000 }
        else (s.onLamp fun l => { l with dwell := 0, gateCleared := false, dwellCap := 1000 }).report .lamp
          [fw "DWELL", fw "OFF"])
      else s := by
  unfold dwellSeesCompletion
  dsimp only
  rw [ite_not]

/-- R31: the settle time ends with nothing pending. -/
theorem settleEnd_completes (hs : s.signals = []) (hb : s.changer.inFlight = some b) (hst : s.changer.state = .settling)
    (hp : s.changer.pendingTarget = none) (hx : s.engine.execution = none) :
    exec .settleEnd s = .next ((dwellSeen (seatedWord s.changer.occupancy) b s).onChanger fun c =>
      { c with state := .idle, inFlight := none, phaseTimer := none, settleTimer := none }) := by
  have hends : settleEnds s = ((dwellSeen (seatedWord s.changer.occupancy) b s).onChanger Changer.completed).emit
      (.changeDone b.slot b.origin) := (if_pos hst).trans (enterAll_settled hb hp 23)
  show happens settleEnds s = _
  rw [happens, hends, drain_of_change_done _ _ (by simpa using hx) (by simpa using hs)]
  congr 1
  refine State.onChanger_congr ?_
  simp [Changer.completed, hp]

/-- R25, R31: a change to the slot that the tray stands at is complete as it begins. -/
theorem enterAll_change_settled (hk : s.changer.status = .known) (ha : s.changer.arm = .seated)
    (hg : s.changer.goal = s.changer.slot) (hp : (s.changer.inFlight.map Target.park).getD false = false) (n : Nat) :
    enterAll (n + 1) .change s = enterAll n .settled (s.onChanger fun c => { c with
      retries := 0, homes := false, keepCount := false, retryPhase := none, homingCount := 0 }) := by
  refine enterAll_next ?_ n
  show beginChange s = _
  unfold beginChange
  rw [if_pos (by exact ⟨hk, ha, hg, hp⟩)]
  simp [State.onChanger, hk]

/-- R31, R40: the settle time ends, and the pending target begins the next change. -/
theorem settleEnds_pending (hb : s.changer.inFlight = some b) (hst : s.changer.state = .settling)
    (hp : s.changer.pendingTarget = some p) :
    settleEnds s = enterAll 23 .change (((dwellSeen (seatedWord s.changer.occupancy) b s).onChanger
      Changer.completed).emit (.changeDone b.slot b.origin)) :=
  (if_pos hst).trans (enterAll_settled_pending hb hp 23)

/-- R25, R40: the next change is to another slot, or a park: it begins with its LIFT. -/
theorem settleEnd_lifts (hs : s.signals = []) (hb : s.changer.inFlight = some b) (hst : s.changer.state = .settling)
    (hp : s.changer.pendingTarget = some p) (hx : s.engine.execution = none) (hk : s.changer.status = .known)
    (ha : s.changer.arm = .seated) (hocc : s.changer.occupancy = occupancyOf .seated s.pins.barrier)
    (htop : s.pins.topSwitch = false) (hseat : s.pins.seatSwitch = true) (hd : s.changer.gateDead = none)
    (hway : p.slot ≠ s.changer.slot ∨ p.park = true) :
    exec .settleEnd s = .next ((dwellSeen (seatedWord s.changer.occupancy) b s).onChanger fun c =>
      { Changer.liftFor p c with pendingTarget := none, settleTimer := none }) := by
  show happens settleEnds s = _
  rw [happens, settleEnds_pending hb hst hp, enterAll_change (by simpa [Changer.completed] using ha)
    (by simpa [Changer.completed] using hd) (by simpa using htop) (by simpa using hseat)
    (by simpa [Changer.completed] using hocc) (.inr (by simpa [Changer.completed, Changer.goal, hp] using hway)),
    State.emit_onChanger, State.onChanger_onChanger, drain_of_change_done _ _ (by simpa using hx) (by simpa using hs)]
  congr 1
  refine State.onChanger_congr ?_
  simp [Changer.completed, Changer.liftFor, hp, hk]

/-- R25, R40: the next change is to the same slot: it is complete at once. -/
theorem settleEnd_completes_twice (hs : s.signals = []) (hb : s.changer.inFlight = some b)
    (hst : s.changer.state = .settling) (hp : s.changer.pendingTarget = some p) (hx : s.engine.execution = none)
    (hk : s.changer.status = .known) (ha : s.changer.arm = .seated) (hsame : p.slot = s.changer.slot)
    (hpark : p.park = false) :
    exec .settleEnd s = .next (((dwellSeen (seatedWord s.changer.occupancy) b s).report .slide
      [fi p.slot, fw (seatedWord s.changer.occupancy)]).onChanger fun c =>
        { c with
          state := .idle, inFlight := none, pendingTarget := none, phaseTimer := none, settleTimer := none
          retries := 0, homes := false, keepCount := false, retryPhase := none, homingCount := 0 }) := by
  have hclear : s.changer.occupancy ≠ .slide ∨
      (dwellSeen (seatedWord s.changer.occupancy) b s).lamp.gateCleared = false := dwellSeesCompletion_clears _ _
  have hends : settleEnds s = (((((dwellSeen (seatedWord s.changer.occupancy) b s).report .slide
      [fi p.slot, fw (seatedWord s.changer.occupancy)]).onChanger fun c =>
        { c with
          state := .idle, inFlight := none, pendingTarget := none, phaseTimer := none, settleTimer := none
          retries := 0, homes := false, keepCount := false, retryPhase := none, homingCount := 0 }).emit
            (.changeDone b.slot b.origin)).emit (.changeDone p.slot p.origin)) := by
    rw [settleEnds_pending hb hst hp, enterAll_change_settled (by simpa [Changer.completed] using hk)
      (by simpa [Changer.completed] using ha) (by simp [Changer.completed, Changer.goal, hp, hsame])
      (by simp [Changer.completed, hp, hpark]), enterAll_settled (b := p) (by simp [Changer.completed, hp])
      (by simp [Changer.completed]), changeTold, (dwellSeesCompletion_frame _ _).2 (by simpa [Changer.completed] using hclear)]
    simp [State.emit, State.report, State.onLine, State.onChanger, Changer.completed, hp]
  show happens settleEnds s = _
  rw [happens, hends, drain_of_changes_done (by simpa using hx) (by simp [State.emit, hs]) (by simp [State.emit, hs])]
  simp [State.emit, State.onChanger, State.report, State.onLine, ← hs]

end

end Sys2Proof.Machine

namespace Sys2Proof.Machine

/-! ## The tray switch -/

section
variable {s : State}

/-- R41: the tray is off, and told so. -/
def trayIsOut (s : State) : State :=
  ((s.onPins fun p => { p with trayIn := false }).onChanger fun c =>
    { c with trayPresent := false, status := .unhomed, slot := 0 }).report .slide [fw "TRAY", fw "OUT"]

/-- R41: the tray leaves a changer at rest with nothing in flight. -/
theorem trayRemoved_at_rest (ht : s.changer.trayPresent = true) (hin : s.changer.inFlight = none)
    (hr : s.engine.state ≠ .running) (hst : s.changer.state = .idle ∨ s.changer.state = .unhomed) :
    trayRemoved s = (trayIsOut s).onChanger fun c => { c with state := .noTray } := by
  unfold trayRemoved
  dsimp only
  rw [if_neg (by simp [ht])]
  rcases hst with hst | hst <;>
  · simp only [State.report_changer, State.onChanger_changer, State.onPins_changer, hst, hin]
    exact if_neg (by simp [hr])

/-- R42: the tray comes back to a changer in NO_TRAY. -/
theorem trayInserted_quiet (ht : s.changer.trayPresent = false) (hst : s.changer.state = .noTray)
    (hl : s.supplyLow = false) (hp : (s.faults.record .trayOut).present = false) (zero : Bool) :
    trayInserted zero s = ((s.onPins fun p => { p with trayIn := true, zeroSensor := zero }).onChanger fun c =>
      { c with trayPresent := true, state := .unhomed, slot := 0 }).report .slide [fw "TRAY", fw "IN"] := by
  unfold trayInserted
  dsimp only
  rw [if_neg (by simp [ht]), tellGone_of_absent (by exact hp)]
  simp only [State.report_changer, State.onChanger_changer, State.onPins_changer, hst]
  exact if_neg (by exact (by simp [hl] : ¬ s.supplyLow = true))

/-- R41: both targets are removed, and none is handed back. -/
theorem dropTargets_silent (hin : ∀ t, s.changer.inFlight = some t → t.origin ≠ .show)
    (hpend : ∀ t, s.changer.pendingTarget = some t → t.origin ≠ .show) :
    dropTargets s = s.onChanger fun c => { c with inFlight := none, pendingTarget := none } := by
  have silent {t : Option Target} (h : ∀ b, t = some b → b.origin ≠ .show) (u : State) : handBack t u = u := by
    cases t with
    | none => rfl
    | some b => exact if_neg (h b rfl)
  unfold dropTargets
  dsimp only
  rw [silent hin, silent hpend]

/-- R41: the tray has left a changer in a change, and its motors have stopped. -/
def trayOutOfChange (s : State) : State :=
  (trayIsOut s).motorsOff.onChanger fun c => { c with
    state := .noTray, retryPhase := none, phaseTimer := none, backoffTimer := none, settleTimer := none }

/-- R41, R43: the tray has left a changer that HALTED keeps from its change. -/
def trayOutOfHalted (s : State) : State :=
  (trayIsOut s).onChanger fun c => { c with held := some .noTray, retryPhase := none }

theorem trayRemoved_in_change {b : Target} (ht : s.changer.trayPresent = true) (hin : s.changer.inFlight = some b)
    (ho : OccupancyFollows s)
    (hst : s.changer.state ∈ [ChangerState.lifting, .rotating, .dropping, .settling, .homing, .backoff]) :
    trayRemoved s = tellPresent .trayOut (some (.num b.slot)) (dropTargets (tellGone .jam (trayOutOfChange s))) := by
  simp only [List.mem_cons, List.not_mem_nil, or_false] at hst
  have hstop : stopMotors (trayIsOut s) = (trayIsOut s).motorsOff := stopMotors_quiet ho
  unfold trayRemoved
  dsimp only
  rw [if_neg (by simp [ht])]
  rcases hst with hst | hst | hst | hst | hst | hst <;>
  · simp only [State.report_changer, State.onChanger_changer, State.onPins_changer, hst, hin]
    rw [if_pos (by simp)]
    exact congrArg (fun u => tellPresent .trayOut _ (dropTargets (tellGone .jam (State.onChanger _ u)))) hstop

theorem trayRemoved_halted {b : Target} (ht : s.changer.trayPresent = true) (hin : s.changer.inFlight = some b)
    (hst : s.changer.state = .halted) :
    trayRemoved s = tellPresent .trayOut (some (.num b.slot)) (dropTargets (tellGone .jam (trayOutOfHalted s))) := by
  unfold trayRemoved
  dsimp only
  rw [if_neg (by simp [ht])]
  simp only [State.report_changer, State.onChanger_changer, State.onPins_changer, hst, hin]
  rw [if_pos (by simp)]
  rfl

/-- R201: the parts of a record after an occurrence. -/
theorem FaultRecord.fields_of_occurred {k : FaultKind} {r old : FaultRecord} {detail : Option FaultDetail} {t : Tape}
    (h : r = old.occurred k detail t) :
    r.present = true ∧ r.count = min 255 (old.count + 1) ∧ r.detail = detail ∧
      r.tape = (if t.present then some t.counter else none) ∧ (old.mode = .latch → r.latched = true) := by
  subst h
  exact ⟨rfl, rfl, rfl, rfl, fun hm => by simp [FaultRecord.occurred, latchesAtOnce, hm]⟩

/-- R41, R178, R201: what the fault list and the show engine make of the removal, from the state `s` in which the JAM condition
goes. -/
theorem tray_removal_told (detail : Option FaultDetail) (hs : s.signals = [])
    (hin : ∀ t, s.changer.inFlight = some t → t.origin ≠ .show)
    (hpend : ∀ t, s.changer.pendingTarget = some t → t.origin ≠ .show) (hr : s.engine.state ≠ .running)
    (hh : s.engine.state ≠ .held)
    (hm : (s.faults.record .trayOut).mode = .latch ∨ (s.faults.record .trayOut).mode = .report) :
    let t := drain (tellPresent .trayOut detail (dropTargets (tellGone .jam s)))
    t = { s with
        changer := { s.changer with inFlight := none, pendingTarget := none }, faults := t.faults, line := t.line
        engine := t.engine } ∧
      (t.faults.record .jam).present = false ∧
      t.faults.record .trayOut = (s.faults.record .trayOut).occurred .trayOut detail s.tape ∧
      (∀ k, k ≠ .trayOut → k ≠ .jam → t.faults.record k = s.faults.record k) ∧
      t.engine = { s.engine with
        causes := if (s.faults.record .trayOut).mode = .latch ∧ (s.faults.record .trayOut).latched = false
          then Cause.all.filter (· ∈ Cause.trayOut :: s.engine.causes) else s.engine.causes } := by
  obtain ⟨hjam, hgone, -⟩ := tellGone_keeps_latch (k := .jam) (by decide) (by decide) s
  have hother (k : FaultKind) (hk : k ≠ .jam) : (tellGone .jam s).faults.record k = s.faults.record k := tellGone_record hk s
  rw [dropTargets_silent (by rw [hgone.changer]; exact hin) (by rw [hgone.changer]; exact hpend)]
  have hdrop := hgone.onChanger fun c => { c with inFlight := none, pendingTarget := none }
  generalize hu : (tellGone .jam s).onChanger (fun c => { c with inFlight := none, pendingTarget := none }) = u at hdrop ⊢
  have hurec (k : FaultKind) : u.faults.record k = (tellGone .jam s).faults.record k := by rw [← hu]; rfl
  have hrec : u.faults.record .trayOut = s.faults.record .trayOut := (hurec _).trans (hother _ (by decide))
  have hoff : (u.faults.record .trayOut).mode ≠ .off := by rw [hrec]; rcases hm with hm | hm <;> simp [hm]
  have hkeeps (k : FaultKind) (hk : k ≠ .trayOut) :
      (tellPresent .trayOut detail u).faults.record k = (tellGone .jam s).faults.record k :=
    (tellPresent_record hk detail u).trans (hurec k)
  have hself := tellPresent_record_self (k := .trayOut) (s := u) detail hoff
  rw [hrec, hdrop.tape] at hself
  have hjamGone : ((tellPresent .trayOut detail u).faults.record .jam).present = false := by
    rw [hkeeps _ (by decide), hjam]
  by_cases hlatch : (s.faults.record .trayOut).mode = .latch ∧ (s.faults.record .trayOut).latched = false
  · have htold := tellPresent_latches (k := .trayOut) (s := u) detail hoff (by rw [hrec, hlatch.1]; rfl)
      (by rw [hrec]; exact hlatch.2)
    rw [(hdrop.trans_quiet htold).drain_latch hs rfl hr hh, if_pos hlatch]
    exact ⟨rfl, hjamGone, hself, fun k h1 h2 => (hkeeps k h1).trans (hother k h2), rfl⟩
  · have htold := tellPresent_quiet (k := .trayOut) (s := u) detail hoff (by
      rw [hrec]
      rcases hm with hm | hm
      · exact .inr (by simpa [hm] using hlatch)
      · exact .inl (by rw [hm]; rfl))
    have hall := hdrop.trans_quiet htold
    rw [hall.drain_quiet hs, if_neg hlatch]
    exact ⟨by rw [hall.engine]; exact hall.changed, hjamGone, hself, fun k h1 h2 => (hkeeps k h1).trans (hother k h2),
      hall.engine⟩
end

/-- Settles O25: the settle time's end is `settleEnd_completes` and what follows it, the removal of the tray in a change
`tray_removal_told`. -/
theorem settledChangesAndTheTrayAreReported : Obligations.SettledChangesAndTheTrayAreReported := by
  refine ⟨fun s b hb hs hst hp hx hg => ?_, fun s hs => ⟨fun ht hin hr hst => ?_, fun zero ht hst hl hp => ?_⟩,
    fun s b hb hs hst hx => ?_, fun s b hb hs h ht horigin hpend hr hh hm => ?_⟩
  · have hseen : dwellSeen (seatedWord s.changer.occupancy) b s = _ := (dwellSeesCompletion_frame _ _).2 (.inr hg)
    rw [settleEnd_completes hs.2 hb hst hp hx, hseen]
    rfl
  · have hremoved := trayRemoved_at_rest ht hin hr hst
    exact (happens_of_quiet (f := trayRemoved) (by rw [hremoved]; exact hs.2)).trans (by rw [hremoved]; rfl)
  · have hinserted := trayInserted_quiet ht hst hl hp zero
    exact (happens_of_quiet (f := trayInserted zero) (by rw [hinserted]; exact hs.2)).trans (by rw [hinserted])
  · intro word told fresh seen
    have hseen : dwellSeen (seatedWord s.changer.occupancy) b s = seen := dwellSeesCompletion_eq _ _
    rw [← hseen]
    exact ⟨fun hp => settleEnd_completes hs.2 hb hst hp hx, fun p hp hk ha hocc htop hseat hd =>
      ⟨fun hway => settleEnd_lifts hs.2 hb hst hp hx hk ha hocc htop hseat hd hway,
        fun hsame hpark => settleEnd_completes_twice hs.2 hb hst hp hx hk ha hsame hpark⟩⟩
  · intro told
    have hexec : exec .trayOut s = .next (drain (trayRemoved s)) := rfl
    have horigins (t : Target) (hin : s.changer.inFlight = some t) : t.origin ≠ .show := by
      rw [hb] at hin
      exact Option.some.inj hin ▸ horigin
    refine ⟨fun hst => ?_, fun hst => ?_⟩
    · rw [trayRemoved_in_change ht hb (occupancyFollows_of_gate h.1) hst] at hexec
      obtain ⟨heq, hjam, hrec, hother, heng⟩ := tray_removal_told (s := trayOutOfChange s)
        (some (.num b.slot)) hs.2 horigins hpend hr hh hm
      obtain ⟨hpresent, hcount, hdetail, htape, hlatched⟩ := FaultRecord.fields_of_occurred hrec
      exact ⟨_, hexec, heq, hjam, hpresent, hcount, hdetail, htape, hlatched, hother, heng⟩
    · rw [trayRemoved_halted ht hb hst] at hexec
      obtain ⟨heq, hjam, hrec, hother, heng⟩ := tray_removal_told (s := trayOutOfHalted s)
        (some (.num b.slot)) hs.2 horigins hpend hr hh hm
      obtain ⟨hpresent, hcount, hdetail, htape, hlatched⟩ := FaultRecord.fields_of_occurred hrec
      exact ⟨_, hexec, heq, hjam, hpresent, hcount, hdetail, htape, hlatched, hother, heng⟩

end Sys2Proof.Machine

namespace Sys2Proof.Machine

/-! ## What decides whether the lamp may shine -/

/-- The part of the lamp controller that its invariant speaks of. -/
structure LampView where
  curve : Vector Nat 11
  duty : Nat
  level : Nat
  guard : Nat
  guardOn : Bool
  recovery : Option Nat
  primary : LampState
  spare : LampState
  path : Option LampPos
  shifting : Bool
  shortHold : Bool
  shiftHold : Bool

abbrev Lamp.view (l : Lamp) : LampView :=
  ⟨l.curve, l.duty, l.level, l.guard, l.guardOn, l.recovery, l.primary.state, l.spare.state, l.path, l.shift.isSome,
    l.shortHold, l.shiftHold⟩

/-- What decides whether the lamp may shine: the lamp controller, the occupancy of the gate, the supply monitor and the power
state. -/
structure Light where
  lamp : LampView
  occupancy : Occupancy
  supply : SupplyState
  power : PowerState

/-- The light of a state. -/
def State.light (s : State) : Light := ⟨s.lamp.view, s.changer.occupancy, s.faults.supply, s.heat.state⟩

/-- R59: a row of the table makes the duty 0. -/
def Light.dark (g : Light) : Bool :=
  (g.supply == .low || g.supply == .recovering) || g.lamp.shifting || g.lamp.shortHold || g.lamp.shiftHold ||
    (g.lamp.primary != .active && g.lamp.spare != .active) ||
    (match g.power with
      | .standby | .cooldown | .tripped => true
      | .warming | .on => false)

theorem Lamp.activePos_isNone (l : Lamp) :
    l.activePos.isNone = (l.primary.state != .active && l.spare.state != .active) := by
  unfold Lamp.activePos
  split
  · simp_all
  · split <;> simp_all

theorem lampDark_eq (s : State) : lampDark s = s.light.dark := by
  unfold lampDark
  rw [Lamp.activePos_isNone]
  rfl

/-- The invariant but for the level and the duty: they may be computed from here. -/
def Light.Ready (g : Light) : Prop :=
  (g.lamp.primary = .active → g.lamp.path = some .primary) ∧ (g.lamp.spare = .active → g.lamp.path = some .spare) ∧
    (g.lamp.guardOn = true → g.occupancy ≠ .slide → g.lamp.guard = 0 ∧ g.lamp.recovery = none) ∧ CurveRises g.lamp.curve

/-- The invariant of the lamp with that of its curve, as a property of the light. -/
def Light.Ok (g : Light) : Prop :=
  g.Ready ∧ (g.dark = true → g.lamp.duty = 0) ∧ (g.lamp.guardOn = true → g.occupancy ≠ .slide → g.lamp.level = 0)

theorem State.light_ok_iff (s : State) : s.light.Ok ↔ LampOk s ∧ CurveRises s.lamp.curve := by
  unfold LampOk ActiveAtPath DarkIsDark GuardedIsDark Light.Ok Light.Ready
  rw [lampDark_eq]
  constructor
  · rintro ⟨⟨hp, hs, hg, hc⟩, hd, hl⟩
    exact ⟨⟨⟨hp, hs⟩, hd, fun h1 h2 => ⟨(hg h1 h2).1, hl h1 h2, (hg h1 h2).2⟩⟩, hc⟩
  · rintro ⟨⟨⟨hp, hs⟩, hd, hg⟩, hc⟩
    exact ⟨⟨hp, hs, fun h1 h2 => ⟨(hg h1 h2).1, (hg h1 h2).2.2⟩, hc⟩, hd, fun h1 h2 => (hg h1 h2).2.1⟩

section
variable (s : State)
@[simp] theorem State.onPins_light (f : Pins → Pins) : (s.onPins f).light = s.light := rfl
@[simp] theorem State.onLine_light (f : Line → Line) : (s.onLine f).light = s.light := rfl
@[simp] theorem State.onTape_light (f : Tape → Tape) : (s.onTape f).light = s.light := rfl
@[simp] theorem State.onCue_light (f : Cue → Cue) : (s.onCue f).light = s.light := rfl
@[simp] theorem State.onKeys_light (f : Keys → Keys) : (s.onKeys f).light = s.light := rfl
@[simp] theorem State.onEngine_light (f : Engine → Engine) : (s.onEngine f).light = s.light := rfl
@[simp] theorem State.onExec_light (f : Execution → Execution) : (s.onExec f).light = s.light := rfl
@[simp] theorem State.onTriggers_light (f : Triggers → Triggers) : (s.onTriggers f).light = s.light := rfl
@[simp] theorem State.onFaults_change_light (k : FaultKind) (f : FaultRecord → FaultRecord) :
    (s.onFaults (Faults.change k f)).light = s.light := rfl
@[simp] theorem State.emit_light (sig : Signal) : (s.emit sig).light = s.light := rfl
@[simp] theorem State.report_light (cls : ReportClass) (fields : List Field) : (s.report cls fields).light = s.light := rfl
@[simp] theorem State.signals_light (l : List Signal) : State.light { s with signals := l } = s.light := rfl

/-- A change of the lamp controller outside its view. -/
@[simp] theorem State.onLamp_light {f : Lamp → Lamp} (h : ∀ l, (f l).view = l.view) : (s.onLamp f).light = s.light := by
  simp [State.light, h]

/-- A change of the changer that leaves the occupancy. -/
@[simp] theorem State.onChanger_light {f : Changer → Changer} (h : ∀ c, (f c).occupancy = c.occupancy) :
    (s.onChanger f).light = s.light := by
  simp [State.light, h]

/-- A change of the heat and power unit that leaves the power state. -/
@[simp] theorem State.onHeat_light {f : Heat → Heat} (h : ∀ u, (f u).state = u.state) : (s.onHeat f).light = s.light := by
  simp [State.light, h]
end

/-! ### The fault list -/

section
variable (s : State)
@[simp] theorem evaluateFaultLine_light : (evaluateFaultLine s).light = s.light := rfl
@[simp] theorem reportFault_light (k : FaultKind) (fields : List Field) : (reportFault k fields s).light = s.light := rfl
@[simp] theorem reportRaised_light (k : FaultKind) : (reportRaised k s).light = s.light := rfl
@[simp] theorem tellPresent_light (k : FaultKind) (detail : Option FaultDetail) :
    (tellPresent k detail s).light = s.light := by
  have hs := tellPresent_supply s k detail
  rw [tellPresent_frame]; simp [State.light]
@[simp] theorem tellGone_light (k : FaultKind) : (tellGone k s).light = s.light := by
  have hs := tellGone_supply s k
  rw [tellGone_frame]; simp [State.light]
@[simp] theorem tellLatch_light (k : FaultKind) : (tellLatch k s).light = s.light := by
  have hs := tellLatch_supply s k
  unfold tellLatch at *
  rw [setLatch_frame]; simp [State.light, hs]
@[simp] theorem tellTripRetried_light : (tellTripRetried s).light = s.light := by
  unfold tellTripRetried releaseLatch; dsimp only; split
  · split <;> rfl
  · rfl
@[simp] theorem doFaultmodeSet_light (k : FaultKind) (m : FaultMode) : (doFaultmodeSet k m s).1.light = s.light := by
  unfold doFaultmodeSet; split
  · rfl
  · dsimp only; split <;> simp
end

/-! ### The level and the duty -/

theorem Lamp.leastLevel_le_guard (l : Lamp) : l.leastLevel ≤ l.guard := by
  unfold Lamp.leastLevel; omega

/-- R59: the table gives no duty to a dark lamp. -/
theorem tableDuty_dark {s : State} (h : s.light.dark = true) (level : Nat) : tableDuty s level = 0 := by
  rw [tableDuty, lampDark_eq, if_pos h]

/-- R56, R57, R59: a level computed as the least of its ceilings, and a duty that is 0 where the lamp is dark. -/
theorem Light.Ready.recomputed {s : State} (h : s.light.Ready) {d : Lamp → Nat} (hd : s.light.dark = true → d s.lamp = 0) :
    (s.onLamp fun l => { l with level := l.leastLevel, duty := d l }).light.Ok :=
  ⟨h, hd, fun h1 h2 => Nat.le_zero.1 ((h.2.2.1 h1 h2).1 ▸ s.lamp.leastLevel_le_guard)⟩

/-- R64: the open check touches its timer alone. -/
@[simp] theorem checkOpen_light (s : State) : (checkOpen s).light = s.light := by
  rw [checkOpen_frame]; rfl

/-- R66: the short hold makes the lamp dark, and its duty is 0 with it. -/
theorem checkShort_lightOk {s : State} (h : s.light.Ok) : (checkShort s).light.Ok := by
  unfold checkShort
  split
  · have hr := h.1.recomputed (d := fun _ => 0) fun _ => rfl
    simp only [State.report_light, tellPresent_light]
    exact ⟨hr.1, fun _ => rfl, hr.2.2⟩
  · exact h

theorem checkLampCurrent_lightOk {s : State} (h : s.light.Ok) : (checkLampCurrent s).light.Ok := by
  rw [checkLampCurrent, checkOpen_light]; exact checkShort_lightOk h

theorem recomputeAtUpdate_lightOk {s : State} (h : s.light.Ready) : (recomputeAtUpdate s).light.Ok :=
  checkLampCurrent_lightOk (h.recomputed (d := fun l => tableDuty _ l.leastLevel) fun hd => tableDuty_dark hd _)

theorem dutyAtOnce_lightOk {s : State} (h : s.light.Ready) : (dutyAtOnce s).light.Ok :=
  checkLampCurrent_lightOk (h.recomputed (d := fun l => min l.duty (tableDuty s l.leastLevel)) fun hd => by
    rw [tableDuty_dark hd, Nat.min_zero])

/-- R56: at a change of occupancy the guard comes into force before the level is computed. -/
theorem lampSeesOccupancy_lightOk {s : State} (hp : ActiveAtPath s.lamp) (hc : CurveRises s.lamp.curve) (old : Occupancy) :
    (lampSeesOccupancy old s).light.Ok := by
  rw [lampSeesOccupancy_eq]
  refine dutyAtOnce_lightOk ⟨hp.1, hp.2, fun hg ho => ?_, hc⟩
  have hg : s.lamp.guarded = true := by
    have : s.lamp.guardOn = true := hg
    simp [Lamp.guarded, this]
  have ho : s.changer.occupancy ≠ .slide := ho
  show (Lamp.gateChanged old s.changer.occupancy s.lamp).guard = 0 ∧
    (Lamp.gateChanged old s.changer.occupancy s.lamp).recovery = none
  simp [Lamp.gateChanged, hg, ho]

/-- R20: the gate record follows its sensors, and the lamp a change of occupancy. -/
theorem refreshGate_lightOk {s : State} (h : s.light.Ok) : (refreshGate s).light.Ok := by
  by_cases ho : occupancyOf s.armNow s.pins.barrier = s.changer.occupancy
  · have hl : (refreshGate s).light = s.light := by
      rw [refreshGate_stays ho]
      simp [State.light, ho]
    rw [hl]
    exact h
  · unfold refreshGate
    dsimp only
    rw [if_neg (by exact ho)]
    obtain ⟨⟨hp, hs, -, hc⟩, -, -⟩ := h
    have hc : CurveRises s.lamp.curve := hc
    exact lampSeesOccupancy_lightOk (s := s.onChanger _) ⟨hp, hs⟩ hc _

end Sys2Proof.Machine

namespace Sys2Proof.Machine

/-! ### The heat and power unit and the light -/

section
variable (s : State)
@[simp] theorem setFan_light (step : Fin 5) : (setFan step s).light = s.light := by unfold setFan; split <;> rfl
@[simp] theorem publishLimit_light (n : Nat) : (publishLimit n s).light = s.light := rfl
@[simp] theorem beginRise_light : (beginRise s).light = s.light := rfl
@[simp] theorem reportPower_light : (reportPower s).light = s.light := rfl
@[simp] theorem relight_light : (relight s).light = s.light := by unfold relight; split <;> rfl
@[simp] theorem judgeTach_light : (judgeTach s).light = s.light := by
  unfold judgeTach; dsimp only; split
  · rfl
  · split <;> split <;> simp
@[simp] theorem sampleSensor_light (reading : Int) : (sampleSensor reading s).light = s.light := by
  unfold sampleSensor; dsimp only; split
  · simp
  · split <;> simp
@[simp] theorem updateEstimate_light : (updateEstimate s).light = s.light := rfl
@[simp] theorem judgeWarn_light : (judgeWarn s).light = s.light := by
  unfold judgeWarn; dsimp only; split
  · simp
  · split <;> simp
@[simp] theorem tellTrip_light : (tellTrip s).light = s.light := by simp [tellTrip]
@[simp] theorem updateFan_light : (updateFan s).light = s.light := by simp [updateFan]
@[simp] theorem publishCaps_light : (publishCaps s).light = s.light := rfl
@[simp] theorem countTach_light : (countTach s).light = s.light := rfl
@[simp] theorem retellHeat_light : (retellHeat s).light = s.light := by
  unfold retellHeat; dsimp only; split <;> split <;> split <;> simp
end

section
variable {s : State}

/-- R59, R92: the power state changes before the duty is computed. -/
theorem enterPower_lightOk (h : s.light.Ready) (new : PowerState) : (enterPower new s).light.Ok := by
  unfold enterPower
  dsimp only
  refine dutyAtOnce_lightOk ?_
  rw [setFan_light]
  split <;> exact h

theorem enterCooldown_lightOk (h : s.light.Ok) : (enterCooldown s).light.Ok := by
  rw [enterCooldown, reportPower_light]
  exact enterPower_lightOk (by simpa using h.1) _

theorem heatTripCleared_lightOk (h : s.light.Ok) : (heatTripCleared s).light.Ok := by
  unfold heatTripCleared
  split
  · exact enterCooldown_lightOk (by simpa using h)
  · exact h

theorem stepRise_lightOk (h : s.light.Ok) : (stepRise s).light.Ok := by
  unfold stepRise
  split
  · exact h
  · dsimp only
    split
    · split
      · rw [reportPower_light]
        exact enterPower_lightOk (by simpa using h.1) _
      · simpa using h
    · simpa using h

theorem judgeTrip_lightOk (h : s.light.Ok) : (judgeTrip s).light.Ok := by
  unfold judgeTrip
  dsimp only
  split
  · rw [tellTrip_light, reportPower_light, State.report_light]
    have ht := enterPower_lightOk h.1 .tripped
    simpa using ht
  · exact h

theorem judgeAfterRun_lightOk (h : s.light.Ok) : (judgeAfterRun s).light.Ok := by
  unfold judgeAfterRun
  split
  · dsimp only
    split
    · rw [reportPower_light]
      exact enterPower_lightOk (by simpa using h.1) _
    · simpa using h
  · exact h

theorem retryTrip_lightOk (h : s.light.Ok) : (retryTrip s).light.Ok := by
  unfold retryTrip
  dsimp only
  rw [tellTripRetried_light]
  split
  · rw [reportPower_light]
    exact enterPower_lightOk h.1 _
  · exact enterCooldown_lightOk h

theorem judgeRecovery_lightOk (h : s.light.Ok) : (judgeRecovery s).light.Ok := by
  unfold judgeRecovery
  split
  · exact h
  · dsimp only
    generalize hu : ite (s.heat.effective < s.heat.set.tripAt - 150) _ _ = u
    have ho : u.light.Ok := by
      rw [← hu]
      split <;> split <;> simpa using h
    split
    · split
      · exact retryTrip_lightOk ho
      · exact ho
    · exact ho

theorem runPeriod_lightOk (h : s.light.Ok) (reading : Int) : (runPeriod reading s).light.Ok := by
  unfold runPeriod
  dsimp only
  rw [publishCaps_light, updateFan_light]
  refine judgeRecovery_lightOk (judgeAfterRun_lightOk (judgeTrip_lightOk ?_))
  simpa using h

theorem doPowerOn_lightOk (h : s.light.Ok) : (doPowerOn s).1.light.Ok := by
  unfold doPowerOn
  dsimp only
  split
  iterate 2
    · split
      · exact h
      · rw [accept_fst, reportPower_light]
        exact enterPower_lightOk (by simpa using h.1) _
  iterate 2 simpa using h
  · split <;> simpa using h

theorem doPowerOff_lightOk (h : s.light.Ok) : (doPowerOff s).1.light.Ok := by
  have hr : (s.onHeat fun h => { h with request := false }).light.Ok := by simpa using h
  unfold doPowerOff
  dsimp only
  rw [accept_fst]
  split
  iterate 2 exact enterCooldown_lightOk hr
  all_goals exact hr

/-- R99: at a soft reset the power state changes while the duty is 0 already. -/
theorem softResetHeat_lightOk (h : ∀ power, Light.Ok { s.light with power := power }) : (softResetHeat s).light.Ok := by
  have reported (c : Prop) [Decidable c] (u : State) : (if c then u else reportPower u).light = u.light := by
    split <;> rfl
  unfold softResetHeat
  dsimp only
  rw [publishCaps_light, reported, setFan_light, publishLimit_light]
  exact h _
end

/-! ### The lamp controller and the light -/

section
variable (s : State)
@[simp] theorem rampCompletes_light : (rampCompletes s).light = s.light := rfl
@[simp] theorem rampRequest_light (level duration : Nat) (origin : RampOrigin) :
    (rampRequest level duration origin s).light = s.light := by
  unfold rampRequest; dsimp only; split <;> rfl
@[simp] theorem toggleLamp_light : (toggleLamp s).light = s.light := by simp [toggleLamp]
@[simp] theorem advanceRamp_light : (advanceRamp s).light = s.light := by
  unfold advanceRamp; dsimp only; split
  · rfl
  · split <;> rfl
@[simp] theorem dwellSeesCompletion_light (occ : Occupancy) : (dwellSeesCompletion occ s).light = s.light := by
  unfold dwellSeesCompletion; dsimp only; split
  · split <;> rfl
  · rfl
@[simp] theorem lampSupplyGood_light : (lampSupplyGood s).light = s.light := by
  have hv (l : Lamp) : Lamp.view { l with shift := l.shift.map fun sh => { sh with driven := true, drive := 0 } } = l.view := by
    simp [Lamp.view]
  rw [lampSupplyGood, relight_light, State.onLamp_light _ hv]
@[simp] theorem doLamp_light (level : Int) (fade : Option Int) : (doLamp level fade s).1.light = s.light := by
  unfold doLamp; split <;> simp
@[simp] theorem doCurveRead_light (i : Int) : (doCurveRead i s).1.light = s.light := by unfold doCurveRead; split <;> rfl
end

/-- R63: burn time leaves the view of the lamp. -/
theorem Lamp.advanceBurn_view (l : Lamp) : l.advanceBurn.view = l.view := by
  have hb (r : LampRecord) : r.burnOn.state = r.state := by unfold LampRecord.burnOn; split <;> rfl
  unfold Lamp.advanceBurn
  split
  next pos _ =>
    split
    · cases pos <;> simp [Lamp.changeRecord, Lamp.view, hb]
    · rfl
  · rfl

section
variable {s : State}

/-- R56: the guard at an update. -/
theorem advanceGuard_ready (h : s.light.Ready) : (s.onLamp fun l => l.advanceGuard.adopt).light.Ready := by
  obtain ⟨hp, hs, hg, hc⟩ := h
  have same (l : Lamp) : l.advanceGuard.adopt =
      { l.adopt with guard := l.advanceGuard.guard, recovery := l.advanceGuard.recovery } := by
    unfold Lamp.advanceGuard
    split
    · rfl
    · split
      · rfl
      · dsimp only; split <;> rfl
  show Light.Ready { s.light with lamp := Lamp.view (s.lamp.advanceGuard.adopt) }
  rw [same]
  refine ⟨hp, hs, fun h1 h2 => ?_, hc⟩
  obtain ⟨hguard, hrec⟩ : s.lamp.guard = 0 ∧ s.lamp.recovery = none := hg h1 h2
  have hon : s.lamp.guardOn = true := h1
  have hl : s.lamp.advanceGuard = s.lamp := by simp [Lamp.advanceGuard, hon, hrec]
  show s.lamp.advanceGuard.guard = 0 ∧ s.lamp.advanceGuard.recovery = none
  rw [hl]
  exact ⟨hguard, hrec⟩

theorem advanceDwell_lightOk (h : s.light.Ok) : (advanceDwell s).light.Ok := by
  unfold advanceDwell
  dsimp only
  split
  · split
    · exact recomputeAtUpdate_lightOk (by simpa using h.1)
    · simpa using h
  · split
    · exact recomputeAtUpdate_lightOk (by simpa using h.1)
    · exact h

theorem runUpdate_lightOk (h : s.light.Ok) : (runUpdate s).light.Ok := by
  unfold runUpdate
  dsimp only
  rw [State.onLamp_light _ Lamp.advanceBurn_view]
  refine advanceDwell_lightOk (recomputeAtUpdate_lightOk (advanceGuard_ready ?_))
  rw [advanceRamp_light]
  exact h.1

/-- R56: a guard that is restored where no recovery runs. -/
theorem guard_restored_light (s : State) :
    (s.onLamp fun l => if l.recovery.isNone then { l with guard := 1000 } else l).light =
      { s.light with lamp := { s.light.lamp with guard := if s.lamp.recovery.isNone then 1000 else s.lamp.guard } } := by
  simp only [State.light, State.onLamp_lamp]
  split <;> rfl

/-- R56, R70: GUARD comes into force before the level is computed. -/
theorem setGuard_lightOk (h : s.light.Ok) (on : Bool) : (setGuard on s).light.Ok := by
  obtain ⟨⟨hp, hs, hg, hc⟩, hd, hl⟩ := h
  cases on with
  | false =>
    exact ⟨⟨hp, hs, fun h1 => absurd h1 Bool.false_ne_true, hc⟩, hd, fun h1 => absurd h1 Bool.false_ne_true⟩
  | true =>
    unfold setGuard
    dsimp only
    rw [if_neg (by simp)]
    split
    next ho =>
      have ho : s.changer.occupancy = .slide := ho
      rw [guard_restored_light]
      exact ⟨⟨hp, hs, fun _ h2 => absurd ho h2, hc⟩, hd, fun _ h2 => absurd ho h2⟩
    next => exact dutyAtOnce_lightOk ⟨hp, hs, fun _ _ => ⟨rfl, rfl⟩, hc⟩

/-! #### The records of the lamp module -/

/-- R62: a record made ACTIVE: nothing else that decides over the light changes. -/
theorem makeActive_light (pos : LampPos) (s : State) :
    (makeActive pos s).light = (s.onLamp (Lamp.changeRecord pos fun r => { r with state := .active })).light := by
  simp [makeActive]

/-- R59: a lamp that becomes ACTIVE makes nothing darker. -/
theorem Light.dark_of_primary (g : Light) (h : Light.dark { g with lamp := { g.lamp with primary := .active } } = true) :
    g.dark = true := by
  simp [Light.dark] at h ⊢
  exact h.imp_left .inl

theorem Light.dark_of_spare (g : Light) (h : Light.dark { g with lamp := { g.lamp with spare := .active } } = true) :
    g.dark = true := by
  simp [Light.dark] at h ⊢
  exact h.imp_left .inl

/-- R62: a lamp becomes ACTIVE only in the path, and the lamp is no darker for it. -/
theorem makeActive_lightOk {pos : LampPos} (h : s.light.Ok) (hpath : s.lamp.path = some pos) : (makeActive pos s).light.Ok := by
  rw [makeActive_light]
  obtain ⟨⟨hp, hs, hg, hc⟩, hd, hl⟩ := h
  cases pos with
  | primary => exact ⟨⟨fun _ => hpath, hs, hg, hc⟩, fun h1 => hd (Light.dark_of_primary _ h1), hl⟩
  | spare => exact ⟨⟨hp, fun _ => hpath, hg, hc⟩, fun h1 => hd (Light.dark_of_spare _ h1), hl⟩

theorem takePath_lightOk (h : s.light.Ok) : (takePath s).light.Ok := by
  unfold takePath
  split
  next pos hp =>
    split
    · exact makeActive_lightOk h hp
    · exact h
  · exact h
end
end Sys2Proof.Machine

namespace Sys2Proof.Machine

/-! #### The path, shifts and failures -/

section
variable {s : State}

/-- R66: the short check leaves the records and the path. -/
theorem checkShort_records (s : State) :
    (checkShort s).lamp.primary = s.lamp.primary ∧ (checkShort s).lamp.spare = s.lamp.spare ∧
      (checkShort s).lamp.path = s.lamp.path ∧ (checkShort s).lamp.shift = s.lamp.shift := by
  unfold checkShort
  split
  · dsimp only
    rw [State.report_lamp, tellPresent_frame]
    exact ⟨rfl, rfl, rfl, rfl⟩
  · exact ⟨rfl, rfl, rfl, rfl⟩

/-- R59: the duty computed at once leaves the records, the path and the shift. -/
theorem dutyAtOnce_records (s : State) :
    (dutyAtOnce s).lamp.primary = s.lamp.primary ∧ (dutyAtOnce s).lamp.spare = s.lamp.spare ∧
      (dutyAtOnce s).lamp.path = s.lamp.path ∧ (dutyAtOnce s).lamp.shift = s.lamp.shift := by
  unfold dutyAtOnce checkLampCurrent
  rw [checkOpen_frame]
  exact checkShort_records _

/-- R62: a record made another than ACTIVE leaves the lamp ready for its duty to be computed. -/
theorem changeRecord_ready (h : s.light.Ready) (pos : LampPos) {f : LampRecord → LampRecord}
    (hf : ∀ r, (f r).state ≠ .active) : (s.onLamp (Lamp.changeRecord pos f)).light.Ready := by
  obtain ⟨hp, hs, hg, hc⟩ := h
  cases pos with
  | primary => exact ⟨fun h1 => absurd h1 (hf _), hs, hg, hc⟩
  | spare => exact ⟨hp, fun h1 => absurd h1 (hf _), hg, hc⟩

/-- R62: after the release no record at the path is ACTIVE, and the rest is as it was. -/
theorem Lamp.releasePath_record (l : Lamp) :
    l.releasePath = l ∨ ∃ pos, l.path = some pos ∧ (l.record pos).state = .active ∧
      l.releasePath = l.changeRecord pos fun r => { r with state := .good } := by
  unfold Lamp.releasePath
  split
  next pos hp =>
    split
    next ha => exact .inr ⟨pos, hp, ha, rfl⟩
    next => exact .inl rfl
  next => exact .inl rfl

theorem releasePath_ready (h : s.light.Ready) : (s.onLamp Lamp.releasePath).light.Ready := by
  rcases s.lamp.releasePath_record with heq | ⟨pos, -, -, heq⟩
  · have : (s.onLamp Lamp.releasePath).light = s.light := by simp [State.light, heq]
    rw [this]; exact h
  · have hl : (s.onLamp Lamp.releasePath).light =
        (s.onLamp (Lamp.changeRecord pos fun r => { r with state := .good })).light := by simp [State.light, heq]
    rw [hl]
    exact changeRecord_ready h pos (by simp)

theorem startShift_lightOk (h : s.light.Ready) (target : LampPos) : (startShift target s).light.Ok := by
  unfold startShift
  dsimp only
  rw [State.report_light]
  exact dutyAtOnce_lightOk (s := s.onLamp _) (releasePath_ready h)

theorem lampFails_lightOk (h : s.light.Ok) : (lampFails s).light.Ok := by
  unfold lampFails
  split
  · exact h
  · have h0 : (s.onLamp fun l => { l with openTimer := none }).light.Ok := by simpa using h
    dsimp only
    generalize s.onLamp _ = u at h0 ⊢
    split
    · exact h0
    next pos _ =>
      have hd : (dutyAtOnce ((u.onLamp (Lamp.changeRecord pos fun r => { r with state := .failed })).report .lamp
          [fw "FAILED", fw pos.word])).light.Ok :=
        dutyAtOnce_lightOk (by rw [State.report_light]; exact changeRecord_ready h0.1 pos (by simp))
      split
      · exact startShift_lightOk hd.1 _
      · simpa using hd

/-- The lamp is out: no record is ACTIVE, and the duty is 0. -/
def Light.Out (g : Light) : Prop := g.Ok ∧ g.lamp.primary ≠ .active ∧ g.lamp.spare ≠ .active

theorem Light.Out.duty {g : Light} (h : g.Out) : g.lamp.duty = 0 :=
  h.1.2.1 (by simp [Light.dark, h.2.1, h.2.2])

/-- R62: once the path is left, no record is ACTIVE. -/
theorem leavePath_out (h : s.light.Ok) : (leavePath s).light.Out := by
  obtain ⟨hp, hs, -, -⟩ := h.1
  have hp : s.lamp.primary.state = .active → s.lamp.path = some .primary := hp
  have hs : s.lamp.spare.state = .active → s.lamp.path = some .spare := hs
  unfold leavePath
  split
  next pos hpath =>
    rw [hpath] at hp hs
    split
    next ha =>
      have hr : s.lamp.releasePath = s.lamp.changeRecord pos fun r => { r with state := .good } := by
        simp [Lamp.releasePath, hpath, ha]
      refine ⟨dutyAtOnce_lightOk (releasePath_ready h.1), ?_⟩
      obtain ⟨h1, h2, -⟩ := dutyAtOnce_records (s.onLamp Lamp.releasePath)
      show (dutyAtOnce _).lamp.primary.state ≠ _ ∧ (dutyAtOnce _).lamp.spare.state ≠ _
      rw [h1, h2, State.onLamp_lamp, hr]
      cases pos <;> simp_all [Lamp.changeRecord]
    next ha =>
      refine ⟨h, fun h1 => ?_, fun h1 => ?_⟩
      · have : pos = .primary := by simpa using hp h1
        subst this; exact ha h1
      · have : pos = .spare := by simpa using hs h1
        subst this; exact ha h1
  next hpath =>
    exact ⟨h, fun h1 => absurd (hp h1) (by simp [hpath]), fun h1 => absurd (hs h1) (by simp [hpath])⟩

/-- R62, R67: where the lamp is out, the path and the shift may change. -/
theorem Light.Out.with_path {g : Light} (h : g.Out) (path : Option LampPos) (shifting : Bool) :
    Light.Ok { g with lamp := { g.lamp with path := path, shifting := shifting } } :=
  ⟨⟨fun h1 => absurd h1 h.2.1, fun h1 => absurd h1 h.2.2, h.1.1.2.2⟩, fun _ => h.duty, h.1.2.2⟩

theorem switchMoves_lightOk (h : s.light.Ok) (position : Option LampPos) : (switchMoves position s).light.Ok := by
  unfold switchMoves
  dsimp only
  split
  · exact h
  · have ho := leavePath_out (s := s.onPins fun p => { p with shiftSwitch := position }) h
    generalize leavePath _ = u at ho ⊢
    split
    · rw [State.report_light]
      exact takePath_lightOk (ho.with_path position _)
    · split
      · rw [State.report_light]
        exact takePath_lightOk (ho.with_path position false)
      · exact ho.with_path position _

/-- R62: the taking of the path leaves the duty. -/
theorem takePath_duty (s : State) : (takePath s).light.lamp.duty = s.light.lamp.duty := by
  unfold takePath
  split
  next pos _ =>
    split
    · rw [makeActive_light]; cases pos <;> rfl
    · rfl
  · rfl

/-- R59, R68: a shift that fails keeps the duty that it had, which is 0. -/
theorem shiftFails_lightOk (h : s.light.Ok) : (shiftFails s).light.Ok := by
  have gone (u : State) : (if u.lamp.activePos.isSome then tellGone .shiftFail u else u).light = u.light := by
    split <;> simp
  unfold shiftFails
  split
  · exact h
  next sh hsh =>
    split
    · exact h
    · have hd : s.light.lamp.duty = 0 := h.2.1 (by simp [Light.dark, State.light, hsh])
      have h0 : (s.onLamp fun l => { l with shift := none }).light.Ok := ⟨h.1, fun _ => hd, h.2.2⟩
      have h1 := takePath_lightOk h0
      have h2 := (takePath_duty (s.onLamp fun l => { l with shift := none })).trans hd
      dsimp only
      rw [gone]
      simp only [State.report_light, tellPresent_light]
      exact ⟨h1.1, fun _ => h2, h1.2.2⟩

theorem currentMoves_lightOk (h : s.light.Ok) (current : LampCurrent) : (currentMoves current s).light.Ok := by
  unfold currentMoves
  dsimp only
  refine checkLampCurrent_lightOk ?_
  split <;> simpa using h

/-- R69: at the raise of SUPPLY_LOW the lamp is dark already; its duty follows. -/
theorem lampSupplyLow_lightOk (h : s.light.Ready) : (lampSupplyLow s).light.Ok := dutyAtOnce_lightOk (s := s.onLamp _) h

/-- R66: a hold that ends makes nothing darker. -/
theorem lampShortCleared_lightOk (h : s.light.Ok) : (lampShortCleared s).light.Ok := by
  unfold lampShortCleared
  split
  next hh =>
    have hd : s.light.lamp.duty = 0 := h.2.1 (by simp [Light.dark, State.light, hh])
    rw [relight_light]
    exact ⟨h.1, fun _ => hd, h.2.2⟩
  next => exact h

theorem lampShiftCleared_lightOk (h : s.light.Ok) : (lampShiftCleared s).light.Ok := by
  unfold lampShiftCleared
  split
  next hh =>
    have hd : s.light.lamp.duty = 0 := h.2.1 (by simp [Light.dark, State.light, hh])
    rw [relight_light]
    exact ⟨h.1, fun _ => hd, h.2.2⟩
  next => exact h

/-! #### Requests of the lamp -/

theorem curveRises_iff (p : Vector Nat 11) :
    CurveRises p ↔ (∀ i (h : i < 10), p[i] ≤ p[i + 1]) ∧ p[10] ≤ 4095 := by
  constructor
  · rintro ⟨h0, h1, h2, h3, h4, h5, h6, h7, h8, h9, ht⟩
    refine ⟨fun i hi => ?_, ht⟩
    interval_cases i <;> assumption
  · rintro ⟨h, ht⟩
    exact ⟨h 0 (by decide), h 1 (by decide), h 2 (by decide), h 3 (by decide), h 4 (by decide), h 5 (by decide),
      h 6 (by decide), h 7 (by decide), h 8 (by decide), h 9 (by decide), ht⟩

/-- R74: the order that a load must keep, point by point. -/
theorem curveOrder_iff (p : Vector Nat 11) (i : Fin 11) (duty : Nat) :
    curveOrder p i duty = true ↔
      (∀ j : Fin 11, j.val + 1 = i.val → p[j] ≤ duty) ∧ (∀ j : Fin 11, j.val = i.val + 1 → duty ≤ p[j]) := by
  obtain ⟨i, hi⟩ := i
  unfold curveOrder
  rw [Bool.and_eq_true]
  refine and_congr ⟨fun h j hj => ?_, fun h => ?_⟩ ⟨fun h j hj => ?_, fun h => ?_⟩
  · obtain ⟨j, hjl⟩ := j
    obtain rfl : i = j + 1 := hj.symm
    simpa using h
  · split
    next h0 =>
      have h0 : 0 < i := h0
      exact decide_eq_true (h ⟨i - 1, by omega⟩ (Nat.sub_add_cancel h0))
    next => rfl
  · obtain ⟨j, hjl⟩ := j
    obtain rfl : j = i + 1 := hj
    simp only [dif_pos (show i < 10 by omega)] at h
    exact of_decide_eq_true h
  · split
    next h0 =>
      have h0 : i < 10 := h0
      exact decide_eq_true (h ⟨i + 1, by omega⟩ rfl)
    next => rfl

/-- R74: a load that keeps the order keeps the curve rising. -/
theorem curveRises_set {p : Vector Nat 11} (h : CurveRises p) {i : Fin 11} {duty : Nat} (hd : duty ≤ 4095)
    (ho : curveOrder p i duty = true) : CurveRises (p.set i duty) := by
  obtain ⟨hlow, hhigh⟩ := (curveOrder_iff p i duty).1 ho
  obtain ⟨hrise, htop⟩ := (curveRises_iff p).1 h
  refine (curveRises_iff _).2 ⟨fun j hj => ?_, ?_⟩
  · rw [Vector.getElem_set, Vector.getElem_set]
    split
    next h1 =>
      rw [if_neg (by omega)]
      exact hhigh ⟨j + 1, by omega⟩ (by simp [← h1])
    next =>
      split
      next h2 => exact hlow ⟨j, by omega⟩ h2.symm
      next => exact hrise j hj
  · rw [Vector.getElem_set]
    split
    · exact hd
    · exact htop

theorem doCurveLoad_lightOk (h : s.light.Ok) (i duty : Int) : (doCurveLoad i duty s).1.light.Ok := by
  unfold doCurveLoad
  split
  · exact h
  next p _ =>
    split
    · exact h
    next hr =>
      split
      · exact h
      next ho =>
        rw [accept_fst]
        obtain ⟨hp, hs, hg, hc⟩ := h.1
        have hd : duty.toNat ≤ 4095 := by
          simp [outside] at hr
          omega
        exact dutyAtOnce_lightOk (s := s.onLamp _) ⟨hp, hs, hg, curveRises_set (p := s.lamp.curve) hc hd (by simpa using ho)⟩

theorem doLampmodShift_lightOk (h : s.light.Ok) : (doLampmodShift s).1.light.Ok := by
  unfold doLampmodShift
  split
  · exact h
  · split
    · exact h
    · split
      · exact h
      · split
        · exact startShift_lightOk h.1 _
        · exact h

/-- R76: a new lamp outside the path takes the place of one that was not ACTIVE. -/
theorem replaced_outside_lightOk (h : s.light.Ok) {pos : LampPos} (hp : s.lamp.path ≠ some pos) {f : LampRecord → LampRecord}
    (hf : ∀ r, (f r).state ≠ .active) : (s.onLamp (Lamp.changeRecord pos f)).light.Ok := by
  have hp : s.light.lamp.path ≠ some pos := hp
  obtain ⟨h1, h2, -⟩ := h.1
  have hready := changeRecord_ready h.1 pos hf
  obtain ⟨-, hdark, hlevel⟩ := h
  cases pos with
  | primary =>
    refine ⟨hready, fun hd => hdark ?_, hlevel⟩
    have hn : s.lamp.primary.state ≠ .active := fun ha => hp (h1 ha)
    simpa [Light.dark, State.light, Lamp.changeRecord, hf, hn] using hd
  | spare =>
    refine ⟨hready, fun hd => hdark ?_, hlevel⟩
    have hn : s.lamp.spare.state ≠ .active := fun ha => hp (h2 ha)
    simpa [Light.dark, State.light, Lamp.changeRecord, hf, hn] using hd

end
end Sys2Proof.Machine

namespace Sys2Proof.Machine

section
variable {s : State}

/-- R62: a change of a record leaves the path. -/
@[simp] theorem Lamp.changeRecord_path (pos : LampPos) (f : LampRecord → LampRecord) (l : Lamp) :
    (l.changeRecord pos f).path = l.path := by cases pos <;> rfl

/-- R76: a new lamp is ACTIVE in the path alone, and no darker there than before. -/
theorem replaceLamp_lightOk (h : s.light.Ok) (pos : LampPos) : (replaceLamp pos s).light.Ok := by
  unfold replaceLamp
  dsimp only
  simp only [State.report_light, State.onLamp_lamp, Lamp.changeRecord_path]
  by_cases hp : s.lamp.path = some pos
  · simp only [hp, true_and, if_true]
    have ho : (s.onLamp (Lamp.changeRecord pos fun _ =>
        { state := .active, burn := 0, part := 0, replaced := true })).light.Ok := by
      have hm := makeActive_lightOk h hp
      rw [makeActive_light] at hm
      cases pos <;> exact hm
    split
    · exact makeActive_lightOk ho (by simpa using hp)
    · exact ho
  · simp only [hp, false_and, if_false]
    exact replaced_outside_lightOk h hp (by simp)

theorem doLampmodReplace_lightOk (h : s.light.Ok) (pos : LampPos) : (doLampmodReplace pos s).1.light.Ok := by
  unfold doLampmodReplace
  split
  · exact h
  · exact replaceLamp_lightOk h pos

/-- R62: a record that is not ACTIVE may become another such record. -/
theorem inactive_changed_lightOk (h : s.light.Ok) {pos : LampPos} (hp : (s.lamp.record pos).state ≠ .active)
    {f : LampRecord → LampRecord} (hf : ∀ r, (f r).state ≠ .active) :
    (s.onLamp (Lamp.changeRecord pos f)).light.Ok := by
  have hready := changeRecord_ready h.1 pos hf
  obtain ⟨-, hdark, hlevel⟩ := h
  cases pos with
  | primary =>
    refine ⟨hready, fun hd => hdark ?_, hlevel⟩
    have hn : s.lamp.primary.state ≠ .active := hp
    simpa [Light.dark, State.light, Lamp.changeRecord, hf, hn] using hd
  | spare =>
    refine ⟨hready, fun hd => hdark ?_, hlevel⟩
    have hn : s.lamp.spare.state ≠ .active := hp
    simpa [Light.dark, State.light, Lamp.changeRecord, hf, hn] using hd

theorem doLampmodRemove_lightOk (h : s.light.Ok) (pos : LampPos) : (doLampmodRemove pos s).1.light.Ok := by
  unfold doLampmodRemove
  split
  · exact h
  next hg =>
    split
    · exact h
    · dsimp only
      rw [accept_fst, State.report_light]
      exact inactive_changed_lightOk h (by simp_all) (by simp)

/-! ### The changer and the light

The changer reaches the light by the occupancy alone, and every change of that by `refreshGate`. -/

@[simp] theorem stuckGone_light (s : State) : (stuckGone s).light = s.light := by unfold stuckGone; split <;> simp

theorem stopMotors_lightOk (h : s.light.Ok) : (stopMotors s).light.Ok := refreshGate_lightOk (by simpa using h)

theorem returnToLift_lightOk (h : s.light.Ok) : (returnToLift s).light.Ok := by
  simpa [returnToLift] using stopMotors_lightOk h

theorem startDrive_lightOk (h : s.light.Ok) : (startDrive s).1.light.Ok := by
  unfold startDrive
  split
  · simpa using h
  · split
    · exact returnToLift_lightOk h
    · split <;> simpa using h
  · split
    · simpa using h
    · exact refreshGate_lightOk (by simpa using h)

theorem enterJammed_lightOk (h : s.light.Ok) (kind : FaultKind) (phase : Phase) : (enterJammed kind phase s).light.Ok := by
  have hs := stopMotors_lightOk h
  unfold enterJammed
  dsimp only
  split <;> simpa using hs

@[simp] theorem completePhase_light (phase : Phase) (s : State) : (completePhase phase s).light = s.light := by
  unfold completePhase; split <;> simp

theorem slideStuck_lightOk (h : s.light.Ok) : (slideStuck s).light.Ok := enterJammed_lightOk (by simpa using h) _ _

@[simp] theorem inPhase_light (st : ChangerState) (s : State) : (inPhase st s).light = s.light := by simp [inPhase]

/-- R31: the report and the telling of a completed change leave the light. -/
@[simp] theorem changeCompletes_light (word : String) (s : State) : (changeCompletes word s).1.light = s.light := by
  unfold changeCompletes; dsimp only; split <;> simp

theorem liftEnds_lightOk (h : s.light.Ok) : (liftEnds s).1.light.Ok := by
  have hs : (if (stopMotors s).changer.state = .lifting then completePhase .lift (stopMotors s)
      else stopMotors s).light.Ok := by
    split <;> simpa using stopMotors_lightOk h
  unfold liftEnds
  dsimp only
  generalize (if (stopMotors s).changer.state = .lifting then _ else _) = u at hs ⊢
  split
  · exact slideStuck_lightOk hs
  · exact hs

theorem enterOnce_lightOk (h : s.light.Ok) (e : Entry) : (enterOnce e s).1.light.Ok := by
  have hs := stopMotors_lightOk h
  cases e with
  | change =>
    unfold enterOnce beginChange
    dsimp only
    split
    · simpa using h
    · split <;> simpa using h
  | lift =>
    unfold enterOnce beginLift
    dsimp only
    split
    · simpa using h
    · exact startDrive_lightOk (by simpa using h)
  | lifted => exact liftEnds_lightOk h
  | homing =>
    unfold enterOnce beginHoming
    dsimp only
    split
    · simpa using h
    · exact startDrive_lightOk (by simpa using h)
  | zeroFound => simpa [enterOnce, zeroFound] using hs
  | rotate =>
    unfold enterOnce beginRotate
    dsimp only
    split
    · simpa using h
    · exact startDrive_lightOk (by simpa using h)
  | rotated => simpa [enterOnce, rotateEnds] using hs
  | drop =>
    unfold enterOnce beginDrop
    dsimp only
    split
    · simpa using h
    · exact startDrive_lightOk (by simpa using h)
  | dropped => simpa [enterOnce, dropEnds] using hs
  | settle => simpa [enterOnce, beginSettle] using h
  | settled => simpa [enterOnce] using h
  | parked => simpa [enterOnce] using h

theorem enterAll_lightOk (fuel : Nat) (e : Entry) {s : State} (h : s.light.Ok) : (enterAll fuel e s).light.Ok := by
  induction fuel generalizing e s with
  | zero => exact h
  | succ fuel ih =>
    have hs := enterOnce_lightOk h e
    unfold enterAll
    split
    next t ht => rw [ht] at hs; exact hs
    next t e' ht => rw [ht] at hs; exact ih e' hs

theorem enter_lightOk (h : s.light.Ok) (e : Entry) : (enter e s).light.Ok := enterAll_lightOk 24 e h

theorem drive_lightOk (h : s.light.Ok) : (drive s).light.Ok := by
  have hs := startDrive_lightOk h
  unfold drive
  split
  next t ht => rw [ht] at hs; exact hs
  next t e ht => rw [ht] at hs; exact enter_lightOk hs e

/-! #### Jams, dead times and sensors -/

theorem jamEvent_lightOk (h : s.light.Ok) : (jamEvent s).light.Ok := by
  unfold jamEvent
  split
  · exact h
  next phase _ =>
    have ht : (tellPresent .jam (some (.phaseSlot phase (stopMotors s).changer.slot)) (stopMotors s)).light.Ok := by
      rw [tellPresent_light]; exact stopMotors_lightOk h
    dsimp only
    split
    · exact drive_lightOk (by simpa using ht)
    · exact enterJammed_lightOk ht _ _

theorem phaseRunsOut_lightOk (h : s.light.Ok) : (phaseRunsOut s).light.Ok := by
  unfold phaseRunsOut
  split
  · exact jamEvent_lightOk h
  · exact h

@[simp] theorem watchCurrent_light (s : State) : (watchCurrent s).light = s.light := rfl
@[simp] theorem motorCurrentMoves_light (high : Bool) (s : State) : (motorCurrentMoves high s).light = s.light := rfl
@[simp] theorem blankingEnds_light (s : State) : (blankingEnds s).light = s.light := by
  unfold blankingEnds; split <;> rfl

theorem deglitchEnds_lightOk (h : s.light.Ok) : (deglitchEnds s).light.Ok := by
  unfold deglitchEnds
  split
  · exact jamEvent_lightOk h
  · exact h

theorem backoffDriveEnds_lightOk (h : s.light.Ok) : (backoffDriveEnds s).light.Ok := by
  have hs := stopMotors_lightOk h
  unfold backoffDriveEnds
  split
  · simpa using hs
  · exact h

theorem retryStarts_lightOk (h : s.light.Ok) : (retryStarts s).light.Ok := by
  unfold retryStarts
  split
  iterate 3 exact enter_lightOk h _
  exact enter_lightOk (by simpa using h) _

theorem deadTimeEnds_lightOk (h : s.light.Ok) (motor : ChangerMotor) : (deadTimeEnds motor s).light.Ok := by
  have hc : (s.onChanger fun c => match motor with
      | .tray => { c with trayDead := none }
      | .gate => { c with gateDead := none }).light.Ok := by cases motor <;> simpa using h
  unfold deadTimeEnds
  split
  · exact h
  · dsimp only
    generalize s.onChanger _ = t at hc ⊢
    split
    · split
      · exact retryStarts_lightOk hc
      · exact hc
    · split
      · exact drive_lightOk hc
      · exact hc

theorem redirect_lightOk (h : s.light.Ok) : (redirect s).light.Ok := by
  unfold redirect
  dsimp only
  split
  · exact enter_lightOk h _
  · split
    · simpa using h
    · refine drive_lightOk ?_
      split
      · simpa using stopMotors_lightOk h
      · simpa using h

theorem homingPulse_lightOk (h : s.light.Ok) : (homingPulse s).light.Ok := by
  have hc : (s.onChanger fun c => { c with homingCount := c.homingCount + 1 }).light.Ok := by simpa using h
  unfold homingPulse
  dsimp only
  generalize s.onChanger _ = t at hc ⊢
  split
  · exact hc
  · split
    · exact enter_lightOk hc _
    · split
      · rw [tellGone_light]
        exact enterJammed_lightOk (by rw [tellPresent_light]; exact stopMotors_lightOk hc) _ _
      · simpa using hc

theorem rotationPulse_lightOk (h : s.light.Ok) : (rotationPulse s).light.Ok := by
  unfold rotationPulse
  split
  · exact h
  · split
    · exact enter_lightOk h _
    · simpa using h

theorem zeroCheck_lightOk (h : s.light.Ok) : (zeroCheck s).light.Ok := by
  unfold zeroCheck
  dsimp only
  split
  · split
    · exact redirect_lightOk (by simpa using h)
    · simpa using h
  · split
    · exact rotationPulse_lightOk (by simpa using h)
    · exact rotationPulse_lightOk h

theorem indexMoves_lightOk (h : s.light.Ok) (zero : Bool) : (indexMoves zero s).light.Ok := by
  have hz : (s.onPins fun p => { p with zeroSensor := zero }).light.Ok := h
  unfold indexMoves
  dsimp only
  split
  · exact hz
  · split
    · exact homingPulse_lightOk hz
    · split
      · exact hz
      · exact rotationPulse_lightOk (by simpa using hz)
      · exact zeroCheck_lightOk (by simpa using hz)

theorem armMoves_lightOk (h : s.light.Ok) (old : Arm) (top seat : Bool) : (armMoves old top seat s).light.Ok := by
  have back := enter_lightOk (returnToLift_lightOk h) .lift
  have stuck := slideStuck_lightOk h
  unfold armMoves
  dsimp only
  split
  · split
    · exact enter_lightOk h _
    · exact h
  · split
    · exact enter_lightOk h _
    · split
      · exact stuck
      · exact h
  · split
    · exact stuck
    · exact h
  iterate 2
    · split
      · exact back
      · split
        · exact stuck
        · exact h
  · split
    · exact back
    · split
      · exact stuck
      · split
        · exact backoffDriveEnds_lightOk h
        · exact h
  all_goals exact h

/-- R20: the gate record follows a pin of the changer. -/
theorem pinsFollowed_lightOk (h : s.light.Ok) (f : Pins → Pins) : (stuckGone (refreshGate (s.onPins f))).light.Ok := by
  rw [stuckGone_light]
  exact refreshGate_lightOk (s := s.onPins f) h

theorem topSwitchMoves_lightOk (h : s.light.Ok) (closed : Bool) : (topSwitchMoves closed s).light.Ok :=
  armMoves_lightOk (pinsFollowed_lightOk h _) _ _ _

theorem seatSwitchMoves_lightOk (h : s.light.Ok) (closed : Bool) : (seatSwitchMoves closed s).light.Ok :=
  armMoves_lightOk (pinsFollowed_lightOk h _) _ _ _

theorem barrierMoves_lightOk (h : s.light.Ok) (interrupted : Bool) : (barrierMoves interrupted s).light.Ok :=
  pinsFollowed_lightOk h _

theorem settleEnds_lightOk (h : s.light.Ok) : (settleEnds s).light.Ok := by
  unfold settleEnds
  split
  · exact enter_lightOk h _
  · exact h

/-! #### Requests, the tray, the supply and CLEAR -/

theorem takeRequest_lightOk (h : s.light.Ok) (t : Target) : (takeRequest t s).light.Ok := by
  have hin : (s.onChanger fun c => { c with inFlight := some t }).light.Ok := by simpa using h
  have hpend : (s.onChanger fun c => { c with pendingTarget := some t }).light.Ok := by simpa using h
  unfold takeRequest
  dsimp only
  split
  iterate 2
    · split
      · exact hin
      · exact enter_lightOk hin _
  iterate 2 exact hin
  · split
    · exact hpend
    · exact hin
  · split
    · exact hin
    · exact redirect_lightOk hin
  iterate 2 exact hpend
  iterate 3 exact h

theorem changerRequest_lightOk (h : s.light.Ok) (t : Target) : (changerRequest t s).1.light.Ok := by
  unfold changerRequest
  split
  · exact h
  · exact takeRequest_lightOk h t

@[simp] theorem handBack_light (t : Option Target) (s : State) : (handBack t s).light = s.light := by
  unfold handBack; split
  · split <;> simp
  · rfl

@[simp] theorem dropTargets_light (s : State) : (dropTargets s).light = s.light := by simp [dropTargets]

theorem enterHalted_lightOk (h : s.light.Ok) : (enterHalted s).light.Ok := by
  simpa [enterHalted] using stopMotors_lightOk h

theorem haltIfLow_lightOk (h : s.light.Ok) : (haltIfLow s).light.Ok := by
  unfold haltIfLow
  split
  · exact enterHalted_lightOk h
  · exact h

theorem changerSupplyLow_lightOk (h : s.light.Ok) : (changerSupplyLow s).light.Ok := by
  unfold changerSupplyLow
  split
  iterate 3 exact h
  all_goals exact enterHalted_lightOk h

theorem resumeHeld_lightOk (h : s.light.Ok) : (resumeHeld s).light.Ok := by
  unfold resumeHeld
  split
  iterate 2 exact enter_lightOk h _
  iterate 2 exact enter_lightOk (by simpa using h) _
  · simpa using h
  · exact drive_lightOk (by simpa using h)
  iterate 2
    · split
      · exact enter_lightOk h _
      · exact h
  all_goals exact h

theorem changerSupplyGood_lightOk (h : s.light.Ok) : (changerSupplyGood s).light.Ok := by
  unfold changerSupplyGood
  split
  · exact resumeHeld_lightOk (by simpa using h)
  · exact h

theorem changerCleared_lightOk (h : s.light.Ok) (kind : FaultKind) : (changerCleared kind s).light.Ok := by
  unfold changerCleared
  split
  · split
    · exact h
    · exact haltIfLow_lightOk (by simpa using h)
  · exact h

theorem trayRemoved_lightOk (h : s.light.Ok) : (trayRemoved s).light.Ok := by
  have told (c : Prop) [Decidable c] (d : Option FaultDetail) (u : State) :
      (if c then tellPresent .trayOut d u else u).light = u.light := by split <;> simp
  unfold trayRemoved
  dsimp only
  split
  · exact h
  · rw [told]
    generalize hu : State.report _ _ (State.onChanger _ (State.onPins _ s)) = u
    have ho : u.light.Ok := by rw [← hu]; simpa using h
    have hs := stopMotors_lightOk ho
    split
    iterate 6 simpa using hs
    iterate 3 simpa using ho
    iterate 2 exact ho

theorem trayInserted_lightOk (h : s.light.Ok) (zero : Bool) : (trayInserted zero s).light.Ok := by
  unfold trayInserted
  dsimp only
  split
  · exact h
  · split
    · exact haltIfLow_lightOk (by simpa using h)
    all_goals simpa using h

/-- R21: a tray set comes with no change of the gate. -/
@[simp] theorem setTraySize_light (n : Nat) (s : State) : (setTraySize n s).light = s.light := by
  unfold setTraySize
  rw [State.onChanger_light _ fun c => by split <;> rfl]
end
end Sys2Proof.Machine

namespace Sys2Proof.Machine

/-! ### The transport controller -/

section
variable (s : State)
@[simp] theorem moveTape_light (new : TapeState) (hold : Bool) : (moveTape new hold s).light = s.light := by
  rw [moveTape_frame]; rfl
@[simp] theorem moveTapeTold_light (new : TapeState) (hold : Bool) : (moveTapeTold new hold s).light = s.light := by
  rw [moveTapeTold_frame]; rfl
@[simp] theorem enterDriven_light (st : TapeState) : (enterDriven st s).light = s.light := by unfold enterDriven; split <;> simp
@[simp] theorem startTape_light (st : TapeState) : (startTape st s).light = s.light := by
  unfold startTape; split <;> (try split) <;> simp
@[simp] theorem endLocate_light (outcome : LocateOutcome) : (endLocate outcome s).light = s.light := by
  unfold endLocate; split
  · rfl
  · dsimp only; split <;> simp
@[simp] theorem arrive_light (l : Locate) : (arrive l s).light = s.light := by
  unfold arrive; dsimp only; split <;> simp
@[simp] theorem approach_light (l : Locate) : (approach l s).light = s.light := by
  unfold approach; dsimp only; split <;> simp
@[simp] theorem startLocate_light (target : Int) (play : Bool) (origin : LocateOrigin) :
    (startLocate target play origin s).light = s.light := by
  unfold startLocate; dsimp only; split
  · simp
  · split <;> simp
@[simp] theorem locateRequest_light (target : Int) (play : Bool) (origin : LocateOrigin) :
    (locateRequest target play origin s).1.light = s.light := by
  unfold locateRequest; dsimp only; split <;> simp
@[simp] theorem stopTape_light (new : TapeState) : (stopTape new s).light = s.light := by simp [stopTape]
@[simp] theorem startCommand_light (st : TapeState) : (startCommand st s).light = s.light := by
  unfold startCommand; dsimp only; split <;> simp
@[simp] theorem runTapeCommand_light (c : TapeCommand) : (runTapeCommand c s).light = s.light := by
  cases c <;> simp [runTapeCommand]
@[simp] theorem tapeCommand_light (c : TapeCommand) : (tapeCommand c s).1.light = s.light := by
  unfold tapeCommand; split <;> simp
@[simp] theorem tapeSeesRunning_light : (tapeSeesRunning s).light = s.light := by
  unfold tapeSeesRunning; dsimp only; split <;> simp
@[simp] theorem restReached_light : (restReached s).light = s.light := by
  unfold restReached; split
  · rfl
  · dsimp only; split
    · simp
    · split <;> simp
    · rfl
@[simp] theorem reelPulse_light : (reelPulse s).light = s.light := by
  unfold reelPulse; split
  · rfl
  · dsimp only; split <;> (try split) <;> simp
@[simp] theorem tapeEnds_light : (tapeEnds s).light = s.light := by unfold tapeEnds; split <;> simp
@[simp] theorem tapeRemoved_light : (tapeRemoved s).light = s.light := by
  unfold tapeRemoved; dsimp only; split <;> simp
@[simp] theorem tapeInserted_light : (tapeInserted s).light = s.light := by
  unfold tapeInserted; dsimp only; split <;> simp
@[simp] theorem holdTape_light : (holdTape s).light = s.light := by unfold holdTape; split <;> simp
@[simp] theorem reasonGone_light : (reasonGone s).light = s.light := by unfold reasonGone; split <;> simp
@[simp] theorem queueHolds_light : (queueHolds s).light = s.light := by unfold queueHolds; split <;> simp
@[simp] theorem queueReleases_light : (queueReleases s).light = s.light := by unfold queueReleases; split <;> simp
@[simp] theorem volCompletes_light : (volCompletes s).light = s.light := by unfold volCompletes; dsimp only; split <;> simp
@[simp] theorem volRequest_light (target duration : Nat) (origin : VolOrigin) :
    (volRequest target duration origin s).light = s.light := by
  unfold volRequest; dsimp only; split <;> simp
@[simp] theorem advanceVol_light : (advanceVol s).light = s.light := by
  unfold advanceVol; dsimp only; split
  · rfl
  · split <;> simp
@[simp] theorem runVolumeUpdate_light : (runVolumeUpdate s).light = s.light := by simp [runVolumeUpdate]
@[simp] theorem setMute_light (on : Bool) : (setMute on s).light = s.light := by unfold setMute; split <;> simp
@[simp] theorem showHolds_light : (showHolds s).light = s.light := by simp [showHolds]
@[simp] theorem showReleases_light : (showReleases s).light = s.light := by unfold showReleases; dsimp only; split <;> simp
@[simp] theorem tapeSupplyLow_light : (tapeSupplyLow s).light = s.light := by
  unfold tapeSupplyLow; dsimp only; split <;> (try split) <;> simp
@[simp] theorem tapeSupplyGood_light : (tapeSupplyGood s).light = s.light := by unfold tapeSupplyGood; split <;> simp
/-- R118: a command of the line leaves the light. -/
@[simp] theorem doTape_light (c : TapeCommand) : (doTape c s).1.light = s.light := by
  have h := tapeCommand_light s c
  unfold doTape; split <;> simp_all
@[simp] theorem doLocate_light (count : Int) (play : Bool) : (doLocate count play s).1.light = s.light := by
  have h := locateRequest_light s count play .line
  unfold doLocate; split <;> simp_all
@[simp] theorem doZero_light : (doZero s).1.light = s.light := by unfold doZero; split <;> rfl
@[simp] theorem doVol_light (level : Int) (fade : Option Int) : (doVol level fade s).1.light = s.light := by
  unfold doVol; split <;> simp
@[simp] theorem doMute_light (on : Bool) : (doMute on s).1.light = s.light := by simp [doMute]
end

/-! ### The trigger queue -/

section
variable (s : State)
@[simp] theorem judge_light (source : Source) : (judge source s).1.light = s.light := by rw [judge_frame]; rfl
@[simp] theorem enterRecord_light (source : Source) (kind : TriggerKind) (detail : Option TriggerDetail) :
    (enterRecord source kind detail s).1.light = s.light := by
  rw [enterRecord_frame]; rfl
@[simp] theorem reviewHold_light : (reviewHold s).light = s.light := by
  unfold reviewHold; dsimp only; split
  · simp
  · split <;> simp
@[simp] theorem flushQueue_light : (flushQueue s).light = s.light := by unfold flushQueue; dsimp only; split <;> simp
@[simp] theorem queueSeesShow_light (new : ShowState) : (queueSeesShow new s).light = s.light := by
  unfold queueSeesShow; dsimp only; split <;> simp
@[simp] theorem enterFromLine_light (verb : String) (kind : TriggerKind) (first : List Field) :
    (enterFromLine verb kind first s).1.light = s.light := by simp [enterFromLine]
@[simp] theorem doTrigger_light (verb : String) (kind : TriggerKind) : (doTrigger verb kind s).1.light = s.light := by
  unfold doTrigger; split
  · rfl
  · split <;> simp
@[simp] theorem doJump_light (n : Int) : (doJump n s).1.light = s.light := by
  unfold doJump; split
  · rfl
  · split
    · rfl
    · split <;> simp
@[simp] theorem doPermitSet_light (source : Source) (mode : Mode) (value : Perm) :
    (doPermitSet source mode value s).1.light = s.light := by
  unfold doPermitSet; split <;> rfl
end

/-! ### The cue unit -/

section
variable (s : State)
@[simp] theorem startDetection_light : (startDetection s).light = s.light := rfl
@[simp] theorem countCrossing_light (d : Detector) : (countCrossing d s).light = s.light := rfl
@[simp] theorem logEntry_light (y : Symbol) (disposition : Option Disposition) : (logEntry y disposition s).light = s.light := by
  simp [logEntry]
@[simp] theorem cueStopsTape_light : (cueStopsTape s).1.light = s.light := tapeCommand_light s .stop
@[simp] theorem setClassifier_light (d : Detector) (k : Classifier) : (setClassifier d k s).light = s.light := rfl
@[simp] theorem settledHit_light (d : Detector) (r : RawResult) : (settledHit d r s).light = s.light := by
  unfold settledHit; dsimp only; split <;> (try split) <;> simp
@[simp] theorem reachInstant_light (time : Nat) : (reachInstant time s).light = s.light := rfl
@[simp] theorem windowEnds_light (d : Detector) : (windowEnds d s).light = s.light := by unfold windowEnds; split <;> simp
@[simp] theorem stopDetection_light : (stopDetection s).light = s.light := by simp [stopDetection, detectors]
@[simp] theorem writerStops_light (w : Writing) (n : Nat) : (writerStops w n s).light = s.light := rfl
@[simp] theorem abandonWrite_light : (abandonWrite s).light = s.light := by unfold abandonWrite; split <;> simp
@[simp] theorem writeCompletes_light : (writeCompletes s).light = s.light := by unfold writeCompletes; split <;> simp
@[simp] theorem startWrite_light (y : Symbol) : (startWrite y s).light = s.light := by simp [startWrite]
@[simp] theorem keyWrite_light (len : LengthClass) (action : CueAction) : (keyWrite len action s).1.light = s.light := by
  unfold keyWrite; dsimp only; split <;> simp
@[simp] theorem cueSeesTape_light (old new : TapeState) : (cueSeesTape old new s).light = s.light := by
  unfold cueSeesTape; dsimp only; split <;> split <;> split <;> simp
@[simp] theorem doTone_light (d : Int) (items : List ToneItem) : (doTone d items s).1.light = s.light := by
  unfold doTone; split
  · rfl
  · split <;> (try split) <;> simp
@[simp] theorem doCuemapSet_light (d : Int) (len : LengthClass) (action : CueAction) :
    (doCuemapSet d len action s).1.light = s.light := by
  unfold doCuemapSet; split <;> rfl
@[simp] theorem doCuemapRead_light (d : Int) (len : LengthClass) : (doCuemapRead d len s).1.light = s.light := by
  unfold doCuemapRead; split <;> rfl
@[simp] theorem doCuewrite_light (d : Int) (len : LengthClass) : (doCuewrite d len s).1.light = s.light := by
  unfold doCuewrite; split <;> (try split) <;> simp
@[simp] theorem doCuelog_light (n before : Option Int) : (doCuelog n before s).1.light = s.light := by
  unfold doCuelog; split <;> rfl
end


/-! ## The show engine -/

section
variable (s : State)
@[simp] theorem sendRamp_light (level duration : Nat) : (sendRamp level duration s).light = s.light := by simp [sendRamp]
@[simp] theorem sendFadeIn_light (x : Execution) : (sendFadeIn x s).light = s.light := by simp [sendFadeIn]
@[simp] theorem reportTape_light (n : Nat) (word : String) : (reportTape n word s).light = s.light := rfl
@[simp] theorem sendRestart_light (n : Nat) : (sendRestart n s).light = s.light := by
  have h := locateRequest_light (s.onExec fun x => { x with tape := .locating }) 0 true .show
  unfold sendRestart; split
  · simp_all
  · split <;> simp_all
@[simp] theorem sendTape_light (n : Nat) (c : TapeCommand) : (sendTape n c s).light = s.light := by
  have h := tapeCommand_light s c
  unfold sendTape; split <;> simp_all
@[simp] theorem sendSoundAndTape_light (n : Nat) (st : Step) : (sendSoundAndTape n st s).light = s.light := by
  unfold sendSoundAndTape; dsimp only; split <;> split <;> simp
@[simp] theorem trySettle_light : (trySettle s).light = s.light := by
  unfold trySettle; split
  · rfl
  · dsimp only; split <;> simp
@[simp] theorem setShow_light (new : ShowState) : (setShow new s).light = s.light := by simp [setShow]
@[simp] theorem reportHeld_light : (reportHeld s).light = s.light := rfl
@[simp] theorem becomeHeld_light : (becomeHeld s).light = s.light := by simp [becomeHeld]
@[simp] theorem sendOwed_light : (sendOwed s).light = s.light := by unfold sendOwed; split <;> (try split) <;> simp
@[simp] theorem changeIsDone_light (x : Execution) : (changeIsDone x s).light = s.light := by
  unfold changeIsDone; dsimp only; split <;> split <;> simp
@[simp] theorem engineSeesChange_light (slot : Nat) (origin : Origin) : (engineSeesChange slot origin s).light = s.light := by
  unfold engineSeesChange; split <;> (try split) <;> simp
@[simp] theorem sendEnd_light : (sendEnd s).light = s.light := by simp [sendEnd]
@[simp] theorem stopShow_light : (stopShow s).1.light = s.light := by
  unfold stopShow; split
  · rfl
  · dsimp only; split <;> simp
@[simp] theorem endShow_light : (endShow s).light = s.light := by simp [endShow]
@[simp] theorem engineSeesLocate_light (outcome : LocateOutcome) : (engineSeesLocate outcome s).light = s.light := by
  unfold engineSeesLocate; split
  · rfl
  · dsimp only; split
    · rfl
    · split <;> simp
@[simp] theorem dwellEnds_light : (dwellEnds s).light = s.light := by
  unfold dwellEnds; split
  · rfl
  · split
    · rfl
    · have h := judge_light (s.onExec fun x => { x with dwell := none, dwellRuns := false }) .dwell
      split <;> simp_all
@[simp] theorem afterEdit_light : (afterEdit s).light = s.light := by unfold afterEdit; split <;> simp
@[simp] theorem doStepdef_light (n : Int) (keep : Bool) (fields : List StepField) :
    (doStepdef n keep fields s).1.light = s.light := by
  unfold doStepdef; split <;> simp
@[simp] theorem doStepdel_light (n : Int) : (doStepdel n s).1.light = s.light := by
  unfold doStepdel; split
  · rfl
  · split <;> simp
@[simp] theorem doStepask_light (n : Int) : (doStepask n s).1.light = s.light := by
  unfold doStepask; split
  · rfl
  · split <;> rfl
end

/-! ## The key receiver -/

section
variable (s : State)
@[simp] theorem endFocus_light (fields : FocusDir → List Field) : (endFocus fields s).light = s.light := by
  unfold endFocus; split <;> simp
@[simp] theorem judgeFocus_light : (judgeFocus s).light = s.light := by
  unfold judgeFocus; split <;> (try split) <;> simp [focusLimit]
@[simp] theorem focusCurrentMoves_light (high : Bool) : (focusCurrentMoves high s).light = s.light := by
  simp [focusCurrentMoves]
@[simp] theorem focusBlankingEnds_light : (focusBlankingEnds s).light = s.light := by
  unfold focusBlankingEnds; split <;> (try split) <;> simp
@[simp] theorem focusRestEnds_light : (focusRestEnds s).light = s.light := by unfold focusRestEnds; dsimp only; split <;> rfl
@[simp] theorem focusRunEnds_light : (focusRunEnds s).light = s.light := by
  unfold focusRunEnds; split <;> (try split) <;> simp
@[simp] theorem focusSupplyLow_light : (focusSupplyLow s).light = s.light := by simp [focusSupplyLow]
@[simp] theorem reportKey_light (key : Key) (source : Source) (outcome : List Field) :
    (reportKey key source outcome s).light = s.light := rfl
@[simp] theorem ignoreKey_light (key : Key) (source : Source) (reason : Option String) :
    (ignoreKey key source reason s).light = s.light := rfl
@[simp] theorem reportTaken_light (key : Key) (source : Source) (refusal : Option RefusalWord) (more : List Field) :
    (reportTaken key source refusal more s).light = s.light := by unfold reportTaken; split <;> rfl
@[simp] theorem reportQueued_light (key : Key) (source : Source) (r : State × Bool) (more : List Field) :
    (reportQueued key source r more).light = r.1.light := rfl
@[simp] theorem reportShowKey_light (key : Key) (source : Source) (r : State × Bool) :
    (reportShowKey key source r).light = r.1.light := by simp [reportShowKey]
@[simp] theorem stopKey_light (source : Source) (mode : Mode) : (stopKey source mode s).light = s.light := by
  unfold stopKey; split <;> simp
@[simp] theorem digitKey_light (d : Fin 10) : (digitKey d s).light = s.light := by unfold digitKey; split <;> rfl
@[simp] theorem digitsExpire_light : (digitsExpire s).light = s.light := by unfold digitsExpire; split <;> rfl
@[simp] theorem focusKey_light (key : Key) (dir : FocusDir) : (focusKey key dir s).light = s.light := by
  unfold focusKey; split <;> rfl
@[simp] theorem endKeyRun_light (dir : FocusDir) : (endKeyRun dir s).light = s.light := by
  unfold endKeyRun; split <;> (try split) <;> simp
@[simp] theorem releaseKey_light : (releaseKey s).light = s.light := by
  unfold releaseKey; split
  · rfl
  · dsimp only; split <;> simp
@[simp] theorem repeatKey_light : (repeatKey s).light = s.light := rfl
@[simp] theorem setDecoder_light (d : Decoder) : (setDecoder d s).light = s.light := rfl
@[simp] theorem frameInvalid_light (leader : Bool) : (frameInvalid leader s).light = s.light := rfl
@[simp] theorem spaceEnds_light (us : Nat) : (spaceEnds us s).light = s.light := by
  unfold spaceEnds; dsimp only; split
  · rfl
  · rfl
  · split
    · rfl
    · split <;> rfl
  · split
    · rfl
    · split
      · rfl
      · split <;> rfl
  · rfl
@[simp] theorem spaceRunsOn_light (us : Nat) : (spaceRunsOn us s).light = s.light := by
  unfold spaceRunsOn; split <;> (try split) <;> rfl
@[simp] theorem wiredMoves_light (key : WiredKey) (closed : Bool) : (wiredMoves key closed s).light = s.light := by
  cases key <;> rfl
@[simp] theorem doKeyaddr_light (addr : Option KeyAddrArg) : (doKeyaddr addr s).1.light = s.light := by
  unfold doKeyaddr; split <;> (try split) <;> rfl
@[simp] theorem doFocus_light (dir : FocusDir) (ms : Int) : (doFocus dir ms s).1.light = s.light := by
  unfold doFocus; split <;> rfl
@[simp] theorem doFocusStop_light : (doFocusStop s).1.light = s.light := by simp [doFocusStop]
end
end Sys2Proof.Machine

namespace Sys2Proof.Machine

/-! ### The engine, the cue unit and the keys keep the lamp disciplined -/

section
variable {s : State} (h : s.light.Ok)
include h

theorem sendChange_lightOk (x : Execution) : (sendChange x s).light.Ok := by
  unfold sendChange
  split
  · exact h
  next slot _ =>
    have hr := changerRequest_lightOk (s := s.onExec fun x => { x with changeAwaited := true }) h
      ⟨slot, .show, false, x.catchUp⟩
    dsimp only
    split <;> simp_all

theorem startPhase_lightOk (st : Step) (x : Execution) : (startPhase st x s).light.Ok := by
  unfold startPhase
  split
  · simpa using h
  · simpa using h
  · rw [sendFadeIn_light]; exact sendChange_lightOk (s := s.onExec _) h _

theorem enterStep_lightOk (n : Nat) (reason : EntryReason) (word : String) : (enterStep n reason word s).light.Ok :=
  startPhase_lightOk (by simpa using h) _ _

theorem sendDeferred_lightOk : (sendDeferred s).light.Ok := by
  unfold sendDeferred
  split
  · exact h
  · split
    · exact sendChange_lightOk (s := s.onExec _) h _
    · simpa using h
    · split
      · split
        · exact sendChange_lightOk h _
        · exact h
      · exact h

theorem resumeShow_lightOk : (resumeShow s).light.Ok := by
  have := sendDeferred_lightOk (s := showReleases (tapeSeesRunning (setShow .running s))) (by simpa using h)
  simpa [resumeShow] using this

theorem setCauses_lightOk (cs : List Cause) : (setCauses cs s).light.Ok := by
  unfold setCauses
  dsimp only
  split
  · exact h
  · split
    · split <;> simpa using h
    · split
      · exact resumeShow_lightOk (s := s.onEngine _) h
      · simpa using h
    all_goals exact h

theorem addRequest_lightOk : (addRequest s).light.Ok := setCauses_lightOk h _

theorem causeEnters_lightOk (kind : FaultKind) (byItself : Bool) : (causeEnters kind byItself s).light.Ok := by
  unfold causeEnters
  split
  · exact h
  · exact setCauses_lightOk h _

theorem causeLeaves_lightOk (kind : FaultKind) : (causeLeaves kind s).light.Ok := by
  unfold causeLeaves
  split
  · exact h
  · exact setCauses_lightOk h _

theorem runShow_lightOk : (runShow s).1.light.Ok := by
  unfold runShow
  split
  iterate 3 exact h
  iterate 2
    · split
      · exact h
      · exact enterStep_lightOk (by simpa using h) _ _ _

theorem holdShow_lightOk : (holdShow s).1.light.Ok := by
  unfold holdShow
  split
  · exact addRequest_lightOk h
  · exact h

theorem resumeRequest_lightOk : (resumeRequest s).1.light.Ok := by
  unfold resumeRequest
  split
  · exact setCauses_lightOk h _
  · exact h

theorem engineSeesRamp_lightOk (origin : Option RampOrigin) : (engineSeesRamp origin s).light.Ok := by
  unfold engineSeesRamp
  split
  · exact h
  · split
    · exact h
    · dsimp only
      split
      · split
        · exact h
        · exact sendChange_lightOk (by simpa using h) _
      · simpa using h

theorem engineSeesRefusal_lightOk (why : RefusalWord) (slot : Nat) : (engineSeesRefusal why slot s).light.Ok := by
  unfold engineSeesRefusal
  split
  · exact h
  · split
    · dsimp only
      split
      · simpa using h
      · exact addRequest_lightOk (s := s.report _ _) h
    · exact h

theorem useTrigger_lightOk (x : Execution) (r : Trigger) : (useTrigger x r s).light.Ok := by
  unfold useTrigger
  split
  · split
    · exact enterStep_lightOk h _ _ _
    · split
      · exact enterStep_lightOk h _ _ _
      · simpa using h
  · exact enterStep_lightOk h _ _ _
  · exact enterStep_lightOk h _ _ _

omit h in
theorem takeTriggers_lightOk (fuel : Nat) {s : State} (h : s.light.Ok) : (takeTriggers fuel s).light.Ok := by
  induction fuel generalizing s with
  | zero => exact h
  | succ fuel ih =>
    unfold takeTriggers
    split
    · split
      · dsimp only
        split
        · exact useTrigger_lightOk (by simpa [reportTrigger] using h) _ _
        · exact ih (by simpa [reportTrigger] using h)
      · exact h
    · exact h

theorem offerHead_lightOk : (offerHead s).light.Ok := takeTriggers_lightOk _ h
end

/-! ## The cue unit's actions -/

section
variable {s : State} (h : s.light.Ok)
include h

theorem cueMoves_lightOk (k : Int) : (cueMoves k s).1.light.Ok := by
  have hr := changerRequest_lightOk h ⟨s.changer.relative k, .cue, false, false⟩
  unfold cueMoves
  split <;> simp_all

theorem cueArrival_lightOk (y : Symbol) (action : CueAction) : (cueArrival y action s).1.light.Ok := by
  have hj := judge_light s .cue
  unfold cueArrival
  split
  iterate 2 next u _ hu => rw [hu] at hj; simpa [hj] using h
  next u mode hu =>
    rw [hu] at hj
    have ho : u.light.Ok := by rw [show u.light = s.light from hj]; exact h
    dsimp only
    split
    · split
      · exact cueMoves_lightOk ho 1
      · simpa [queued] using ho
    · split
      · exact cueMoves_lightOk ho (-1)
      · simpa [queued] using ho
    · simpa [acted] using ho
    all_goals exact ho

theorem disposition_lightOk (y : Symbol) (echo : Bool) : (disposition y echo s).1.light.Ok := by
  unfold disposition
  split
  · exact h
  · split
    · exact h
    · exact h
    · exact cueArrival_lightOk h _ _

theorem disposeBurst_lightOk (y : Symbol) (echo : Bool) : (disposeBurst y echo s).light.Ok := by
  have hd := disposition_lightOk h y echo
  simpa [disposeBurst] using hd

theorem burstEnds_lightOk (d : Detector) (b : Burst) : (burstEnds d b s).light.Ok := by
  unfold burstEnds
  split
  · exact h
  · exact disposeBurst_lightOk h _ _

theorem settledMiss_lightOk (d : Detector) : (settledMiss d s).light.Ok := by
  unfold settledMiss
  split
  · exact h
  · split
    · exact h
    · exact burstEnds_lightOk (s := setClassifier _ _ s) h _ _
  · split <;> simpa using h

theorem settleResult_lightOk (d : Detector) (r : RawResult) : (settleResult d s r).light.Ok := by
  unfold settleResult
  split
  · exact settledMiss_lightOk h d
  · split
    · exact settledMiss_lightOk (s := s.onCue _) h d
    · simpa using h

theorem settleNext_lightOk : (settleNext s).light.Ok := by
  unfold settleNext
  split
  · rw [State.emit_light]; exact settleResult_lightOk (s := s.onCue _) h _ _
  · exact h

theorem closeClassifier_lightOk (d : Detector) : (closeClassifier s d).light.Ok := by
  unfold closeClassifier
  split
  · exact h
  · exact burstEnds_lightOk (s := setClassifier _ _ s) h _ _
  · simpa using h
end

/-! ## The key receiver -/

section
variable {s : State} (h : s.light.Ok)
include h

theorem keyMoves_lightOk (key : Key) (source : Source) (k : Int) : (keyMoves key source k s).light.Ok := by
  have hr := changerRequest_lightOk h ⟨s.changer.relative k, originOf source, false, false⟩
  unfold keyMoves
  split
  next hu => rw [hu] at hr; simpa using hr

theorem slideKey_lightOk (key : Key) (source : Source) (mode : Mode) (k : Int) (kind : TriggerKind)
    (action : CueAction) (len : LengthClass) : (slideKey key source mode k kind action len s).light.Ok := by
  have hw := keyWrite_light s len action
  unfold slideKey
  split
  · exact keyMoves_lightOk h _ _ _
  · simpa using h
  · simpa using h
  · split
    next hu => rw [hu] at hw; simpa [hw] using h
    next hu => rw [hu] at hw; exact keyMoves_lightOk (by rw [show _ = s.light from hw]; exact h) _ _ _

theorem showKey_lightOk (source : Source) (mode : Mode) : (showKey source mode s).light.Ok := by
  unfold showKey
  split
  · rw [reportShowKey_light]; exact runShow_lightOk h
  · rw [reportShowKey_light]; exact holdShow_lightOk h
  · rw [reportShowKey_light]; exact resumeRequest_lightOk h
  · exact h

theorem goKey_lightOk (source : Source) (mode : Mode) (n : Nat) : (goKey source mode n s).light.Ok := by
  have hr := changerRequest_lightOk h ⟨n, originOf source, false, false⟩
  unfold goKey
  split
  iterate 2
    · split
      · exact h
      · split
        next hu => rw [hu] at hr; simpa using hr
  iterate 2
    · split
      · exact h
      · simpa using h

/-- R147: a key that passes the check keeps the lamp disciplined if its action does. -/
theorem checkKey_lightOk (key : Key) (source : Source) {act : Mode → State → State}
    (ha : ∀ mode u, u.light.Ok → (act mode u).light.Ok) : (checkKey key source act s).light.Ok := by
  have hj := judge_light s source
  unfold checkKey
  split
  all_goals
    next u _ hu =>
      rw [hu] at hj
      have ho : u.light.Ok := by rw [show u.light = s.light from hj]; exact h
      first | exact ha _ _ ho | exact ho

theorem forwardKey_lightOk (source : Source) : (forwardKey source s).light.Ok :=
  checkKey_lightOk h _ _ fun _ _ hu => slideKey_lightOk hu _ _ _ _ _ _ _

theorem reverseKey_lightOk (source : Source) : (reverseKey source s).light.Ok :=
  checkKey_lightOk h _ _ fun _ _ hu => slideKey_lightOk hu _ _ _ _ _ _ _

theorem commitDigits_lightOk : (commitDigits s).light.Ok := by
  unfold commitDigits
  split
  · exact h
  · exact checkKey_lightOk (s := s.onKeys _) h _ _ fun _ _ hu => goKey_lightOk hu _ _ _

theorem keyActs_lightOk (key : Key) : (keyActs key s).light.Ok := by
  unfold keyActs
  split
  · simpa using h
  · simpa using h
  · simpa using h
  · split <;> simpa using h
  · simpa using h
  · exact forwardKey_lightOk h _
  · exact reverseKey_lightOk h _
  · exact checkKey_lightOk h _ _ fun _ _ hu => showKey_lightOk hu _ _
  · exact checkKey_lightOk h _ _ fun _ _ hu => by simpa using hu
  · exact commitDigits_lightOk h

theorem pressKey_lightOk (key : Key) : (pressKey key s).light.Ok := keyActs_lightOk (by simpa using h) key

theorem dataFrame_lightOk (w : IrWord) : (dataFrame w s).light.Ok := by
  unfold dataFrame
  dsimp only
  split
  · exact h
  · split
    · exact h
    · split
      · simpa using h
      · exact pressKey_lightOk h _

theorem markEnds_lightOk (us : Nat) : (markEnds us s).light.Ok := by
  unfold markEnds
  dsimp only
  split
  · split <;> exact h
  · split <;> exact h
  · exact h
  · split <;> exact h
  · split
    · unfold frameCompletes
      dsimp only
      split
      · exact dataFrame_lightOk (by simpa using h) _
      · exact h
    · exact h

theorem irDuration_lightOk (g : IrSegment) : (irDuration s g).light.Ok := by
  cases g with
  | mark us => exact markEnds_lightOk h us
  | space us => simpa [irDuration] using h
  | spaceRuns us => simpa [irDuration] using h

omit h in
theorem irDurations_lightOk (gs : List IrSegment) {s : State} (h : s.light.Ok) :
    (gs.foldl irDuration s).light.Ok := by
  induction gs generalizing s with
  | nil => exact h
  | cons g gs ih => exact ih (irDuration_lightOk h g)

theorem wiredSettles_lightOk (key : WiredKey) : (wiredSettles key s).light.Ok := by
  unfold wiredSettles
  dsimp only
  split
  · exact h
  · split
    · exact h
    · cases key
      · exact forwardKey_lightOk (s := s.onKeys _) h _
      · exact reverseKey_lightOk (s := s.onKeys _) h _
end

/-! ## Tellings, CLEAR and the supply monitor -/

section
variable {s : State} (h : s.light.Ok)
include h

theorem endAction_lightOk (k : FaultKind) : (endAction k s).light.Ok := by
  unfold endAction
  split
  iterate 3 exact changerCleared_lightOk h _
  · exact lampShortCleared_lightOk h
  · exact lampShiftCleared_lightOk h
  · exact heatTripCleared_lightOk h
  all_goals exact h

theorem clearKind_lightOk (k : FaultKind) : (clearKind k s).light.Ok := by
  unfold clearKind
  dsimp only
  split
  · exact h
  · exact causeLeaves_lightOk (endAction_lightOk (by simpa using h) k) k

theorem receive_lightOk (sig : Signal) : (receive sig s).light.Ok := by
  cases sig with
  | changeDone slot origin => simpa [receive] using h
  | changeRefused why slot => exact engineSeesRefusal_lightOk h _ _
  | rampDone level origin => exact engineSeesRamp_lightOk h _
  | locateDone outcome arrival => simpa [receive] using h
  | tapeMoved old new => simpa [receive] using h
  | causeIn kind byItself => exact causeEnters_lightOk h _ _
  | causeOut kind => exact causeLeaves_lightOk h _
  | offerHead => exact offerHead_lightOk h
  | reviewHold => simpa [receive] using h
  | clearKind kind => exact clearKind_lightOk h _
  | settle => exact settleNext_lightOk h
  | closeBurst d => exact closeClassifier_lightOk h d
  | writeEnds => simpa [receive] using h

omit h in
theorem drainAll_lightOk (fuel : Nat) {s : State} (h : s.light.Ok) : (drainAll fuel s).light.Ok := by
  induction fuel generalizing s with
  | zero => exact h
  | succ fuel ih =>
    unfold drainAll
    split
    · exact h
    · exact ih (receive_lightOk (s := { s with signals := [] }) h _)

theorem drain_lightOk : (drain s).light.Ok := drainAll_lightOk 1000 h

end
end Sys2Proof.Machine

namespace Sys2Proof.Machine

/-! ### The supply monitor, the settings and the requests of the line -/

/-- R207: a move of the supply monitor. -/
@[simp] theorem setSupply_light (st : SupplyState) (timer : Option Nat) (s : State) :
    (setSupply st timer s).light = { s.light with supply := st } := rfl

/-- R59: where the lamp is dark, it stays dark through any move of the supply monitor. -/
theorem Light.Ok.of_dark {g : Light} (h : g.Ok) (hd : g.dark = true) (st : SupplyState) :
    Light.Ok { g with supply := st } := ⟨h.1, fun _ => h.2.1 hd, h.2.2⟩

section
variable {s : State} (h : s.light.Ok)
include h

theorem comparatorMoves_lightOk (good : Bool) : (comparatorMoves good s).light.Ok := by
  have bright (st : SupplyState) (hs : s.faults.supply = .good ∨ s.faults.supply = .deglitch)
      (hst : st = .good ∨ st = .deglitch) : Light.Ok { s.light with supply := st } := by
    refine ⟨h.1, fun hd => h.2.1 ?_, h.2.2⟩
    rcases hs with hs | hs <;> rcases hst with rfl | rfl <;> simpa [Light.dark, State.light, hs] using hd
  unfold comparatorMoves
  dsimp only
  split
  next hs => exact bright _ (.inl hs) (.inr rfl)
  next hs => exact bright _ (.inr hs) (.inl rfl)
  next hs => exact h.of_dark (by simp [Light.dark, State.light, show s.faults.supply = .low from hs]) _
  next hs => exact h.of_dark (by simp [Light.dark, State.light, show s.faults.supply = .recovering from hs]) _
  all_goals exact h

omit h in
theorem raiseSupplyLow_lightOk {s : State} (h : s.light.Ready) : (raiseSupplyLow s).light.Ok := by
  have := changerSupplyLow_lightOk (s := lampSupplyLow (tellPresent .supplyLow none s)) (lampSupplyLow_lightOk (by simpa using h))
  simpa [raiseSupplyLow] using this

theorem supplyReturns_lightOk : (supplyReturns s).light.Ok := by
  have := changerSupplyGood_lightOk (s := lampSupplyGood (tellGone .supplyLow s)) (by simpa using h)
  simpa [supplyReturns] using this

theorem supplyDeglitchEnds_lightOk : (supplyDeglitchEnds s).light.Ok := by
  unfold supplyDeglitchEnds
  split
  · exact raiseSupplyLow_lightOk h.1
  · exact h

theorem supplyRetryEnds_lightOk : (supplyRetryEnds s).light.Ok := by
  unfold supplyRetryEnds
  split
  next hs => exact supplyReturns_lightOk (s := setSupply _ _ s) (h.of_dark (by simp [Light.dark, State.light, hs]) _)
  next => exact h

omit h in
@[simp] theorem doClear_light (kind : Option FaultKind) (s : State) : (doClear kind s).1.light = s.light := by
  have tells (ks : List FaultKind) (u : State) : (ks.foldl (fun s k => s.emit (.clearKind k)) u).light = u.light := by
    induction ks generalizing u with
    | nil => rfl
    | cons k ks ih => exact ih _
  simp [doClear, tells]

omit h in
@[simp] theorem writeNum_light (name : Setting) (n : Int) (s : State) : (writeNum name n s).light = s.light := by
  unfold writeNum
  split <;> simp [onHeatSet, setFanDrive]

theorem writeWord_lightOk (name : Setting) (w : String) : (writeWord name w s).light.Ok := by
  unfold writeWord
  dsimp only
  split
  · simpa using h
  · simpa using h
  · exact setGuard_lightOk h _
  all_goals simpa using h

theorem doSet_lightOk (name : Setting) (value : SetValue) : (doSet name value s).1.light.Ok := by
  unfold doSet
  split
  · unfold setNum
    dsimp only
    split
    · exact h
    · rw [accept_fst]
      split
      · exact h
      · simpa using h
  · unfold setWord
    split
    · exact h
    · split
      · exact h
      · rw [accept_fst]
        split
        · exact h
        · exact writeWord_lightOk h _ _
  all_goals exact h

/-- R47 to R50: what the changer requests of the line do, by the answer of the changer. -/
theorem doGoto_lightOk (slot : Int) : (doGoto slot s).1.light.Ok := by
  have hr := changerRequest_lightOk h ⟨slot.toNat, .line, false, false⟩
  unfold doGoto
  split
  · exact h
  · split
    · exact h
    · split
      · exact h
      next hu => rw [hu] at hr; exact hr

theorem doMove_lightOk (k : Int) : (doMove k s).1.light.Ok := by
  have hr := changerRequest_lightOk h ⟨s.changer.relative (clamp (-9) 9 k), .line, false, false⟩
  unfold doMove
  split
  · exact h
  · dsimp only
    split
    · exact h
    · split
      · exact h
      next hu => rw [hu] at hr; exact hr

theorem doPark_lightOk : (doPark s).1.light.Ok := by
  have hr := changerRequest_lightOk h ⟨0, .line, true, false⟩
  unfold doPark
  split
  · exact h
  · split
    · exact h
    next hu => rw [hu] at hr; exact hr

theorem doHome_lightOk : (doHome s).1.light.Ok := by
  unfold doHome
  split
  · exact h
  · split
    · exact h
    · rw [accept_fst]
      exact takeRequest_lightOk (by simpa using h) _

omit h in
theorem showReply_lightOk {r : State × Bool} (h : r.1.light.Ok) (word : String) : (showReply word r).1.light.Ok := by
  unfold showReply
  split
  · exact drain_lightOk h
  · exact h

/-- Every request of the line keeps the lamp disciplined. -/
theorem handle_lightOk (r : Request) : (handle r s).1.light.Ok := by
  cases r with
  | set name value => exact doSet_lightOk h _ _
  | goto slot => exact doGoto_lightOk h _
  | move k => exact doMove_lightOk h _
  | park => exact doPark_lightOk h
  | home => exact doHome_lightOk h
  | curveLoad i duty => exact doCurveLoad_lightOk h _ _
  | lampmodShift => exact doLampmodShift_lightOk h
  | lampmodReplace pos => exact doLampmodReplace_lightOk h _
  | lampmodRemove pos => exact doLampmodRemove_lightOk h _
  | powerOn => exact doPowerOn_lightOk h
  | powerOff => exact doPowerOff_lightOk h
  | showRun => exact showReply_lightOk (runShow_lightOk h) _
  | showStop => exact showReply_lightOk (by simpa using h) _
  | showHold => exact showReply_lightOk (holdShow_lightOk h) _
  | showResume => exact showReply_lightOk (resumeRequest_lightOk h) _
  | _ =>
    simpa [handle, doAskSetting, doAskLine, doReport, doReset, doAskSlide, doLampmodAuto, doAskLamp, doAskHeat, doAskTape,
      doCuelogCounts, doAskKeys, doShowStatus, doPermitRead, permitReply, doPermitStatus, doFaultmodeRead,
      doAskFaults] using h

/-! ### The control line and the resets -/

theorem takeLine_lightOk (x : RxLine) : (takeLine x s).light.Ok := by
  unfold takeLine
  dsimp only
  rw [State.onLine_light]
  split
  · exact drain_lightOk (handle_lightOk (by simpa using h) _)
  · exact drain_lightOk (by simpa using h)

omit h in
theorem takeAll_lightOk (fuel : Nat) {s : State} (h : s.light.Ok) : (takeAll fuel s).light.Ok := by
  induction fuel generalizing s with
  | zero => exact h
  | succ fuel ih =>
    unfold takeAll
    split
    · exact h
    · split
      · exact ih (takeLine_lightOk (by simpa using h) _)
      · exact h

theorem offerLine_lightOk (x : RxLine) : (offerLine x s).light.Ok := by
  unfold offerLine
  split
  · exact takeAll_lightOk _ (by simpa using h)
  · simpa using h

theorem lineCompletes_lightOk : (lineCompletes s).light.Ok := by
  unfold lineCompletes
  dsimp only
  split
  · exact h
  · split
    · exact offerLine_lightOk (by simpa [setReceiver] using h) _
    · exact h

theorem receiveChar_lightOk (c : RxChar) : (receiveChar c s).light.Ok := by
  unfold receiveChar
  dsimp only
  split
  · split <;> exact h
  · split
    · exact lineCompletes_lightOk h
    · split
      · exact h
      · split <;> exact h
end

/-! ### The resets -/

@[simp] theorem retellLamp_light (s : State) : (retellLamp s).light = s.light := by
  unfold retellLamp; split <;> simp

theorem defaultCurve_rises : CurveRises defaultCurve := by decide

/-- R72: a lamp record that is ACTIVE after a soft reset is that in the path. -/
theorem LampRecord.settle_active {pos : LampPos} {path : Option LampPos} {r : LampRecord}
    (h : (r.settle pos path).state = .active) : path = some pos := by
  unfold LampRecord.settle at h
  split at h
  next hr =>
    split at h
    next hp => exact hp
    next => rw [hr] at h; cases h
  next =>
    split at h
    next hp => exact hp
    next => cases h
  iterate 2 next hr => rw [hr] at h; cases h

/-- R72: the lamp controller after a soft reset. -/
theorem Lamp.softReset_lightOk (p : Pins) (occ : Occupancy) (l : Lamp) (supply : SupplyState) (power : PowerState) :
    Light.Ok ⟨(Lamp.softReset p occ l).view, occ, supply, power⟩ :=
  ⟨⟨LampRecord.settle_active, LampRecord.settle_active, fun _ ho => ⟨if_neg ho, rfl⟩, defaultCurve_rises⟩, fun _ => rfl,
    fun _ _ => rfl⟩

/-- R71: the lamp controller after a hard reset. -/
theorem Lamp.afterReset_lightOk (p : Pins) (occ : Occupancy) (cap : Nat) (supply : SupplyState) (power : PowerState) :
    Light.Ok ⟨(Lamp.afterReset p occ cap).view, occ, supply, power⟩ := by
  have at_path (pos : LampPos) (h : (LampRecord.afterReset pos p.shiftSwitch).state = .active) :
      p.shiftSwitch = some pos := by
    unfold LampRecord.afterReset at h
    by_contra hp
    rw [if_neg hp] at h
    cases h
  exact ⟨⟨at_path .primary, at_path .spare, fun _ ho => ⟨if_neg ho, rfl⟩, defaultCurve_rises⟩, fun _ => rfl, fun _ _ => rfl⟩

theorem retellSupply_lightOk {s : State} (h : s.light.Ok) : (retellSupply s).light.Ok := by
  unfold retellSupply
  split
  · exact raiseSupplyLow_lightOk h.1
  · exact h

/-- R72: a soft reset brings the lamp into order from any state. -/
theorem softReset_lightOk (s : State) : (Machine.softReset s).light.Ok := by
  refine drain_lightOk (retellSupply_lightOk ?_)
  rw [retellLamp_light, retellHeat_light]
  exact softResetHeat_lightOk fun power => Lamp.softReset_lightOk s.pins _ s.lamp _ power

theorem hardReset_lightOk (pins : Pins) (c : Changer) (l : List Instr) :
    State.light { State.afterHardReset pins with changer := c.softReset pins, pending := l } |>.Ok :=
  Lamp.afterReset_lightOk pins _ _ _ _

/-! ### Every command and every step -/

/-- The state that a command answers has its lamp disciplined. -/
abbrev Answer.LampDisciplined (o : Answer) : Prop := ∀ t, o = .next t → t.light.Ok

section
variable {s : State} (h : s.light.Ok)
include h

theorem lineSent_lightOk : (lineSent s).light.Ok := by
  unfold lineSent
  split
  · exact h
  · split
    · exact softReset_lightOk s
    · exact takeAll_lightOk _ (by simpa using h)

theorem arrives_lightOk (r : Request) : Answer.LampDisciplined (arrives r s) := by
  rintro t ⟨⟩; exact offerLine_lightOk h _

omit h in
theorem happens_lightOk {f : State → State} {s : State} (h : (f s).light.Ok) : Answer.LampDisciplined (happens f s) := by
  rintro t ⟨⟩; exact drain_lightOk h

theorem exec_lightOk (i : Instr) : Answer.LampDisciplined (exec i s) := by
  cases i with
  | hardReset pins => rintro t ⟨⟩; exact hardReset_lightOk pins s.changer _
  | softReset => rintro t ⟨⟩; exact softReset_lightOk s
  | characterReceived c => rintro t ⟨⟩; exact receiveChar_lightOk h c
  | transmitLineEnd => rintro t ⟨⟩; exact lineSent_lightOk h
  | lineRefusedForm fault => rintro t ⟨⟩; exact offerLine_lightOk h _
  | indexPulse zero => exact happens_lightOk (indexMoves_lightOk h zero)
  | topSwitchChange closed => exact happens_lightOk (topSwitchMoves_lightOk h closed)
  | seatSwitchChange closed => exact happens_lightOk (seatSwitchMoves_lightOk h closed)
  | gateBarrierChange interrupted => exact happens_lightOk (barrierMoves_lightOk h interrupted)
  | motorDeadTimeEnd motor => exact happens_lightOk (deadTimeEnds_lightOk h motor)
  | overcurrentDeglitchEnd => exact happens_lightOk (deglitchEnds_lightOk h)
  | phaseTimeout => exact happens_lightOk (phaseRunsOut_lightOk h)
  | backoffDriveEnd => exact happens_lightOk (backoffDriveEnds_lightOk h)
  | settleEnd => exact happens_lightOk (settleEnds_lightOk h)
  | trayOut => exact happens_lightOk (trayRemoved_lightOk h)
  | trayIn zero => exact happens_lightOk (trayInserted_lightOk h zero)
  | lampUpdate => exact happens_lightOk (runUpdate_lightOk h)
  | lampCurrentChange current => exact happens_lightOk (currentMoves_lightOk h current)
  | openTimerExpiry => exact happens_lightOk (lampFails_lightOk h)
  | shiftSwitchChange position => exact happens_lightOk (switchMoves_lightOk h position)
  | shiftTimeout => exact happens_lightOk (shiftFails_lightOk h)
  | thermalPeriod reading => exact happens_lightOk (runPeriod_lightOk h reading)
  | riseStep => exact happens_lightOk (stepRise_lightOk h)
  | irDataFrame frame => exact happens_lightOk (f := fun s => List.foldl irDuration s _) (irDurations_lightOk _ h)
  | irRepeatFrame frame => exact happens_lightOk (f := fun s => List.foldl irDuration s _) (irDurations_lightOk _ h)
  | irFrameInvalid segments => exact happens_lightOk (f := fun s => List.foldl irDuration s _) (irDurations_lightOk _ h)
  | wiredDebounceEnd key => exact happens_lightOk (wiredSettles_lightOk h key)
  | supplyComparatorChange good => exact happens_lightOk (comparatorMoves_lightOk h good)
  | supplyDeglitchEnd => exact happens_lightOk (supplyDeglitchEnds_lightOk h)
  | supplyRetryEnd => exact happens_lightOk (supplyRetryEnds_lightOk h)
  | motorBlankingEnd | motorCurrentChange | fanTachPulse | tapeOut | tapeIn | tapePulse | reverseGuardEnd | endOfTape
  | volumeUpdate | detectorWindowEnd | cueWritten | keyReleaseTimeout | digitsExpired | wiredInputChange | focusRestEnd
  | focusBlankingEnd | focusCurrentChange | focusRunEnd | dwellExpiry | risingCrossing =>
    exact happens_lightOk (by simpa using h)
  | _ => exact arrives_lightOk h _

omit h in
/-- A millisecond of the clock leaves the light. -/
@[simp] theorem tick_light (s : State) : (tick s).light = s.light := by
  simp [State.light, tick, Lamp.tick, Changer.tick, Heat.tick, Faults.tick]

theorem step_lightOk : Answer.LampDisciplined (step s) := by
  unfold step
  split
  · refine exec_lightOk ?_ _; exact h
  · split
    · exact exec_lightOk h _
    · rintro t ⟨⟩; simpa using h
end

/-- Settles O52: the level and the duty are computed after every change of what makes the lamp dark (R59), the guard comes
into force with every change of occupancy (R56), and a record becomes ACTIVE in the path alone (R62). -/
theorem theDarkLampStaysDark : Obligations.TheDarkLampStaysDark := by
  intro s t hs hst
  exact (State.light_ok_iff t).1 (step_lightOk ((State.light_ok_iff s).2 hs) t hst)

end Sys2Proof.Machine

namespace Sys2Proof.Machine

/-! ## Requests of the lamp -/

/-- Settles O13: ASK LAMP is a reading (R77), and its fields give the lamp controller word for word. -/
theorem askLampReadsTheLamp : Obligations.AskLampReadsTheLamp := by
  intro s h
  refine arrives_of_reading h ?_
  have origin : wordOrNone (s.lamp.ramp.origin.map RampOrigin.word) = .word (match s.lamp.ramp.origin with
      | none => "NONE" | some .line => "LINE" | some .remote => "REMOTE" | some .show => "SHOW") := by
    cases s.lamp.ramp.origin with
    | none => rfl
    | some o => cases o <;> rfl
  have path : posWord s.lamp.path =
      (match s.lamp.path with | none => "NONE" | some .primary => "PRIMARY" | some .spare => "SPARE") := by
    cases s.lamp.path with
    | none => rfl
    | some pos => cases pos <;> rfl
  have shift : ((s.lamp.shift.map fun sh => sh.target.word).getD "IDLE") =
      (match s.lamp.shift with | none => "IDLE" | some sh => sh.target.word) := by
    cases s.lamp.shift <;> rfl
  have hold : holdParts s.lamp = (match s.lamp.shortHold, s.lamp.shiftHold with
      | false, false => [.word "NONE"] | true, false => [.word "SHORT"] | false, true => [.word "SHIFT"]
      | true, true => [.word "SHORT", .word "SHIFT"]) := by
    unfold holdParts
    cases s.lamp.shortHold <;> cases s.lamp.shiftHold <;> rfl
  show doAskLamp s.busyLine = _
  simp only [doAskLamp, State.busyLine, State.onLine_lamp, origin, path, shift, hold]
  rfl

/-- R4: a request that arrives at a free line, and what its tellings lead to in other blocks. -/
theorem arrives_of_drained {r : Request} {reply : Reply} {s u : State} {f : State → State} (h : LineFree s)
    (hr : handle r s.busyLine = (u, reply)) (hd : drain u = f s.busyLine) (hb : (f s.busyLine).line.buffer = []) :
    arrives r s = .next (s.takes f reply) := by
  have ht : takeLine (.request r) s = s.takes f reply := by
    simp only [takeLine, readLine]
    rw [show (s.onLine fun l => { l with taking := true }) = s.busyLine from rfl, hr, hd]
    rfl
  rw [arrives, offerLine_of_free h (by rw [ht]; simpa [State.takes] using hb), ht]

/-- R52: a ramp that takes time is in progress from the present value. -/
theorem rampRequest_slow {level duration : Nat} (hd : tenMs duration ≠ 0) (origin : RampOrigin) (s : State) :
    rampRequest level duration origin s = s.onLamp fun l => { l with
      ramp := ⟨l.value, level, tenMs duration, 0, some origin, true⟩, requested := level
      lastLit := if 0 < level then level else l.lastLit } := by
  unfold rampRequest
  dsimp only
  rw [if_neg hd]

/-- R52, R53: a ramp of no duration is complete at once; it is reported, and told to the show engine. -/
theorem rampRequest_atOnce {level duration : Nat} (hd : tenMs duration = 0) (origin : RampOrigin) (s : State) :
    rampRequest level duration origin s = ((s.onLamp fun l => { l with
      ramp := ⟨l.value, level, 0, 0, some origin, false⟩, requested := level, value := level
      lastLit := if 0 < level then level else l.lastLit }).report .lamp [fw "DONE", fi level]).emit
        (.rampDone level (some origin)) := by
  unfold rampRequest
  dsimp only
  rw [if_pos hd, hd]
  rfl

/-- R53: the show engine takes no notice of a ramp of another origin. -/
theorem engineSeesRamp_other {origin : Option RampOrigin} (h : origin ≠ some .show) (s : State) :
    engineSeesRamp origin s = s := by
  unfold engineSeesRamp
  split
  · rfl
  · exact if_pos (.inl h)

/-- R53: the completion of a ramp that the show engine does not await leads to nothing. -/
theorem drain_rampDone {s : State} (h : s.signals = []) {level : Nat} {origin : Option RampOrigin}
    (hq : engineSeesRamp origin s = s) : drain (s.emit (.rampDone level origin)) = s := by
  have he : { s.emit (.rampDone level origin) with signals := [] } = s := State.signals_nil h
  have hr : receive (.rampDone level origin) s = s := hq
  rw [drain_one (sig := .rampDone level origin) (by simp [State.emit, h]) (by rw [he, hr, h]), he, hr]

/-- Settles O26: LAMP outside a show is a ramp request of origin LINE (R52, R73), complete at once where the fade is 0. -/
theorem lampStartsARamp : Obligations.LampStartsARamp := by
  intro s level fade h f lv fd reply
  have hf : tenMs (tenMs (clamp 0 9900 f).toNat) = fd := by
    show (clamp 0 9900 f).toNat / 10 * 10 / 10 * 10 = (clamp 0 9900 f).toNat / 10 * 10
    omega
  have hreply : OutLine.accepted "LAMP" [fc lv (outside 0 1000 level), fc fd (outside 0 9900 f)] = reply := by
    simp [reply, outside, Bool.decide_or]
  have taken (hr : s.engine.state ≠ .running) (hh : s.engine.state ≠ .held) :
      handle (.lamp level fade) s.busyLine = (rampRequest lv (tenMs (clamp 0 9900 f).toNat) .line s.busyLine, reply) := by
    have hb : s.busyLine.showBusy = false := showBusy_eq_false (s := s.busyLine) hr hh
    rw [← hreply]
    simp [handle, doLamp, hb, accept, f, lv, fd, clamp, tenMs]
  refine ⟨fun hbusy => ?_, fun hr hh hfd => ?_, fun hr hh hfd => ?_⟩
  · have hb : s.busyLine.showBusy = true := by
      rcases hbusy with hbusy | hbusy <;>
        simp [State.showBusy, ShowState.inShow, State.busyLine, hbusy]
    exact arrives_of_reading h (by simp [handle, doLamp, hb, refuse])
  · refine arrives_of_silent h ((taken hr hh).trans ?_) h.2.2.2 h.2.2.1
    rw [rampRequest_slow (by rw [hf]; exact hfd), hf]
    rfl
  · refine arrives_of_drained h ((taken hr hh).trans (by rw [rampRequest_atOnce (by rw [hf]; exact hfd)])) ?_ ?_
    · exact drain_rampDone (by exact h.2.2.2.2) (engineSeesRamp_other (by simp) _)
    · simpa [State.report, State.busyLine] using h.2.2.1

/-! ### The duty of a level -/

/-- R59: the rows of the table that make the lamp dark. -/
abbrev DarkRow (s : State) : Prop :=
  s.supplyLow = true ∨ s.lamp.shift ≠ none ∨ s.lamp.shortHold = true ∨ s.lamp.shiftHold = true ∨
    (s.lamp.primary.state ≠ .active ∧ s.lamp.spare.state ≠ .active) ∨
    s.heat.state ∈ [PowerState.standby, .cooldown, .tripped]

theorem lampDark_iff (s : State) : lampDark s = true ↔ DarkRow s := by
  unfold lampDark DarkRow
  rw [Lamp.activePos_isNone]
  cases s.heat.state <;>
    simp [or_assoc, Option.isSome_iff_ne_none]

/-- R59: the table. -/
theorem tableDuty_eq (s : State) (level : Nat) : tableDuty s level =
    if DarkRow s then 0 else if s.heat.state = .on then max (curveDuty s.lamp.curve level) s.lamp.keepWarmNow
      else curveDuty s.lamp.curve level := by
  unfold tableDuty
  exact if_congr (lampDark_iff s) rfl rfl

/-- R57, R59, R64, R66: where a row of the table makes the lamp dark, the duty computed at once is 0, and neither check of the
current has anything to find. -/
theorem dutyAtOnce_dark {s : State} (h : DarkRow s) :
    dutyAtOnce s = s.onLamp fun l => { l with level := l.leastLevel, duty := 0, openTimer := none } := by
  unfold dutyAtOnce checkLampCurrent
  simp only [tableDuty_eq, if_pos h, Nat.min_zero]
  rw [checkShort, if_neg (by simp), checkOpen_frame]
  simp [openSeen, Config.openCheckDuty, State.onLamp]

/-- R58: between two points of a rising curve the duty is interpolated, rounded to the nearest. -/
theorem curveDuty_between {p : Vector Nat 11} (h : CurveRises p) {i f : Nat} (hi : i ≤ 9) (hf : f < 100 ∨ i = 9) :
    curveDuty p (100 * i + f) = p[i] + ((p[i + 1] - p[i]) * f + 50) / 100 := by
  have hrise : p[i] ≤ p[i + 1] := ((curveRises_iff p).1 h).1 i (by omega)
  have hseg : min 9 ((100 * i + f) / 100) = i := by omega
  unfold curveDuty
  simp only [hseg]
  obtain ⟨d, hd⟩ := Nat.exists_eq_add_of_le hrise
  have hnum : ((p[i + 1] : Int) - p[i]) * (((100 * i + f : Nat) : Int) - 100 * (i : Int)) + 50 = ((d * f + 50 : Nat) : Int) := by
    rw [hd]; push_cast; ring
  rw [hnum, hd, Nat.add_sub_cancel_left]
  have hdiv : ((d * f + 50 : Nat) : Int).tdiv 100 = ((d * f + 50) / 100 : Nat) := rfl
  rw [hdiv]
  omega

/-- R58: the same at the upper point of a segment. -/
theorem curveDuty_segment {p : Vector Nat 11} (h : CurveRises p) {i f : Nat} (hi : i ≤ 9) (hf : f ≤ 100) :
    curveDuty p (100 * i + f) = p[i] + ((p[i + 1] - p[i]) * f + 50) / 100 := by
  by_cases hlast : f < 100 ∨ i = 9
  · exact curveDuty_between h hi hlast
  · obtain rfl : f = 100 := by omega
    have hrise : p[i] ≤ p[i + 1] := ((curveRises_iff p).1 h).1 i (by omega)
    rw [show 100 * i + 100 = 100 * (i + 1) + 0 by omega, curveDuty_between h (by omega) (by omega)]
    omega

/-- R74: every point of a rising curve lies at or below 4095. -/
theorem CurveRises.le_top {p : Vector Nat 11} (h : CurveRises p) {i : Nat} (hi : i ≤ 10) : p[i] ≤ 4095 := by
  obtain ⟨h0, h1, h2, h3, h4, h5, h6, h7, h8, h9, ht⟩ := h
  interval_cases i <;> omega

/-- R58, R74: what the interpolated duty of a rising curve keeps of its points. -/
theorem curveDuty_rises {p : Vector Nat 11} (h : CurveRises p) (level : Nat) :
    (∀ i : Fin 11, curveDuty p (100 * i.val) = p[i]) ∧ (level ≤ 1000 → curveDuty p level ≤ 4095) ∧
      (level ≤ 999 → curveDuty p level ≤ curveDuty p (level + 1)) := by
  have rises (i : Nat) (hi : i ≤ 9) : p[i] ≤ p[i + 1] := ((curveRises_iff p).1 h).1 i (by omega)
  refine ⟨fun ⟨i, hi⟩ => ?_, fun hl => ?_, fun hl => ?_⟩
  · rcases Nat.lt_or_ge i 10 with hi9 | hi9
    · exact (curveDuty_segment h (i := i) (f := 0) (by omega) (by omega)).trans (by simp)
    · obtain rfl : i = 10 := by omega
      have hlast : p[9] ≤ p[10] := rises 9 (by omega)
      refine (curveDuty_segment h (i := 9) (f := 100) (by omega) (by omega)).trans ?_
      show p[9] + ((p[10] - p[9]) * 100 + 50) / 100 = p[10]
      omega
  · obtain ⟨i, f, hi, hf, rfl⟩ : ∃ i f, i ≤ 9 ∧ f ≤ 100 ∧ level = 100 * i + f :=
      ⟨min 9 (level / 100), level - 100 * min 9 (level / 100), by omega, by omega, by omega⟩
    rw [curveDuty_segment h hi hf]
    have htop := h.le_top (i := i + 1) (by omega)
    have hmul : (p[i + 1] - p[i]) * f ≤ (p[i + 1] - p[i]) * 100 := Nat.mul_le_mul_left _ hf
    have := rises i hi
    omega
  · obtain ⟨i, f, hi, hf, rfl⟩ : ∃ i f, i ≤ 9 ∧ f ≤ 99 ∧ level = 100 * i + f :=
      ⟨level / 100, level % 100, by omega, by omega, by omega⟩
    rw [Nat.add_assoc, curveDuty_segment h hi (by omega), curveDuty_segment h hi (by omega)]
    have hmul : (p[i + 1] - p[i]) * f ≤ (p[i + 1] - p[i]) * (f + 1) := Nat.mul_le_mul_left _ (Nat.le_succ f)
    omega

/-- R74: the points are 0 to 10. -/
theorem curvePoint_of_fin (i : Fin 11) : curvePoint i.val = some i := by
  obtain ⟨i, hi⟩ := i
  have : (0 : Int) ≤ i ∧ (i : Int) ≤ 10 := by omega
  rw [curvePoint, if_pos this]
  simp [Fin.ofNat, Nat.mod_eq_of_lt hi]

theorem curvePoint_outside {i : Int} (h : i < 0 ∨ 10 < i) : curvePoint i = none := by
  rw [curvePoint, if_neg (by omega)]

/-- Settles O27: a load that keeps the order is a change of the curve with the duty computed at once (R57, R59, R74); the
interpolation between the points of a rising curve does not fall (R58). -/
theorem theCurveKeepsItsOrder : Obligations.TheCurveKeepsItsOrder := by
  refine ⟨fun s i duty h hc => ?_, fun s i duty h hi => ?_, fun p level h => curveDuty_rises h level⟩
  · intro ordered dark
    have order (h0 : 0 ≤ duty) : curveOrder s.lamp.curve i duty.toNat = true ↔ ordered := by
      rw [curveOrder_iff]
      refine and_congr (forall_congr' fun j => imp_congr_right fun _ => ?_)
        (forall_congr' fun j => imp_congr_right fun _ => ?_) <;> omega
    have range : outside 0 4095 duty = true ↔ duty < 0 ∨ 4095 < duty := by simp [outside]
    refine ⟨fun h0 h1 ho => ?_, fun hbad => ?_⟩
    · refine arrives_of_silent (t := s.onLamp _) h ?_ h.2.2.2 h.2.2.1
      have hcurve : curveOrder s.busyLine.lamp.curve i duty.toNat = true := (order h0).2 ho
      show doCurveLoad i.val duty s.busyLine = _
      unfold doCurveLoad
      rw [curvePoint_of_fin]
      dsimp only
      rw [if_neg (by rw [range]; omega), if_neg (by simp [hcurve]), dutyAtOnce_normal (by exact hc)]
      simp only [tableDuty_eq]
      rfl
    · refine arrives_of_reading h ?_
      show doCurveLoad i.val duty s.busyLine = _
      unfold doCurveLoad
      rw [curvePoint_of_fin]
      dsimp only
      split
      · rfl
      next hr =>
        have hno : ¬ ordered := by
          rw [range] at hr
          rcases hbad with hbad | hbad | hbad
          · exact absurd (.inl hbad) hr
          · exact absurd (.inr hbad) hr
          · exact hbad
        have h0 : 0 ≤ duty := by rw [range] at hr; omega
        have hcurve : curveOrder s.busyLine.lamp.curve i duty.toNat = false :=
          Bool.eq_false_iff.2 fun ht => hno ((order h0).1 ht)
        rw [if_pos (by simp [hcurve])]
        rfl
  · refine arrives_of_reading h ?_
    show doCurveLoad i duty s.busyLine = _
    unfold doCurveLoad
    rw [curvePoint_outside hi]
    rfl

end Sys2Proof.Machine

namespace Sys2Proof.Machine

/-! ## The lamp module -/

/-- R76: two changes of one record are one. -/
@[simp] theorem Lamp.changeRecord_changeRecord (pos : LampPos) (f g : LampRecord → LampRecord) (l : Lamp) :
    (l.changeRecord pos f).changeRecord pos g = l.changeRecord pos fun r => g (f r) := by cases pos <;> rfl

/-- R62: the record of a position that was changed. -/
@[simp] theorem Lamp.record_changeRecord (pos : LampPos) (f : LampRecord → LampRecord) (l : Lamp) :
    (l.changeRecord pos f).record pos = f (l.record pos) := by cases pos <;> rfl

@[simp] theorem Lamp.record_changeRecord_other (pos : LampPos) (f : LampRecord → LampRecord) (l : Lamp) :
    (l.changeRecord pos f).record pos.other = l.record pos.other := by cases pos <;> rfl

/-- R93: in ON a relight request begins a rise. -/
theorem relight_on {s : State} (h : s.heat.state = .on) :
    relight s = (s.onHeat fun h => { h with rise := some ⟨0, h.set.warmUp⟩, riseTimer := 0, powerLimit := 0 }).onLamp fun l =>
      { l with pubPower := 0 } := by
  rw [relight, if_pos h]
  rfl

/-- R94: outside ON a relight request changes nothing. -/
theorem relight_off {s : State} (h : s.heat.state ≠ .on) : relight s = s := by
  rw [relight, if_neg h]

@[simp] theorem relight_faults (s : State) : (relight s).faults = s.faults := by
  unfold relight
  split <;> rfl

/-- R65, R68, R202: a record that becomes ACTIVE ends the conditions of LAMP_OPEN and SHIFT_FAIL; no latch changes. -/
theorem makeActive_tells (pos : LampPos) (s : State) :
    Tells [] (relight (s.onLamp (Lamp.changeRecord pos fun r => { r with state := .active }))) (makeActive pos s) ∧
      (makeActive pos s).faults.record .lampOpen = { s.faults.record .lampOpen with present := false } ∧
      (makeActive pos s).faults.record .shiftFail = { s.faults.record .shiftFail with present := false } ∧
      ∀ k, k ≠ .lampOpen → k ≠ .shiftFail → (makeActive pos s).faults.record k = s.faults.record k := by
  unfold makeActive
  dsimp only
  generalize hu : relight _ = u
  have hf : u.faults = s.faults := by rw [← hu]; simp
  obtain ⟨hopen, htells, -⟩ := tellGone_keeps_latch (k := .lampOpen) (by decide) (by decide) u
  obtain ⟨hshift, htells', -⟩ := tellGone_keeps_latch (k := .shiftFail) (by decide) (by decide) (tellGone .lampOpen u)
  refine ⟨htells.trans_quiet htells', ?_, ?_, fun k h1 h2 => ?_⟩
  · rw [tellGone_record (by decide), hopen, hf]
  · rw [hshift, tellGone_record (by decide), hf]
  · rw [tellGone_record h2, tellGone_record h1, hf]

/-- R4: what a telling reports leaves the receive buffer. -/
@[simp] theorem tellGone_buffer (k : FaultKind) (s : State) : (tellGone k s).line.buffer = s.line.buffer := by
  have released (w : String) (u : State) : (releaseLatch k w u).line.buffer = u.line.buffer := by
    unfold releaseLatch
    dsimp only
    split <;> simp [reportFault, State.report, State.emit]
  unfold tellGone
  dsimp only
  split
  · rfl
  · split
    · split <;> simp [evaluateFaultLine, reportFault, State.report]
    · split <;> simp [evaluateFaultLine, reportFault, State.report, released]

@[simp] theorem makeActive_buffer (pos : LampPos) (s : State) : (makeActive pos s).line.buffer = s.line.buffer := by
  have hr (u : State) : (relight u).line = u.line := by
    unfold relight
    split <;> rfl
  simp [makeActive, hr]

/-- R62: with neither condition present, a record that becomes ACTIVE brings the relight request alone. -/
theorem makeActive_of_absent {s : State} (h1 : (s.faults.record .lampOpen).present = false)
    (h2 : (s.faults.record .shiftFail).present = false) (pos : LampPos) :
    makeActive pos s = relight (s.onLamp (Lamp.changeRecord pos fun r => { r with state := .active })) := by
  unfold makeActive
  dsimp only
  rw [tellGone_of_absent (k := .lampOpen) (by simpa using h1), tellGone_of_absent (by simpa using h2)]

/-- R67: a shift that starts makes the lamp dark and moves nothing else. -/
theorem startShift_eq (target : LampPos) (s : State) :
    startShift target s = (s.onLamp fun l => { l.releasePath with
      shift := some ⟨target, 0, true⟩, level := l.leastLevel, duty := 0, openTimer := none }).report .lamp
        [fw "SHIFT", fw target.word] := by
  have level (l : Lamp) : l.releasePath.leastLevel = l.leastLevel := by
    rcases l.releasePath_record with heq | ⟨pos, -, -, heq⟩
    · rw [heq]
    · rw [heq]; cases pos <;> rfl
  have dark : DarkRow (s.onLamp fun l => { l.releasePath with shift := some ⟨target, 0, true⟩ }) := .inr (.inl (by simp))
  unfold startShift
  dsimp only
  rw [dutyAtOnce_dark dark]
  simp only [State.onLamp]
  rw [show Lamp.leastLevel { s.lamp.releasePath with shift := some ⟨target, 0, true⟩ } = s.lamp.releasePath.leastLevel from rfl,
    level]

/-- R62, R67: the release of the path, record by record. -/
theorem Lamp.releasePath_eq {l : Lamp} {pos : LampPos} (h : l.path = some pos) :
    l.releasePath = { l with
      primary := if l.primary.state = .active ∧ pos = .primary then { l.primary with state := .good } else l.primary
      spare := if l.spare.state = .active ∧ pos = .spare then { l.spare with state := .good } else l.spare } := by
  have hr : l.releasePath =
      if (l.record pos).state = .active then l.changeRecord pos fun r => { r with state := .good } else l := by
    simp [Lamp.releasePath, h]
  rw [hr]
  cases pos with
  | primary =>
    by_cases ha : l.primary.state = .active <;> simp [Lamp.record, Lamp.changeRecord, ha]
  | spare =>
    by_cases ha : l.spare.state = .active <;> simp [Lamp.record, Lamp.changeRecord, ha]

/-! ### A new lamp -/

section
variable {s : State} {pos : LampPos}

/-- R76: a new lamp outside the path is GOOD. -/
theorem replaceLamp_outside (h : s.lamp.path ≠ some pos) : replaceLamp pos s =
    (s.onLamp (Lamp.changeRecord pos fun _ => ⟨.good, 0, 0, true⟩)).report .lamp [fw "REPLACED", fw pos.word] := by
  simp [replaceLamp, h]

/-- R76: a new lamp in the path, its record ACTIVE already. -/
theorem replaceLamp_active (h : s.lamp.path = some pos) (ha : (s.lamp.record pos).state = .active) : replaceLamp pos s =
    (s.onLamp (Lamp.changeRecord pos fun _ => ⟨.active, 0, 0, true⟩)).report .lamp [fw "REPLACED", fw pos.word] := by
  simp [replaceLamp, h, ha]

/-- R76: a new lamp in the path becomes ACTIVE. -/
theorem replaceLamp_path (h : s.lamp.path = some pos) (ha : (s.lamp.record pos).state ≠ .active) : replaceLamp pos s =
    (makeActive pos (s.onLamp (Lamp.changeRecord pos fun _ => ⟨.active, 0, 0, true⟩))).report .lamp
      [fw "REPLACED", fw pos.word] := by
  simp [replaceLamp, h, ha]

/-- R62: the record that is made ACTIVE. -/
theorem makeActive_lamp_record (pos : LampPos) (s : State) :
    (makeActive pos s).lamp.record pos = { s.lamp.record pos with state := .active } := by
  rw [(makeActive_tells pos s).1.lamp]
  unfold relight
  split <;> cases pos <;> rfl

/-- R75, R76: LAMPMOD REPLACE is refused while a shift is in progress alone. -/
theorem doLampmodReplace_taken (h : s.lamp.shift = none) : doLampmodReplace pos s =
    (replaceLamp pos s, .accepted "LAMPMOD" [fw "REPLACE", fw pos.word, fw ((replaceLamp pos s).lamp.record pos).state.word]) := by
  simp [doLampmodReplace, h, accept]

/-- R75: what LAMPMOD SHIFT asks of the other lamp. -/
theorem doLampmodShift_unready (hs : s.lamp.shift = none)
    (h : s.lamp.path = none ∨ s.supplyLow = true ∨
      (∃ pos, s.lamp.path = some pos ∧ (s.lamp.record pos.other).state ≠ .good)) :
    doLampmodShift s = refuse .state "LAMPMOD" s := by
  unfold doLampmodShift
  rw [if_neg (by simp [hs])]
  split
  · rfl
  next hlow =>
    split
    · rfl
    next p hp =>
      have hother : (s.lamp.record p.other).state ≠ .good := by
        rcases h with h | h | ⟨q, hq, hg⟩
        · rw [hp] at h; cases h
        · exact absurd h hlow
        · rw [hp] at hq; cases hq; exact hg
      exact if_neg hother
end

/-- Settles O28: a shift starts with the lamp dark (`startShift_eq`), a new lamp in the path becomes ACTIVE
(`makeActive_tells`), and the refusals leave the state as it is. -/
theorem lampmodActs : Obligations.LampmodActs := by
  refine ⟨fun s h => ⟨fun pos hp hs hl hg hc => ?_, fun hs => ⟨?_, fun pos => ?_, fun pos hg => ?_⟩, fun hs hno => ?_⟩,
    fun s h => ⟨fun on => ?_, fun hs => ⟨fun pos hp => ?_, fun pos hp hq => ?_, fun pos hg => ?_⟩, fun pos hg => ?_⟩,
    fun s pos h hs hp ha hon => ?_⟩
  · refine arrives_of_effect h ?_ (by exact h.2.2.2.2) (by simpa [State.report, State.busyLine] using h.2.2.1)
    show doLampmodShift s.busyLine = _
    unfold doLampmodShift
    rw [if_neg (by simp [State.busyLine, hs]), if_neg (by exact ne_true_of_eq_false hl)]
    have hp' : s.busyLine.lamp.path = some pos := hp
    split
    next hn => rw [hp'] at hn; cases hn
    next q hq =>
      rw [hp'] at hq
      cases hq
      rw [if_pos (by exact hg), startShift_eq]
      simp only [State.onLamp]
      rw [Lamp.releasePath_eq hp']
      rfl
  · exact arrives_of_reading h (by simp [handle, doLampmodShift, State.busyLine, Option.isSome_iff_ne_none.2 hs, refuse])
  · exact arrives_of_reading h (by simp [handle, doLampmodReplace, State.busyLine, Option.isSome_iff_ne_none.2 hs, refuse])
  · exact arrives_of_reading h
      (by simp [handle, doLampmodRemove, State.busyLine, Option.isSome_iff_ne_none.2 hs, hg, refuse])
  · exact arrives_of_reading h (doLampmodShift_unready (s := s.busyLine) hs hno)
  · exact arrives_of_silent (t := s.onLamp _) h rfl h.2.2.2 h.2.2.1
  · refine arrives_of_effect h ?_ (by exact h.2.2.2.2) (by simpa [State.report, State.busyLine] using h.2.2.1)
    show doLampmodReplace pos s.busyLine = _
    rw [doLampmodReplace_taken (by exact hs), replaceLamp_outside (by exact hp)]
    cases pos <;> rfl
  · refine arrives_of_effect h ?_ (by exact h.2.2.2.2) (by simpa [State.report, State.busyLine] using h.2.2.1)
    show doLampmodReplace pos s.busyLine = _
    have heq : replaceLamp pos s.busyLine =
        (s.busyLine.onLamp (Lamp.changeRecord pos fun _ => ⟨.active, 0, 0, true⟩)).report .lamp
          [fw "REPLACED", fw pos.word] := by
      by_cases ha : (s.lamp.record pos).state = .active
      · exact replaceLamp_active hp ha
      · obtain ⟨hoff, h1, h2⟩ := hq.resolve_left ha
        rw [replaceLamp_path (by exact hp) (by exact ha), makeActive_of_absent (by exact h1) (by exact h2),
          relight_off (by exact hoff)]
        simp [State.onLamp]
    rw [doLampmodReplace_taken (by exact hs), heq]
    cases pos <;> rfl
  · refine arrives_of_effect h ?_ (by exact h.2.2.2.2) (by simpa [State.report, State.busyLine] using h.2.2.1)
    show doLampmodRemove pos s.busyLine = _
    unfold doLampmodRemove
    rw [if_neg (by simpa [State.busyLine] using hg), if_neg (by simp [State.busyLine, hs])]
    rfl
  · exact arrives_of_reading h (by simp [handle, doLampmodRemove, State.busyLine, hg, refuse])
  · have hpath := replaceLamp_path (s := s.busyLine) hp ha
    obtain ⟨htells, hopen, hshift, hother⟩ :=
      makeActive_tells pos (s.busyLine.onLamp (Lamp.changeRecord pos fun _ => ⟨.active, 0, 0, true⟩))
    have hrecord := makeActive_lamp_record pos (s.busyLine.onLamp (Lamp.changeRecord pos fun _ => ⟨.active, 0, 0, true⟩))
    rw [relight_on (by exact hon)] at htells
    have hword : ((replaceLamp pos s.busyLine).lamp.record pos).state = .active := by
      rw [hpath, State.report_lamp, hrecord]
    have hsig : (replaceLamp pos s.busyLine).signals = [] := by
      rw [hpath]; exact htells.signals.trans ((List.append_nil _).trans h.2.2.2.2)
    have hexec := arrives_of_effect (r := .lampmodReplace pos) (f := replaceLamp pos) h
      ((doLampmodReplace_taken (s := s.busyLine) hs).trans (by rw [hword])) hsig
      (by rw [hpath]; simpa [State.busyLine, State.report] using h.2.2.1)
    have hfaults : (replaceLamp pos s.busyLine).faults =
        (makeActive pos (s.busyLine.onLamp (Lamp.changeRecord pos fun _ => ⟨.active, 0, 0, true⟩))).faults := by
      rw [hpath]; rfl
    refine ⟨fun h1 h2 => ?_, ⟨_, hexec, ?_, ?_, ?_, fun k => ?_, fun k h1 h2 => ?_⟩⟩
    · rw [makeActive_of_absent (by exact h1) (by exact h2), relight_on (by exact hon)] at hpath
      refine hexec.trans ?_
      simp only [State.takes]
      rw [hpath]
      cases pos <;> rfl
    · simp only [State.takes]
      rw [hpath]
      unfold Tells at htells
      rw [htells, List.append_nil]
      cases pos <;> rfl
    · exact congrArg FaultRecord.present ((congrArg (·.record .lampOpen) hfaults).trans hopen)
    · exact congrArg FaultRecord.present ((congrArg (·.record .shiftFail) hfaults).trans hshift)
    · have hk : (replaceLamp pos s.busyLine).faults.record k = _ := congrArg (·.record k) hfaults
      show ((replaceLamp pos s.busyLine).faults.record k).latched = _
      rw [hk]
      by_cases h1 : k = .lampOpen
      · subst h1; exact (congrArg FaultRecord.latched hopen).trans rfl
      · by_cases h2 : k = .shiftFail
        · subst h2; exact (congrArg FaultRecord.latched hshift).trans rfl
        · exact congrArg FaultRecord.latched (hother k h1 h2)
    · exact (congrArg (·.record k) hfaults).trans (hother k h1 h2)

end Sys2Proof.Machine

namespace Sys2Proof.Machine

/-! ## The lamp update

An update is the ramp's advance (`advanceRamp`) and what follows it (`afterRamp`). With a normal lamp current the second part
changes the lamp controller alone, but for the report of a dwell cap that comes into force. -/

/-- R53: what follows the ramp's advance in an update. -/
def afterRamp (s : State) : State :=
  (advanceDwell (recomputeAtUpdate (s.onLamp fun l => l.advanceGuard.adopt))).onLamp Lamp.advanceBurn

theorem runUpdate_eq (s : State) : runUpdate s = afterRamp (advanceRamp (s.onLamp fun l => { l with updateTimer := 0 })) := rfl

/-! ### The guard -/

/-- R56: the guard after an update. -/
def Lamp.guardNext (l : Lamp) : Nat :=
  if l.guardOn = false then 1000 else match l.recovery with
    | none => l.guard
    | some e => if 150 ≤ e + 10 then 1000 else 1000 * (e + 10) / 150

/-- R56: the recovery after an update. -/
def Lamp.recoveryNext (l : Lamp) : Option Nat :=
  if l.guardOn = false then none else match l.recovery with
    | none => none
    | some e => if 150 ≤ e + 10 then none else some (e + 10)

theorem Lamp.advanceGuard_eq (l : Lamp) : l.advanceGuard = { l with guard := l.guardNext, recovery := l.recoveryNext } := by
  unfold Lamp.advanceGuard
  split
  next hg =>
    have hg : l.guardOn = false := by simpa using hg
    simp only [Lamp.guardNext, Lamp.recoveryNext, if_pos hg]
  next hg =>
    split
    next hr =>
      have hguard : l.guardNext = l.guard := by simp_all [Lamp.guardNext]
      have hrec : l.recoveryNext = l.recovery := by simp_all [Lamp.recoveryNext]
      rw [hguard, hrec]
    next e hr =>
      have hg : ¬ l.guardOn = false := by simpa using hg
      by_cases he : 150 ≤ e + 10
      · refine (if_pos (show Config.guardRecovery ≤ e + Config.lampUpdate from he)).trans ?_
        simp only [Lamp.guardNext, Lamp.recoveryNext, if_neg hg, hr, if_pos he]
      · refine (if_neg (show ¬ Config.guardRecovery ≤ e + Config.lampUpdate from he)).trans ?_
        simp only [Lamp.guardNext, Lamp.recoveryNext, if_neg hg, hr, if_neg he]
        rfl

/-! ### The ramp -/

/-- R53: the value of the ramp 10 ms on. -/
def Lamp.rampNext (l : Lamp) : Nat :=
  if l.ramp.active
  then (l.ramp.start + (((l.ramp.target : Int) - l.ramp.start) * (l.ramp.elapsed + 10 : Nat)).tdiv l.ramp.duration).toNat
  else l.value

/-- R53: a ramp short of its duration, or none. -/
theorem advanceRamp_goes {s : State} (h : s.lamp.ramp.active = true → s.lamp.ramp.elapsed + 10 < s.lamp.ramp.duration) :
    advanceRamp s = s.onLamp fun l => { l with
      value := l.rampNext
      ramp := { l.ramp with elapsed := if l.ramp.active then l.ramp.elapsed + 10 else l.ramp.elapsed } } := by
  unfold advanceRamp
  by_cases ha : s.lamp.ramp.active = true
  · have hv : s.lamp.rampNext = rampValue s.lamp.ramp.start s.lamp.ramp.target (s.lamp.ramp.elapsed + 10) s.lamp.ramp.duration :=
      if_pos ha
    dsimp only
    rw [if_neg (by simp [ha]), if_neg (by simpa [Config.lampUpdate] using h ha)]
    simp only [State.onLamp, hv, if_pos ha]
    rfl
  · have hv : s.lamp.rampNext = s.lamp.value := if_neg ha
    dsimp only
    rw [if_pos (by simpa using ha)]
    simp only [State.onLamp, hv, if_neg ha]

/-- R53: a ramp that reaches its duration: its target, its report and its telling. -/
theorem advanceRamp_completes {s : State} (ha : s.lamp.ramp.active = true)
    (h : s.lamp.ramp.duration ≤ s.lamp.ramp.elapsed + 10) :
    advanceRamp s = ((s.onLamp fun l => { l with
      value := l.ramp.target, ramp := { l.ramp with elapsed := l.ramp.elapsed + 10, active := false } }).report .lamp
        [fw "DONE", fi s.lamp.ramp.target]).emit (.rampDone s.lamp.ramp.target s.lamp.ramp.origin) := by
  unfold advanceRamp
  dsimp only
  rw [if_neg (by simp [ha]), if_pos (by exact h)]
  simp [rampCompletes, State.onLamp, Config.lampUpdate]

/-! ### Level and duty -/

/-- R57, R59: with a normal current the recomputation changes the level, the duty and the open timer. -/
theorem recomputeAtUpdate_normal {s : State} (h : s.pins.lampCurrent = .normal) :
    recomputeAtUpdate s = s.onLamp fun l => { l with
      level := l.leastLevel, duty := tableDuty s l.leastLevel, openTimer := none } := by
  unfold recomputeAtUpdate checkLampCurrent
  dsimp only
  rw [checkShort_normal (by exact h), checkOpen_frame]
  simp [openSeen, h, State.onLamp]
  rfl

/-- R59: the duty of a level under the keep-warm setting that an update adopts. -/
def dutyFor (s : State) (level : Nat) : Nat :=
  if DarkRow s then 0 else if s.heat.state = .on then max (curveDuty s.lamp.curve level) s.lamp.keepWarm
    else curveDuty s.lamp.curve level

/-- R56, R57: the level that an update delivers. -/
def Lamp.levelNext (l : Lamp) (cap : Nat) : Nat :=
  min l.value (min l.pubTherm (min l.pubStall (min cap (min l.guardNext l.pubPower))))

/-- R55 to R59: the lamp controller once its level and duty are computed, before the dwell timer and the burn time. -/
def State.computedLamp (s : State) (cap : Nat) : Lamp :=
  { s.lamp with
    guard := s.lamp.guardNext, recovery := s.lamp.recoveryNext, therm := s.lamp.pubTherm, stall := s.lamp.pubStall
    power := s.lamp.pubPower, keepWarmNow := s.lamp.keepWarm, guardNow := s.lamp.guardOn, dwellCap := cap
    level := s.lamp.levelNext cap, duty := dutyFor s (s.lamp.levelNext cap), openTimer := none }

theorem recompute_adopted {s : State} (h : s.pins.lampCurrent = .normal) :
    recomputeAtUpdate (s.onLamp fun l => l.advanceGuard.adopt) = { s with lamp := s.computedLamp s.lamp.dwellCap } := by
  rw [recomputeAtUpdate_normal (by exact h)]
  simp only [tableDuty_eq, Lamp.advanceGuard_eq]
  rfl

/-- R60: the dwell timer after an update with a level and a duty. -/
def State.dwellNext (s : State) (cap : Nat) : Nat :=
  if 800 < s.lamp.levelNext cap ∧ s.changer.occupancy = .slide ∧ 0 < dutyFor s (s.lamp.levelNext cap) then s.lamp.dwell + 10
  else s.lamp.dwell

/-- R60: the dwell timer's part of an update. -/
theorem advanceDwell_timer (s : State) : advanceDwell s =
    let u := s.onLamp fun l => { l with
      dwell := if 800 < l.level ∧ s.changer.occupancy = .slide ∧ 0 < l.duty then l.dwell + 10 else l.dwell }
    if u.lamp.dwellCap = 1000 ∧ u.lamp.dwellLimit * 1000 ≤ u.lamp.dwell then
      recomputeAtUpdate ((u.onLamp fun l => { l with dwellCap := 600 }).report .lamp [fw "DWELL", fw "ON"])
    else u := by
  unfold advanceDwell
  dsimp only
  have hruns : (decide (Config.dwellLevel < s.lamp.level) && s.changer.occupancy == .slide && decide (0 < s.lamp.duty)) = true ↔
      800 < s.lamp.level ∧ s.changer.occupancy = .slide ∧ 0 < s.lamp.duty := by
    simp only [Bool.and_eq_true, decide_eq_true_eq, beq_iff_eq, and_assoc]
    rfl
  by_cases hc : 800 < s.lamp.level ∧ s.changer.occupancy = .slide ∧ 0 < s.lamp.duty
  · rw [if_pos (hruns.2 hc)]
    simp only [State.onLamp, if_pos hc]
    rfl
  · rw [if_neg (mt hruns.1 hc)]
    simp only [State.onLamp, if_neg hc]
    rfl

/-! ### Burn time -/

/-- R63: burn time changes the records alone. -/
theorem Lamp.advanceBurn_eq (l : Lamp) :
    l.advanceBurn = { l with primary := l.advanceBurn.primary, spare := l.advanceBurn.spare } := by
  unfold Lamp.advanceBurn
  split
  next pos _ =>
    split
    · cases pos <;> rfl
    · rfl
  · rfl

/-- R63: at or below the keep-warm duty no burn time passes. -/
theorem Lamp.advanceBurn_stands {l : Lamp} (h : l.duty ≤ l.keepWarmNow) : l.advanceBurn = l := by
  unfold Lamp.advanceBurn
  split
  · exact if_neg (Nat.not_lt.2 h)
  · rfl

theorem LampRecord.burnOn_eq (r : LampRecord) : r.burnOn =
    if 1000 ≤ r.part + 10 then { r with part := 0, burn := min 4294967295 (r.burn + 1) } else { r with part := r.part + 10 } := by
  unfold LampRecord.burnOn satInc Config.lampUpdate Config.maxBurn
  rfl

/-- R63: above the keep-warm duty the ACTIVE record burns, the PRIMARY one before the other. -/
theorem Lamp.advanceBurn_burns {l : Lamp} (h : l.keepWarmNow < l.duty) (pos : LampPos) :
    l.advanceBurn.record pos =
      if (l.record pos).state = .active ∧ (pos = .primary ∨ l.primary.state ≠ .active) then
        (if 1000 ≤ (l.record pos).part + 10
         then { l.record pos with part := 0, burn := min 4294967295 ((l.record pos).burn + 1) }
         else { l.record pos with part := (l.record pos).part + 10 })
      else l.record pos := by
  rw [← LampRecord.burnOn_eq]
  unfold Lamp.advanceBurn Lamp.activePos
  by_cases hp : l.primary.state = .active
  · simp only [hp, if_true, if_pos h]
    cases pos <;> simp [Lamp.changeRecord, Lamp.record, hp]
  · by_cases hs : l.spare.state = .active
    · simp only [hp, hs, if_true, if_false, if_pos h]
      cases pos <;> simp [Lamp.changeRecord, Lamp.record, hp, hs]
    · simp only [hp, hs, if_false]
      cases pos <;> simp [Lamp.record, hp, hs]

/-- R63: burn time changes no record's state. -/
theorem Lamp.advanceBurn_state (l : Lamp) (pos : LampPos) : (l.advanceBurn.record pos).state = (l.record pos).state := by
  have hv := l.advanceBurn_view
  cases pos
  · exact congrArg LampView.primary hv
  · exact congrArg LampView.spare hv

/-- R63: what ten milliseconds at a duty make of the two records. -/
def Lamp.Burned (l : Lamp) (duty : Nat) (p q : LampRecord) : Prop :=
  (duty ≤ l.keepWarm → p = l.primary ∧ q = l.spare) ∧
  (l.keepWarm < duty → ∀ pos, Lamp.record { l with primary := p, spare := q } pos =
    if (l.record pos).state = .active ∧ (pos = .primary ∨ l.primary.state ≠ .active) then
      (if 1000 ≤ (l.record pos).part + 10
       then { l.record pos with part := 0, burn := min 4294967295 ((l.record pos).burn + 1) }
       else { l.record pos with part := (l.record pos).part + 10 })
    else l.record pos) ∧
  ∀ pos, (Lamp.record { l with primary := p, spare := q } pos).state = (l.record pos).state

theorem Lamp.advanceBurn_burned {l : Lamp} (hk : l.keepWarmNow = l.keepWarm) :
    l.Burned l.duty l.advanceBurn.primary l.advanceBurn.spare := by
  unfold Lamp.Burned
  rw [← Lamp.advanceBurn_eq, ← hk]
  refine ⟨fun h => ?_, Lamp.advanceBurn_burns, l.advanceBurn_state⟩
  rw [Lamp.advanceBurn_stands h]
  exact ⟨rfl, rfl⟩

/-- R63: the records burn alike under two controllers that have the same records and keep-warm setting. -/
theorem Lamp.Burned.of_eq {l l' : Lamp} {duty duty' : Nat} {p q : LampRecord} (h : l.Burned duty p q)
    (hp : l'.primary = l.primary) (hs : l'.spare = l.spare) (hk : l'.keepWarm = l.keepWarm) (hd : duty' = duty) :
    l'.Burned duty' p q := by
  obtain ⟨h1, h2, h3⟩ := h
  have hr (pos : LampPos) : l'.record pos = l.record pos := by cases pos <;> assumption
  simp only [Lamp.Burned, hr, hp, hs, hk, hd]
  exact ⟨h1, h2, h3⟩

/-- R57 to R60, R63: an update in which no dwell cap comes into force. -/
theorem afterRamp_uncapped {s : State} (h : s.pins.lampCurrent = .normal)
    (hd : s.lamp.dwellCap ≠ 1000 ∨ s.lamp.dwell + 10 < s.lamp.dwellLimit * 1000) :
    ∃ p q, afterRamp s = { s with lamp := { s.computedLamp s.lamp.dwellCap with
        dwell := s.dwellNext s.lamp.dwellCap, primary := p, spare := q } } ∧
      s.lamp.Burned (dutyFor s (s.lamp.levelNext s.lamp.dwellCap)) p q := by
  have hdwell : s.dwellNext s.lamp.dwellCap ≤ s.lamp.dwell + 10 := by unfold State.dwellNext; split <;> omega
  have hafter : afterRamp s = { s with
      lamp := Lamp.advanceBurn { s.computedLamp s.lamp.dwellCap with dwell := s.dwellNext s.lamp.dwellCap } } := by
    unfold afterRamp
    rw [recompute_adopted h, advanceDwell_timer]
    dsimp only
    rw [if_neg]
    · rfl
    · rintro ⟨h1, h2⟩
      have h1 : s.lamp.dwellCap = 1000 := h1
      have h2 : s.lamp.dwellLimit * 1000 ≤ s.dwellNext s.lamp.dwellCap := h2
      rcases hd with hd | hd
      · exact hd h1
      · omega
  rw [Lamp.advanceBurn_eq] at hafter
  exact ⟨_, _, hafter, (Lamp.advanceBurn_burned rfl).of_eq rfl rfl rfl rfl⟩

/-- R57 to R60: the update that brings the dwell cap into force. -/
theorem afterRamp_capped {s : State} (h : s.pins.lampCurrent = .normal) (hc : s.lamp.dwellCap = 1000)
    (hd : s.lamp.dwellLimit * 1000 ≤ s.dwellNext 1000) :
    ∃ p q, afterRamp s = ({ s with lamp := { s.computedLamp 600 with
        dwell := s.dwellNext 1000, primary := p, spare := q } } : State).report .lamp [fw "DWELL", fw "ON"] ∧
      s.lamp.Burned (dutyFor s (s.lamp.levelNext 600)) p q := by
  have hafter : afterRamp s = ({ s with
      lamp := Lamp.advanceBurn { s.computedLamp 600 with dwell := s.dwellNext 1000 } } : State).report .lamp
        [fw "DWELL", fw "ON"] := by
    unfold afterRamp
    rw [recompute_adopted h, advanceDwell_timer, hc]
    dsimp only
    rw [if_pos ⟨rfl, hd⟩, recomputeAtUpdate_normal (by exact h)]
    simp only [tableDuty_eq]
    rfl
  rw [Lamp.advanceBurn_eq] at hafter
  exact ⟨_, _, hafter, (Lamp.advanceBurn_burned rfl).of_eq rfl rfl rfl rfl⟩

/-- R60: a cap of 600 lowers a level that no cap lowered. -/
theorem Lamp.levelNext_capped (l : Lamp) : l.levelNext 600 = min (l.levelNext 1000) 600 := by
  unfold Lamp.levelNext
  omega

end Sys2Proof.Machine

namespace Sys2Proof.Machine

/-- R53: an update that tells no other block anything. -/
theorem lampUpdate_quiet {s t : State} (h : runUpdate s = t) (ht : t.signals = []) : exec .lampUpdate s = .next t := by
  have hq : (runUpdate s).signals = [] := by rw [h]; exact ht
  exact (happens_of_quiet hq).trans (by rw [h])

/-- R53: the lamp controller once its ramp has advanced, short of its end. -/
def Lamp.ramped (l : Lamp) : Lamp :=
  { l with
    updateTimer := 0, value := l.rampNext
    ramp := { l.ramp with elapsed := if l.ramp.active then l.ramp.elapsed + 10 else l.ramp.elapsed } }

/-- R53: the lamp controller once its ramp has reached its end. -/
def Lamp.rampEnded (l : Lamp) : Lamp :=
  { l with
    updateTimer := 0, value := l.ramp.target, ramp := { l.ramp with elapsed := l.ramp.elapsed + 10, active := false } }

theorem runUpdate_goes {s : State} (h : s.lamp.ramp.active = true → s.lamp.ramp.elapsed + 10 < s.lamp.ramp.duration) :
    runUpdate s = afterRamp { s with lamp := s.lamp.ramped } := by
  rw [runUpdate_eq, advanceRamp_goes (by exact h)]
  rfl

theorem runUpdate_completes {s : State} (ha : s.lamp.ramp.active = true)
    (h : s.lamp.ramp.duration ≤ s.lamp.ramp.elapsed + 10) :
    runUpdate s = afterRamp ((({ s with lamp := s.lamp.rampEnded } : State).report .lamp
      [fw "DONE", fi s.lamp.ramp.target]).emit (.rampDone s.lamp.ramp.target s.lamp.ramp.origin)) := by
  rw [runUpdate_eq, advanceRamp_completes (by exact ha) (by exact h)]
  rfl

/-- Settles O29: an update short of the ramp's end is `afterRamp_uncapped` or `afterRamp_capped` after it, and its burn time is
that of `Lamp.advanceBurn` (R63). -/
theorem anUpdateComputesTheDuty : Obligations.AnUpdateComputesTheDuty := by
  refine ⟨fun s hs hc hd hr => ?_, fun s hs hc hcap hr => ?_⟩
  · intro value guard level dark
    obtain ⟨p, q, hafter, hstands, hburns, hstate⟩ := afterRamp_uncapped (s := { s with lamp := s.lamp.ramped }) hc hd
    have hexec := lampUpdate_quiet ((runUpdate_goes hr).trans hafter) hs.2
    refine ⟨_, hexec, rfl, rfl, rfl, rfl, hstands, fun h pos => ?_, fun pos => ?_⟩
    · exact Eq.trans (by cases pos <;> rfl) ((hburns h pos).trans (by cases pos <;> rfl))
    · exact Eq.trans (by cases pos <;> rfl) ((hstate pos).trans (by cases pos <;> rfl))
  · intro value guard uncapped level dark duty dwell hd
    have hlevel : s.lamp.ramped.levelNext 600 = level := Lamp.levelNext_capped _
    obtain ⟨p, q, hafter, hburned⟩ := afterRamp_capped (s := { s with lamp := s.lamp.ramped }) hc hcap hd
    unfold State.computedLamp at hafter
    rw [hlevel] at hafter hburned
    obtain ⟨hstands, -, hstate⟩ := hburned
    have hexec := lampUpdate_quiet ((runUpdate_goes hr).trans hafter) hs.2
    refine ⟨_, hexec, rfl, rfl, hstands, fun pos => ?_⟩
    exact Eq.trans (by cases pos <;> rfl) ((hstate pos).trans (by cases pos <;> rfl))

end Sys2Proof.Machine

namespace Sys2Proof.Machine

/-! ## The end of a lamp ramp -/

/-- R53: the show engine takes no notice of a ramp that its step does not await. -/
theorem engineSeesRamp_unawaited {s : State} {origin : Option RampOrigin}
    (h : origin ≠ some .show ∨ ∀ x, s.engine.execution = some x → x.rampAwaited = false) : engineSeesRamp origin s = s := by
  unfold engineSeesRamp
  split
  · rfl
  next x hx => exact if_pos (h.imp_right fun h => h x hx)

/-! ### What an update leaves, whatever the lamp current

A lamp current above the short threshold ends an update with the latching of LAMP_SHORT, of which the show engine is told. -/

/-- A telling that a cause of hold enters. -/
def Signal.Causal (sig : Signal) : Prop := ∃ k byItself, sig = .causeIn k byItself

/-- `t` differs from `s` in the lamp controller, apart from its ramp, in the fault list and the line, and in what is told of
causes of hold. -/
def Shines (s t : State) : Prop :=
  (∃ sigs : List Signal, t = { s with lamp := t.lamp, faults := t.faults, line := t.line, signals := s.signals ++ sigs } ∧
    ∀ sig ∈ sigs, sig.Causal) ∧
  t.lamp.value = s.lamp.value ∧ t.lamp.ramp = s.lamp.ramp

theorem Shines.trans {s t u : State} (h : Shines s t) (h' : Shines t u) : Shines s u := by
  obtain ⟨⟨a, ha, hac⟩, hv, hr⟩ := h
  obtain ⟨⟨b, hb, hbc⟩, hv', hr'⟩ := h'
  refine ⟨⟨a ++ b, ?_, fun sig hsig => ?_⟩, hv'.trans hv, hr'.trans hr⟩
  · rw [ha] at hb
    rw [hb]
    simp
  · exact (List.mem_append.1 hsig).elim (hac sig) (hbc sig)

theorem Shines.onLamp {f : Lamp → Lamp} (hv : ∀ l, (f l).value = l.value) (hr : ∀ l, (f l).ramp = l.ramp) (s : State) :
    Shines s (s.onLamp f) := ⟨⟨[], by simp [State.onLamp], by simp⟩, hv _, hr _⟩

theorem Shines.report (s : State) (cls : ReportClass) (fields : List Field) : Shines s (s.report cls fields) :=
  ⟨⟨[], by simp [State.report, State.onLine], by simp⟩, rfl, rfl⟩

/-- R178, R201: an occurrence tells the show engine of a cause, or nothing. -/
theorem Shines.tellPresent (k : FaultKind) (detail : Option FaultDetail) (s : State) : Shines s (tellPresent k detail s) := by
  have told {sigs : List Signal} (h : Tells sigs s (Machine.tellPresent k detail s)) (hc : ∀ sig ∈ sigs, sig.Causal) :
      Shines s (Machine.tellPresent k detail s) :=
    ⟨⟨sigs, by conv_lhs => rw [h]
               rw [h.lamp], hc⟩, by rw [h.lamp], by rw [h.lamp]⟩
  by_cases hm : (s.faults.record k).mode = .off
  · have hq : Tells [] s (Machine.tellPresent k detail s) := by
      unfold Machine.tellPresent Tells
      dsimp only
      rw [onFaults_change_record, if_pos hm]
      simp [evaluateFaultLine, State.onFaults]
    exact told hq (by simp)
  · by_cases hl : latchesAtOnce k (s.faults.record k).mode = false ∨ (s.faults.record k).latched = true
    · exact told (tellPresent_quiet detail hm hl) (by simp)
    · rw [not_or, Bool.not_eq_false, Bool.not_eq_true] at hl
      refine told (tellPresent_latches detail hm hl.1 hl.2) fun sig hsig => ?_
      unfold latchTelling at hsig
      cases hk : causeOf k with
      | none => simp [hk] at hsig
      | some c =>
        rw [hk] at hsig
        exact ⟨_, _, List.mem_singleton.1 hsig⟩

theorem Shines.checkLampCurrent (s : State) : Shines s (checkLampCurrent s) := by
  have hshort : Shines s (checkShort s) := by
    unfold checkShort
    split
    · exact ((Shines.onLamp (by simp) (by simp) s).trans (Shines.tellPresent _ _ _)).trans (Shines.report _ _ _)
    · exact ⟨⟨[], by simp, by simp⟩, rfl, rfl⟩
  rw [Machine.checkLampCurrent, checkOpen_frame]
  exact hshort.trans (Shines.onLamp (by simp) (by simp) _)

theorem Shines.recomputeAtUpdate (s : State) : Shines s (recomputeAtUpdate s) :=
  ((Shines.onLamp (f := fun l => { l with level := l.leastLevel }) (by simp) (by simp) s).trans
    (Shines.onLamp (by simp) (by simp) _)).trans (Shines.checkLampCurrent _)

theorem Shines.advanceDwell (s : State) : Shines s (advanceDwell s) := by
  have ht : Shines s (s.onLamp fun l => { l with
      dwell := if 800 < l.level ∧ s.changer.occupancy = .slide ∧ 0 < l.duty then l.dwell + 10 else l.dwell }) :=
    Shines.onLamp (by simp) (by simp) s
  rw [advanceDwell_timer]
  dsimp only
  split
  · exact ((ht.trans (Shines.onLamp (by simp) (by simp) _)).trans (Shines.report _ _ _)).trans (Shines.recomputeAtUpdate _)
  · exact ht

theorem Shines.afterRamp (s : State) : Shines s (afterRamp s) := by
  refine ((Shines.onLamp ?_ ?_ s).trans (Shines.recomputeAtUpdate _) |>.trans (Shines.advanceDwell _)).trans
    (Shines.onLamp ?_ ?_ _)
  · exact fun l => by rw [Lamp.advanceGuard_eq]; rfl
  · exact fun l => by rw [Lamp.advanceGuard_eq]; rfl
  · exact fun l => by rw [Lamp.advanceBurn_eq]
  · exact fun l => by rw [Lamp.advanceBurn_eq]

/-- R178: outside a show, causes that enter and ramps that end change the cause set alone. -/
theorem drainAll_of_causes {s : State} (hx : s.engine.execution = none) (hr : s.engine.state ≠ .running)
    (hh : s.engine.state ≠ .held) (hs : ∀ sig ∈ s.signals, sig.Causal ∨ ∃ level origin, sig = .rampDone level origin)
    (n : Nat) : ∃ e l, drainAll n s = { s with engine := e, signals := l } := by
  induction n generalizing s with
  | zero => exact ⟨_, _, rfl⟩
  | succ n ih =>
    rw [drainAll]
    split
    · exact ⟨_, _, rfl⟩
    next sig rest hsig =>
      rw [hsig] at hs
      have hreceive : ∃ cs, receive sig { s with signals := [] } = { s with engine := { s.engine with causes := cs }, signals := [] } := by
        rcases hs sig (by simp) with ⟨k, byItself, rfl⟩ | ⟨level, origin, rfl⟩
        · cases hk : causeOf k with
          | none => exact ⟨s.engine.causes, by simp [receive, causeEnters, hk]⟩
          | some c => exact ⟨_, causeEnters_outside_show (s := { s with signals := [] }) byItself hk hr hh⟩
        · exact ⟨s.engine.causes, engineSeesRamp_unawaited (s := { s with signals := [] }) (.inr (by simp [hx]))⟩
      obtain ⟨cs, hcs⟩ := hreceive
      dsimp only
      rw [hcs]
      obtain ⟨e, l, he⟩ := ih (s := { s with engine := { s.engine with causes := cs }, signals := [] ++ rest }) hx hr hh
        fun sig' hmem => hs sig' (List.mem_cons_of_mem _ hmem)
      exact ⟨e, l, he⟩

/-- R164: outside a step of the show, the show is neither RUNNING nor HELD. -/
theorem ShowOk.outside {e : Engine} (h : ShowOk e) (hx : e.execution = none) : e.state ≠ .running ∧ e.state ≠ .held := by
  obtain ⟨-, -, hbusy, -⟩ := h
  have hn : ¬ e.state.inShow = true := fun hb => by simpa [hx] using hbusy.2 hb
  exact ⟨fun hs => hn (by simp [ShowState.inShow, hs]), fun hs => hn (by simp [ShowState.inShow, hs])⟩

/-- R53: a ramp's end outside a step of the show, whatever the lamp current. -/
theorem ramp_ends_outside_show {s : State} (hs : Between s) (ha : s.lamp.ramp.active = true)
    (hd : s.lamp.ramp.duration ≤ s.lamp.ramp.elapsed + 10) (hx : s.engine.execution = none) (ho : ShowOk s.engine) :
    ∃ t, exec .lampUpdate s = .next t ∧ t.lamp.value = s.lamp.ramp.target ∧
      t.lamp.ramp = { s.lamp.ramp with elapsed := s.lamp.ramp.elapsed + 10, active := false } ∧
      t.changer = s.changer ∧ t.heat = s.heat ∧ t.tape = s.tape ∧ t.cue = s.cue ∧ t.keys = s.keys ∧ t.pins = s.pins := by
  obtain ⟨hr, hh⟩ := ho.outside hx
  have hrun := runUpdate_completes ha hd
  generalize hu : State.emit _ _ = u at hrun
  obtain ⟨⟨sigs, heq, hcausal⟩, hvalue, hramp⟩ := Shines.afterRamp u
  rw [← hrun] at heq hvalue hramp
  have hsig : (runUpdate s).signals = .rampDone s.lamp.ramp.target s.lamp.ramp.origin :: sigs := by
    rw [heq, ← hu]
    simp [State.emit, hs.2]
  obtain ⟨e, l, hdrain⟩ := drainAll_of_causes (s := runUpdate s) (by rw [heq, ← hu]; exact hx) (by rw [heq, ← hu]; exact hr)
    (by rw [heq, ← hu]; exact hh) (fun sig hmem => by
      rw [hsig, List.mem_cons] at hmem
      exact hmem.elim (fun h => .inr ⟨_, _, h⟩) fun h => .inl (hcausal sig h)) 1000
  have hexec : exec .lampUpdate s = .next { drainAll 1000 (runUpdate s) with signals := [] } := rfl
  rw [hdrain] at hexec
  refine ⟨_, hexec, hvalue.trans (by rw [← hu]; rfl), hramp.trans (by rw [← hu]; rfl), ?_⟩
  dsimp only
  rw [heq, ← hu]
  exact ⟨rfl, rfl, rfl, rfl, rfl, rfl⟩

/-- R53 to R63: a ramp's end that no step of the show awaits, with a normal lamp current. -/
theorem ramp_ends_unawaited {s : State} (hs : Between s) (hc : s.pins.lampCurrent = .normal)
    (hd : s.lamp.dwellCap ≠ 1000 ∨ s.lamp.dwell + 10 < s.lamp.dwellLimit * 1000) (ha : s.lamp.ramp.active = true)
    (he : s.lamp.ramp.duration ≤ s.lamp.ramp.elapsed + 10)
    (hx : s.lamp.ramp.origin ≠ some .show ∨ (∀ x, s.engine.execution = some x → x.rampAwaited = false)) :
    let u : State := { s with lamp := s.lamp.rampEnded }
    ∃ p q, exec .lampUpdate s = .next (({ s with
        lamp := { u.computedLamp s.lamp.dwellCap with dwell := u.dwellNext s.lamp.dwellCap, primary := p, spare := q } } :
          State).report .lamp [fw "DONE", fi s.lamp.ramp.target]) ∧
      s.lamp.rampEnded.Burned (dutyFor u (s.lamp.rampEnded.levelNext s.lamp.dwellCap)) p q := by
  intro u
  obtain ⟨p, q, hafter, hburned⟩ := afterRamp_uncapped
    (s := (u.report .lamp [fw "DONE", fi s.lamp.ramp.target]).emit (.rampDone s.lamp.ramp.target s.lamp.ramp.origin)) hc hd
  refine ⟨p, q, ?_, hburned⟩
  have hrun := (runUpdate_completes ha he).trans hafter
  have hexec : exec .lampUpdate s = .next (drain (runUpdate s)) := rfl
  rw [hrun] at hexec
  refine hexec.trans (congrArg Host.Outcome.next ?_)
  exact drain_rampDone (s := ({ s with
    lamp := { u.computedLamp s.lamp.dwellCap with dwell := u.dwellNext s.lamp.dwellCap, primary := p, spare := q } } :
      State).report .lamp [fw "DONE", fi s.lamp.ramp.target]) (level := s.lamp.ramp.target) (origin := s.lamp.ramp.origin)
    hs.2 (engineSeesRamp_unawaited hx)

end Sys2Proof.Machine

namespace Sys2Proof.Machine

/-! ## The receiving of several tellings -/

/-- The tellings that wait are received one by one, what each leads to before the next. -/
theorem drainAll_cons {s : State} {sig : Signal} {rest : List Signal} (h : s.signals = sig :: rest) (n : Nat) :
    drainAll (n + 1) s =
      drainAll n { receive sig { s with signals := [] } with
        signals := (receive sig { s with signals := [] }).signals ++ rest } := by
  rw [drainAll, h]

theorem drainAll_nil {s : State} (h : s.signals = []) (n : Nat) : drainAll n s = s := by
  cases n with
  | zero => rfl
  | succ n => rw [drainAll, h]

/-! ## The cue unit at the end of a tape run -/

/-- R129: the cue unit once its detection has ended while it was quiet. -/
def Cue.ended (now : Nat) (c : Cue) : Cue :=
  if c.detecting then
    Cue.forget now { c with detecting := false, units := c.units.map fun u => { u with window := none, hopLong := false } }
  else c

/-- R125: with no result held, none settles. -/
theorem nextSettled_of_quiet {c : Cue} (h : CueQuiet c) : c.nextSettled = none := by
  unfold Cue.nextSettled
  rw [List.findSome?_eq_none_iff]
  intro d _
  rw [(h d).2]

/-- R129: a quiet cue unit has nothing to settle or to close. -/
theorem CueQuiet.map {c : Cue} (h : CueQuiet c) {f : DetectorUnit → DetectorUnit}
    (hf : ∀ u, (f u).classifier = u.classifier ∧ (f u).awaiting = u.awaiting) (detecting : Bool) :
    CueQuiet { c with detecting := detecting, units := c.units.map f } := by
  intro d
  have := h d
  simp only [Fin.getElem_fin, Vector.getElem_map, hf]
  exact this

theorem CueQuiet.forget {c : Cue} (h : CueQuiet c) (now : Nat) : CueQuiet (c.forget now) := by
  intro d
  simpa [Cue.forget] using h d

/-- R129: what a quiet cue unit's end of detection leaves of it. -/
theorem Cue.ended_spec {c : Cue} (h : c.detecting = true) (now : Nat) : DetectionEnded c (c.ended now) := by
  unfold Cue.ended
  rw [if_pos h]
  refine ⟨rfl, fun d => ?_⟩
  simp [Cue.forget]

theorem CueQuiet.ended {c : Cue} (h : CueQuiet c) (now : Nat) : CueQuiet (c.ended now) := by
  unfold Cue.ended
  split
  · exact CueQuiet.forget (h.map (f := fun u => { u with window := none, hopLong := false }) (fun _ => ⟨rfl, rfl⟩) false) now
  · exact h

theorem Cue.ended_detecting (now : Nat) (c : Cue) : (c.ended now).detecting = false := by
  unfold Cue.ended
  split
  · rfl
  next h => simpa using h

theorem Cue.ended_log (now : Nat) (c : Cue) : (c.ended now).log = c.log := by unfold Cue.ended; split <;> rfl

theorem Cue.ended_counters (now : Nat) (c : Cue) : (c.ended now).counters = c.counters := by
  unfold Cue.ended; split <;> rfl

/-- R129: a quiet detector's classifier has nothing to end. -/
theorem closeClassifier_of_quiet {s : State} (h : CueQuiet s.cue) (d : Detector) : closeClassifier s d = s := by
  unfold closeClassifier
  rw [(h d).1]

/-- R122, R129: the telling that a playing tape has paused, with no burst in progress, ends the detection and no more. -/
theorem drainAll_paused {s : State} (h : CueQuiet s.cue) {rest : List Signal}
    (hs : s.signals = .tapeMoved .playing .paused :: rest) :
    ∃ k ≤ 5, ∀ n, drainAll (n + k) s = drainAll n { s with signals := rest, cue := s.cue.ended s.now } := by
  cases hd : s.cue.detecting with
  | false =>
    refine ⟨1, by decide, fun n => ?_⟩
    rw [drainAll_cons hs]
    have hcue : s.cue.ended s.now = s.cue := by simp [Cue.ended, hd]
    simp [receive, cueSeesTape, TapeState.listening, hd, hcue]
  | true =>
    refine ⟨5, by decide, fun n => ?_⟩
    have hq := CueQuiet.map h (f := fun u => { u with window := none, hopLong := false }) (fun _ => ⟨rfl, rfl⟩) false
    have hf := hq.forget s.now
    have hcue : s.cue.ended s.now = Cue.forget s.now { s.cue with
        detecting := false, units := s.cue.units.map fun u => { u with window := none, hopLong := false } } := if_pos hd
    rw [drainAll_cons hs]
    have h1 : receive (.tapeMoved .playing .paused) { s with signals := [] } = { s with
        signals := [.settle, .closeBurst 0, .closeBurst 1, .closeBurst 2]
        cue := { s.cue with
          detecting := false, units := s.cue.units.map fun u => { u with window := none, hopLong := false } } } := by
      simp [receive, cueSeesTape, TapeState.listening, hd, stopDetection, detectors, State.onCue, State.emit]
    rw [h1]
    rw [drainAll_cons (sig := .settle) rfl]
    have h2 (l : List Signal) : receive .settle { s with
        signals := l
        cue := { s.cue with
          detecting := false, units := s.cue.units.map fun u => { u with window := none, hopLong := false } } } = { s with
        signals := l, cue := s.cue.ended s.now } := by
      show settleNext _ = _
      unfold settleNext
      rw [nextSettled_of_quiet (by exact hq), hcue]
      rfl
    dsimp only
    rw [h2]
    have h3 (d : Detector) (l : List Signal) : receive (.closeBurst d) { s with signals := l, cue := s.cue.ended s.now } =
        { s with signals := l, cue := s.cue.ended s.now } := closeClassifier_of_quiet (by exact h.ended s.now) d
    rw [drainAll_cons (sig := .closeBurst 0) rfl]
    dsimp only
    rw [h3, drainAll_cons (sig := .closeBurst 1) rfl]
    dsimp only
    rw [h3, drainAll_cons (sig := .closeBurst 2) rfl]
    dsimp only
    rw [h3]
    rfl

/-- R122, R129: the same, with nothing else told. -/
theorem drain_paused {s : State} (h : CueQuiet s.cue) (hs : s.signals = [.tapeMoved .playing .paused]) :
    drain s = { s with signals := [], cue := s.cue.ended s.now } := by
  obtain ⟨k, hk, hall⟩ := drainAll_paused h hs
  have h1000 := hall (1000 - k)
  rw [Nat.sub_add_cancel (by omega), drainAll_nil (s := { s with signals := [], cue := s.cue.ended s.now }) rfl] at h1000
  simp [drain, h1000]

/-! ## The volume update -/

/-- R112: a playing tape is paused by a hold: the motor off, its report, and the cue unit and the trigger queue told. -/
theorem holdTape_playing {s : State} (h : s.tape.state = .playing) (hm : s.tape.motor = .play) :
    holdTape s = (({ s with
      tape := { s.tape with state := .paused, holdPause := true, motor := .off, rest := 0, endTimer := 0, delivered := 0 }
      triggers := { s.triggers with toldTape := .paused } } : State).report .tape [fw "PAUSED", fw "HOLD"]).emit
        (.tapeMoved .playing .paused) := by
  rw [holdTape, if_pos h]
  unfold moveTapeTold
  simp [h, hm, Tape.motorOff, Tape.deliver, Tape.outVolume, TapeState.listening, stateFields, TapeState.word, State.onTape,
    State.onTriggers, State.report, State.onLine, State.emit]

end Sys2Proof.Machine

namespace Sys2Proof.Machine

/-- R114: the value of the volume ramp 20 ms on. -/
def Tape.rampNext (t : Tape) : Nat :=
  if t.ramp.active
  then (t.ramp.start + (((t.ramp.target : Int) - t.ramp.start) * (t.ramp.elapsed + 20 : Nat)).tdiv t.ramp.duration).toNat
  else t.value

/-- R114: a volume ramp short of its duration, or none. -/
theorem advanceVol_goes {s : State} (h : s.tape.ramp.active = true → s.tape.ramp.elapsed + 20 < s.tape.ramp.duration) :
    advanceVol s = s.onTape fun t => { t with
      value := t.rampNext
      ramp := { t.ramp with elapsed := if t.ramp.active then t.ramp.elapsed + 20 else t.ramp.elapsed } } := by
  unfold advanceVol
  by_cases ha : s.tape.ramp.active = true
  · have hv : s.tape.rampNext = rampValue s.tape.ramp.start s.tape.ramp.target (s.tape.ramp.elapsed + 20) s.tape.ramp.duration :=
      if_pos ha
    dsimp only
    rw [if_neg (by simp [ha]), if_neg (by simpa [Config.volumeUpdate] using h ha)]
    simp only [State.onTape, hv, if_pos ha]
    rfl
  · have hv : s.tape.rampNext = s.tape.value := if_neg ha
    dsimp only
    rw [if_pos (by simpa using ha)]
    simp only [State.onTape, hv, if_neg ha]

/-- R114: a volume ramp that reaches its duration. -/
theorem advanceVol_completes {s : State} (ha : s.tape.ramp.active = true)
    (h : s.tape.ramp.duration ≤ s.tape.ramp.elapsed + 20) :
    advanceVol s =
      let u := (s.onTape fun t => { t with
        value := t.ramp.target, ramp := { t.ramp with elapsed := t.ramp.elapsed + 20, active := false } }).report .tape
          [fw "VOL", fi s.tape.ramp.target]
      if s.tape.ramp.origin = .hold ∧ s.tape.reasons.byShow = true then holdTape u else u := by
  unfold advanceVol
  dsimp only
  rw [if_neg (by simp [ha]), if_pos (by exact h)]
  rfl

/-- R115: the volume that is delivered. -/
theorem Tape.outVolume_eq (t : Tape) :
    t.outVolume = if t.mute = false ∧ (t.state = .playing ∨ t.state = .cueRecord) then t.value else 0 := by
  unfold Tape.outVolume TapeState.listening
  cases t.mute <;> cases t.state <;> rfl

/-- R115: a delivery is the delivered volume. -/
theorem Tape.deliver_eq (t : Tape) : t.deliver = { t with
    delivered := if t.mute = false ∧ (t.state = .playing ∨ t.state = .cueRecord) then t.value else 0 } := by
  rw [Tape.deliver, Tape.outVolume_eq]

/-- R112: a tape that does not play is not paused. -/
theorem holdTape_of_not_playing {s : State} (h : s.tape.state ≠ .playing) : holdTape s = s := by
  rw [holdTape, if_neg h]

/-- Settles O30: the end of a lamp ramp (`ramp_ends_outside_show`, `ramp_ends_unawaited`), and the volume update, whose hold
fade may pause the tape (R113). -/
theorem rampsCompleteAndDeliver : Obligations.RampsCompleteAndDeliver := by
  refine ⟨fun s hs ha hd hx ho => ramp_ends_outside_show hs ha hd hx ho, fun s hs hc hcap ha hd hx => ?_, fun s hs hr => ?_,
    fun s hs ha hd => ?_⟩
  · intro guard level dark duty
    obtain ⟨p, q, hexec, hstands, hburns, -⟩ := ramp_ends_unawaited hs hc hcap ha hd hx
    refine ⟨_, hexec, rfl, rfl, hstands, fun h pos => ?_⟩
    exact Eq.trans (by cases pos <;> rfl) ((hburns h pos).trans (by cases pos <;> rfl))
  · intro value
    have hrun : runVolumeUpdate s = s.onTape fun t => { t with
        updateTimer := 0, value := value
        ramp := { t.ramp with elapsed := if t.ramp.active then t.ramp.elapsed + 20 else t.ramp.elapsed }
        delivered := if t.mute = false ∧ (t.state = .playing ∨ t.state = .cueRecord) then value else 0 } := by
      rw [runVolumeUpdate, advanceVol_goes (by exact hr)]
      simp only [State.onTape, Tape.deliver_eq]
      rfl
    rw [← hrun]
    exact happens_of_quiet (f := runVolumeUpdate) (by rw [hrun]; exact hs.2)
  · intro done
    have hvol := advanceVol_completes (s := s.onTape fun t => { t with updateTimer := 0 }) ha hd
    refine ⟨fun hno => ?_, fun ho hb hp hm hq => ?_⟩
    · have hrun : runVolumeUpdate s = done := by
        have hvol' : advanceVol (s.onTape fun t => { t with updateTimer := 0 }) =
            (s.onTape fun t => { t with
              updateTimer := 0, value := t.ramp.target
              ramp := { t.ramp with elapsed := t.ramp.elapsed + 20, active := false } }).report .tape
                [fw "VOL", fi s.tape.ramp.target] := by
          rw [hvol]
          dsimp only
          split
          next h =>
            refine holdTape_of_not_playing ?_
            rcases hno with hno | hno | hno
            · exact absurd h.1 hno
            · exact absurd (h.2.symm.trans hno) (by simp)
            · exact hno
          next => rfl
        rw [runVolumeUpdate, hvol']
        simp only [State.onTape, State.report, State.onLine, Tape.deliver_eq]
        rfl
      rw [← hrun]
      exact happens_of_quiet (f := runVolumeUpdate) (by rw [hrun]; exact hs.2)
    · have hexec : exec .volumeUpdate s = .next (drain (runVolumeUpdate s)) := rfl
      dsimp only at hvol
      rw [if_pos ⟨ho, hb⟩, holdTape_playing (by exact hp) (by exact hm)] at hvol
      have hrun : (runVolumeUpdate s).signals = [.tapeMoved .playing .paused] := by
        rw [runVolumeUpdate, hvol]
        simp [State.emit, hs.2]
      rw [drain_paused (by rw [runVolumeUpdate, hvol]; exact hq) hrun] at hexec
      have hcue : (runVolumeUpdate s).cue = s.cue := by rw [runVolumeUpdate, hvol]; rfl
      refine ⟨_, hexec, ?_, Cue.ended_detecting _ _, ?_, ?_, fun d => ⟨?_, fun hdet => ?_⟩⟩
      · have hsig : s.signals = [] := hs.2
        rw [runVolumeUpdate, hvol]
        simp only [State.onTape, State.emit, State.report, State.onLine, Tape.deliver_eq, done, hsig]
        simp
      · rw [hcue]; exact Cue.ended_log _ _
      · rw [hcue]; exact Cue.ended_counters _ _
      · rw [hcue]; exact (CueQuiet.ended hq _ d).1
      · rw [hcue, (Cue.ended_spec hdet _).2 d]

end Sys2Proof.Machine

namespace Sys2Proof.Machine

/-! ## The lamp current -/

/-- The same change of the lamp controller before and after. -/
theorem Tells.onLamp {sigs : List Signal} {s t : State} (h : Tells sigs s t) (f : Lamp → Lamp) :
    Tells sigs (s.onLamp f) (t.onLamp f) := by
  unfold Tells at *
  rw [h]
  rfl

/-- R64: the open check after a current that has crossed a threshold. -/
theorem checkLampCurrent_unshorted {s : State} (h : s.lamp.duty = 0 ∨ s.pins.lampCurrent ≠ .aboveShort) :
    checkLampCurrent s = s.onLamp fun l => { l with
      openTimer := if openSeen s then some (l.openTimer.getD 0) else none } := by
  have hshort : checkShort s = s := by
    refine if_neg fun hs => ?_
    rcases h with h | h
    · omega
    · exact h hs.2
  rw [checkLampCurrent, hshort, checkOpen_frame]

/-- R64: the open check is made at a duty of 400 or more with a record ACTIVE. -/
theorem openSeen_iff (s : State) : openSeen s = true ↔
    (400 ≤ s.lamp.duty ∧ (s.lamp.primary.state = .active ∨ s.lamp.spare.state = .active)) ∧ s.pins.lampCurrent = .belowOpen := by
  have hactive : s.lamp.activePos.isSome = true ↔ s.lamp.primary.state = .active ∨ s.lamp.spare.state = .active := by
    rw [← Option.not_isNone, Lamp.activePos_isNone]
    simp
  rw [openSeen, Bool.and_eq_true, Bool.and_eq_true, decide_eq_true_eq, beq_iff_eq, hactive]
  rfl

/-- R64: the open timer at a current below the open threshold. -/
theorem checkLampCurrent_belowOpen {s : State} (h : s.pins.lampCurrent = .belowOpen) :
    checkLampCurrent s = s.onLamp fun l => { l with openTimer :=
      if 400 ≤ l.duty ∧ (l.primary.state = .active ∨ l.spare.state = .active) then some (l.openTimer.getD 0) else none } := by
  have hseen : (if openSeen s then some (s.lamp.openTimer.getD 0) else none) =
      if 400 ≤ s.lamp.duty ∧ (s.lamp.primary.state = .active ∨ s.lamp.spare.state = .active) then
        some (s.lamp.openTimer.getD 0) else none :=
    if_congr ((openSeen_iff s).trans (and_iff_left h)) rfl rfl
  rw [checkLampCurrent_unshorted (.inr (by simp [h]))]
  simp only [State.onLamp, hseen]

/-- R201: an occurrence in LATCH mode of a record that is not latched. -/
theorem tellPresent_in_latch {s : State} {k : FaultKind} (detail : Option FaultDetail)
    (hm : (s.faults.record k).mode = .latch) (hl : (s.faults.record k).latched = false) :
    Tells (latchTelling k (s.faults.record k).mode) s (tellPresent k detail s) ∧
      ((tellPresent k detail s).faults.record k).present = true ∧
      ((tellPresent k detail s).faults.record k).latched = true ∧
      ((tellPresent k detail s).faults.record k).detail = detail ∧ (tellPresent k detail s).faults.asserted = true ∧
      ∀ o, o ≠ k → (tellPresent k detail s).faults.record o = s.faults.record o := by
  have hmode : (s.faults.record k).mode ≠ .off := by rw [hm]; decide
  have hrec := tellPresent_record_self (s := s) detail hmode
  obtain ⟨hpresent, -, hdetail, -, hlatched⟩ := FaultRecord.fields_of_occurred hrec
  refine ⟨tellPresent_latches detail hmode (by rw [hm]; rfl) hl, hpresent, hlatched hm, hdetail, ?_,
    fun o ho => tellPresent_record ho detail s⟩
  exact asserted_of_active (k := k) (tellPresent_faultLine detail hmode)
    (by rw [hrec]; simp [FaultRecord.active, FaultRecord.occurred, hm])

/-- R66, R201: a current above the short threshold at a duty above 0 makes the lamp dark and latches LAMP_SHORT. -/
theorem shortCurrent_acts {s : State} (hs : Between s) (hd : 0 < s.lamp.duty) (hm : (s.faults.record .lampShort).mode = .latch)
    (hl : (s.faults.record .lampShort).latched = false) (hr : s.engine.state ≠ .running) (hh : s.engine.state ≠ .held) :
    ∃ t, exec (.lampCurrentChange .aboveShort) s = .next t ∧
      t = { s with
        pins := { s.pins with lampCurrent := .aboveShort }
        lamp := { s.lamp with level := s.lamp.leastLevel, duty := 0, shortHold := true, openTimer := none }
        faults := t.faults, line := t.line
        engine := { s.engine with causes := Cause.all.filter (· ∈ Cause.lampShort :: s.engine.causes) } } ∧
      (t.faults.record .lampShort).present = true ∧ (t.faults.record .lampShort).latched = true ∧
      t.faults.asserted = true ∧ (∀ k, k ≠ .lampShort → t.faults.record k = s.faults.record k) := by
  have hexec : exec (.lampCurrentChange .aboveShort) s = .next (drain (currentMoves .aboveShort s)) := rfl
  generalize hu : ({ s with
    pins := { s.pins with lampCurrent := .aboveShort }
    lamp := { s.lamp with level := s.lamp.leastLevel, duty := 0, shortHold := true } } : State) = u
  have hf : u.faults = s.faults := by rw [← hu]
  have hmoves : currentMoves .aboveShort s = checkOpen ((tellPresent .lampShort (s.lamp.path.map .lamp) u).report .lamp
      [fw "SHORT", fw (posWord (tellPresent .lampShort (s.lamp.path.map .lamp) u).lamp.path)]) := by
    unfold currentMoves checkLampCurrent checkShort
    dsimp only
    rw [if_pos rfl, if_pos ⟨hd, rfl⟩, ← hu]
    rfl
  obtain ⟨htells, hpresent, hlatched, -, hasserted, hother⟩ := tellPresent_in_latch (s := u) (s.lamp.path.map .lamp)
    (by rw [hf]; exact hm) (by rw [hf]; exact hl)
  generalize tellPresent .lampShort _ u = v at hmoves htells hpresent hlatched hasserted hother
  have hall := (htells.report .lamp [fw "SHORT", fw (posWord v.lamp.path)]).onLamp fun l => { l with openTimer := none }
  have hseen : openSeen (v.report .lamp [fw "SHORT", fw (posWord v.lamp.path)]) = false := by
    refine Bool.eq_false_iff.2 fun h => ?_
    have hd := ((openSeen_iff _).1 h).1.1
    rw [State.report_lamp, htells.lamp, ← hu] at hd
    exact absurd hd (by simp)
  rw [hmoves, checkOpen_frame, hseen] at hexec
  simp only [Bool.false_eq_true, if_false] at hexec
  rw [hall.drain_latch (by rw [← hu]; exact hs.2) rfl (by rw [← hu]; exact hr) (by rw [← hu]; exact hh)] at hexec
  exact ⟨_, hexec, by rw [← hu]; rfl, hpresent, hlatched, hasserted, fun k hk => (hother k hk).trans (by rw [hf])⟩

/-! ### A lamp that fails -/

/-- R62: the record that is ACTIVE. -/
theorem Lamp.activePos_of_one {l : Lamp} {pos : LampPos} (h : (l.record pos).state = .active)
    (ho : (l.record pos.other).state ≠ .active) : l.activePos = some pos := by
  cases pos with
  | primary => exact if_pos h
  | spare => exact (if_neg ho).trans (if_pos h)

/-- R57: the records do not enter the level. -/
theorem Lamp.leastLevel_changeRecord (pos : LampPos) (f : LampRecord → LampRecord) (l : Lamp) :
    (l.changeRecord pos f).leastLevel = l.leastLevel := by cases pos <;> rfl

/-- R59: a record changes and leaves the lamp dark, its duty computed at once. -/
theorem dutyAtOnce_changeRecord {s : State} {pos : LampPos} {f : LampRecord → LampRecord}
    (h : DarkRow (s.onLamp (Lamp.changeRecord pos f))) : dutyAtOnce (s.onLamp (Lamp.changeRecord pos f)) =
      s.onLamp fun l => { Lamp.changeRecord pos f l with level := l.leastLevel, duty := 0, openTimer := none } := by
  rw [dutyAtOnce_dark h]
  simp only [State.onLamp, Lamp.leastLevel_changeRecord]

/-- R59: with the record of a position no longer ACTIVE, and the other not either, the lamp is dark. -/
theorem darkRow_of_changed {s : State} {pos : LampPos} {f : LampRecord → LampRecord} (hf : ∀ r, (f r).state ≠ .active)
    (ho : (s.lamp.record pos.other).state ≠ .active) : DarkRow (s.onLamp (Lamp.changeRecord pos f)) := by
  refine .inr (.inr (.inr (.inr (.inl ?_))))
  cases pos with
  | primary => exact ⟨hf _, ho⟩
  | spare => exact ⟨ho, hf _⟩

/-- R64: the lamp controller once the lamp of a position has failed. -/
def Lamp.failed (pos : LampPos) (l : Lamp) : Lamp :=
  { Lamp.changeRecord pos (fun r => { r with state := .failed }) l with openTimer := none, level := l.leastLevel, duty := 0 }

theorem Lamp.leastLevel_failed (pos : LampPos) (l : Lamp) : (Lamp.failed pos l).leastLevel = l.leastLevel :=
  Lamp.leastLevel_changeRecord pos _ l

/-- R62, R64: the lamp that fails is ACTIVE no more, its duty 0. -/
theorem lampFails_eq {s : State} {pos : LampPos} (ht : s.lamp.openTimer ≠ none) (ha : (s.lamp.record pos).state = .active)
    (ho : (s.lamp.record pos.other).state ≠ .active) :
    lampFails s =
      if s.lamp.autoShift = true ∧ (s.lamp.record pos.other).state = .good then
        startShift pos.other ((s.onLamp (Lamp.failed pos)).report .lamp [fw "FAILED", fw pos.word])
      else tellPresent .lampOpen (some (.lamp pos)) ((s.onLamp (Lamp.failed pos)).report .lamp [fw "FAILED", fw pos.word]) := by
  have hpos : Lamp.activePos { s.lamp with openTimer := none } = some pos :=
    Lamp.activePos_of_one (l := { s.lamp with openTimer := none }) (by cases pos <;> exact ha) (by cases pos <;> exact ho)
  have hduty : dutyAtOnce (((s.onLamp fun l => { l with openTimer := none }).onLamp
      (Lamp.changeRecord pos fun r => { r with state := .failed })).report .lamp [fw "FAILED", fw pos.word]) =
        (s.onLamp (Lamp.failed pos)).report .lamp [fw "FAILED", fw pos.word] := by
    refine (dutyAtOnce_changeRecord (s := (s.onLamp fun l => { l with openTimer := none }).report .lamp
      [fw "FAILED", fw pos.word]) (darkRow_of_changed (by simp) (by cases pos <;> exact ho))).trans ?_
    simp only [State.onLamp, State.report, State.onLine, Lamp.failed]
    rw [show Lamp.leastLevel { s.lamp with openTimer := none } = s.lamp.leastLevel from rfl]
    cases pos <;> rfl
  unfold lampFails
  rw [if_neg (by simpa using ht)]
  dsimp only
  rw [State.onLamp_lamp, hpos]
  dsimp only
  have hauto : (Lamp.failed pos s.lamp).autoShift = s.lamp.autoShift := by cases pos <;> rfl
  have hother : (Lamp.failed pos s.lamp).record pos.other = s.lamp.record pos.other := by cases pos <;> rfl
  rw [hduty, State.report_lamp, State.onLamp_lamp, hauto, hother]

/-- Settles O31: the open check and the short check of a current (R64, R66), and the failure of the lamp in the path (R65). -/
theorem theLampCurrentIsJudged : Obligations.TheLampCurrentIsJudged := by
  refine ⟨fun s hs => ⟨fun hp => ⟨?_, ?_⟩, fun hd => ?_, fun hd hm hl hr hh => shortCurrent_acts hs hd hm hl hr hh⟩,
    fun s pos hs ht hp ha ho hsh => ⟨fun hauto hgood => ?_, fun hno hm hl hr hh => ?_⟩⟩
  · have hmoves : currentMoves .normal s =
        (s.onPins fun p => { p with lampCurrent := .normal }).onLamp fun l => { l with openTimer := none } := by
      unfold currentMoves
      dsimp only
      rw [if_neg (by decide), tellGone_of_absent (by exact hp), checkLampCurrent_unshorted (.inr (by simp))]
      simp [openSeen]
    rw [← hmoves]
    exact happens_of_quiet (f := currentMoves .normal) (by rw [hmoves]; exact hs.2)
  · have hmoves : currentMoves .belowOpen s = (s.onPins fun p => { p with lampCurrent := .belowOpen }).onLamp fun l =>
        { l with openTimer :=
            if 400 ≤ l.duty ∧ (l.primary.state = .active ∨ l.spare.state = .active) then some (l.openTimer.getD 0)
            else none } := by
      unfold currentMoves
      dsimp only
      rw [if_neg (by decide), tellGone_of_absent (by exact hp), checkLampCurrent_belowOpen rfl]
    rw [← hmoves]
    exact happens_of_quiet (f := currentMoves .belowOpen) (by rw [hmoves]; exact hs.2)
  · have hmoves : currentMoves .aboveShort s =
        (s.onPins fun p => { p with lampCurrent := .aboveShort }).onLamp fun l => { l with openTimer := none } := by
      unfold currentMoves
      dsimp only
      rw [if_pos rfl, checkLampCurrent_unshorted (.inl (by exact hd))]
      simp [openSeen]
    rw [← hmoves]
    exact happens_of_quiet (f := currentMoves .aboveShort) (by rw [hmoves]; exact hs.2)
  · have hkeep : (Lamp.failed pos s.lamp).releasePath = Lamp.failed pos s.lamp := by
      cases pos <;> simp [Lamp.failed, Lamp.releasePath, Lamp.changeRecord, Lamp.record, hp]
    have hfails : lampFails s =
        ((s.onLamp fun l => { Lamp.changeRecord pos (fun r => { r with state := .failed }) l with
          openTimer := none, level := l.leastLevel, duty := 0, shift := some ⟨pos.other, 0, true⟩ }).report .lamp
            [fw "FAILED", fw pos.word]).report .lamp [fw "SHIFT", fw pos.other.word] := by
      rw [lampFails_eq ht ha ho, if_pos ⟨hauto, hgood⟩, startShift_eq]
      simp only [State.onLamp, State.report, State.onLine, hkeep, Lamp.leastLevel_failed]
      cases pos <;> rfl
    rw [← hfails]
    exact happens_of_quiet (f := lampFails) (by rw [hfails]; exact hs.2)
  · have hfails := lampFails_eq ht ha ho
    rw [if_neg (by
      rintro ⟨hauto, hgood⟩
      rcases hno with hno | hno
      · rw [hauto] at hno; cases hno
      · exact hno hgood)] at hfails
    obtain ⟨htells, hpresent, hlatched, hdetail, -, hother⟩ := tellPresent_in_latch
      (s := (s.onLamp (Lamp.failed pos)).report .lamp [fw "FAILED", fw pos.word]) (some (.lamp pos)) hm hl
    rw [← hfails] at htells hpresent hlatched hdetail hother
    have hexec : exec .openTimerExpiry s = .next (drain (lampFails s)) := rfl
    rw [htells.drain_latch hs.2 rfl hr hh] at hexec
    exact ⟨_, hexec, rfl, hlatched, hpresent, hdetail, hother⟩

end Sys2Proof.Machine

namespace Sys2Proof.Machine

/-! ## The shift switch -/

section
variable {s : State} {pos : LampPos}

/-- R57, R59, R62: the switch leaves the position of an ACTIVE lamp. -/
theorem leavePath_active (hp : s.lamp.path = some pos) (ha : (s.lamp.record pos).state = .active)
    (ho : (s.lamp.record pos.other).state ≠ .active) :
    leavePath s = s.onLamp fun l => { Lamp.changeRecord pos (fun r => { r with state := .good }) l with
      level := l.leastLevel, duty := 0, openTimer := none } := by
  have hrelease : s.onLamp Lamp.releasePath = s.onLamp (Lamp.changeRecord pos fun r => { r with state := .good }) := by
    simp [State.onLamp, Lamp.releasePath, hp, ha]
  unfold leavePath
  rw [hp]
  dsimp only
  rw [if_pos ha, hrelease, dutyAtOnce_changeRecord (darkRow_of_changed (by simp) ho)]

/-- R62: with no record ACTIVE at the position left, nothing is computed. -/
theorem leavePath_inactive (h : ∀ pos, s.lamp.path = some pos → (s.lamp.record pos).state ≠ .active) : leavePath s = s := by
  unfold leavePath
  split
  next pos hp => exact if_neg (h pos hp)
  next => rfl

/-- R62: a GOOD record at the path becomes ACTIVE. -/
theorem takePath_good (hp : s.lamp.path = some pos) (hg : (s.lamp.record pos).state = .good) : takePath s = makeActive pos s := by
  unfold takePath
  rw [hp]
  exact if_pos hg

/-- R62: any other record at the path stays as it is. -/
theorem takePath_other (h : ∀ pos, s.lamp.path = some pos → (s.lamp.record pos).state ≠ .good) : takePath s = s := by
  unfold takePath
  split
  next pos hp => exact if_neg (h pos hp)
  next => rfl

/-- R62: a switch that shows the recorded position. -/
theorem switchMoves_stays (s : State) : switchMoves s.lamp.path s = s.onPins fun p => { p with shiftSwitch := s.lamp.path } := by
  unfold switchMoves
  exact if_pos rfl

/-- R62: a switch that shows another position, with no shift in progress. -/
theorem switchMoves_idle {position : Option LampPos} (h : position ≠ s.lamp.path) {u : State}
    (hu : leavePath (s.onPins fun p => { p with shiftSwitch := position }) = u) (hs : u.lamp.shift = none) :
    switchMoves position s =
      (takePath (u.onLamp fun l => { l with path := position })).report .lamp [fw "PATH", fw (posWord position)] := by
  subst hu
  unfold switchMoves
  dsimp only
  rw [if_neg (by exact h)]
  split
  next => rfl
  next sh hsh => exact absurd (hsh.symm.trans hs) (by simp)

/-- R67: a switch that shows the target of a shift. -/
theorem switchMoves_arrives {u : State} {sh : Shift} (h : some sh.target ≠ s.lamp.path)
    (hu : leavePath (s.onPins fun p => { p with shiftSwitch := some sh.target }) = u) (hs : u.lamp.shift = some sh) :
    switchMoves (some sh.target) s =
      (takePath (u.onLamp fun l => { l with path := some sh.target, shift := none })).report .lamp
        [fw "SHIFTED", fw sh.target.word] := by
  subst hu
  unfold switchMoves
  dsimp only
  rw [if_neg (by exact h)]
  split
  next hsh => exact absurd (hsh.symm.trans hs) (by simp)
  next sh' hsh =>
    obtain rfl : sh' = sh := Option.some.inj (hsh.symm.trans hs)
    rw [if_pos rfl]
    rfl

/-- R68: a switch that shows another position short of a shift's target. -/
theorem switchMoves_passes {position : Option LampPos} {u : State} {sh : Shift} (h : position ≠ s.lamp.path)
    (hu : leavePath (s.onPins fun p => { p with shiftSwitch := position }) = u) (hs : u.lamp.shift = some sh)
    (ht : position ≠ some sh.target) : switchMoves position s = u.onLamp fun l => { l with path := position } := by
  subst hu
  unfold switchMoves
  dsimp only
  rw [if_neg (by exact h)]
  split
  next hsh => exact absurd (hsh.symm.trans hs) (by simp)
  next sh' hsh =>
    obtain rfl : sh' = sh := Option.some.inj (hsh.symm.trans hs)
    exact if_neg ht
end

end Sys2Proof.Machine

namespace Sys2Proof.Machine

theorem LampPos.other_other (pos : LampPos) : pos.other.other = pos := by cases pos <;> rfl

theorem LampPos.other_ne (pos : LampPos) : pos.other ≠ pos := by cases pos <;> decide

/-- R62: a position that is not in the path is none, or the other one is. -/
theorem path_cases {path : Option LampPos} {pos : LampPos} (h : path ≠ some pos) : path = none ∨ path = some pos.other := by
  cases path with
  | none => exact .inl rfl
  | some q => cases q <;> cases pos <;> simp_all [LampPos.other]

/-- R62: the switch leaves a position whose lamp is ACTIVE. -/
abbrev Lamp.Leaves (pos : LampPos) (l : Lamp) : Prop := l.path = some pos ∧ (l.record pos).state = .active

/-- R57, R59, R62: the lamp controller as the switch leaves a position. -/
def Lamp.left (pos : LampPos) (l : Lamp) : Lamp :=
  { Lamp.changeRecord pos (fun r => if l.Leaves pos then { r with state := .good } else r) l with
    level := if l.Leaves pos then l.leastLevel else l.level, duty := if l.Leaves pos then 0 else l.duty
    openTimer := if l.Leaves pos then none else l.openTimer }

/-- R62: the position is left with at most its own record ACTIVE. -/
theorem leavePath_eq {s : State} {pos : LampPos} (hp : s.lamp.path = none ∨ s.lamp.path = some pos)
    (ho : (s.lamp.record pos.other).state ≠ .active) : leavePath s = s.onLamp (Lamp.left pos) := by
  by_cases hleft : s.lamp.Leaves pos
  · rw [leavePath_active hleft.1 hleft.2 ho]
    simp only [State.onLamp, Lamp.left, if_pos hleft]
  · rw [leavePath_inactive fun q hq hact => ?_]
    · simp only [State.onLamp, Lamp.left, if_neg hleft]
      cases pos <;> rfl
    · rcases hp with hp | hp
      · rw [hp] at hq; cases hq
      · obtain rfl : pos = q := Option.some.inj (hp.symm.trans hq)
        exact hleft ⟨hp, hact⟩

/-- R62: what leaving a position keeps. -/
theorem Lamp.left_keeps (pos : LampPos) (l : Lamp) :
    (Lamp.left pos l).path = l.path ∧ (Lamp.left pos l).shift = l.shift ∧
      (Lamp.left pos l).record pos.other = l.record pos.other := by
  cases pos <;> exact ⟨rfl, rfl, rfl⟩

/-- R62, R67: the report of a switch that shows a position, in the idle state of the shift or at its target. -/
def switchReport (l : Lamp) (pos : LampPos) : List Field := [fw (if l.shift = none then "PATH" else "SHIFTED"), fw pos.word]

/-- R62, R67: a switch that shows a position other than that of the path, with no shift or one to there. -/
theorem switchMoves_shows {s : State} {pos : LampPos} (hp : s.lamp.path ≠ some pos)
    (ho : (s.lamp.record pos).state ≠ .active)
    (hs : s.lamp.shift = none ∨ (∃ sh, s.lamp.shift = some sh ∧ sh.target = pos)) :
    switchMoves (some pos) s =
      (takePath ((s.onPins fun p => { p with shiftSwitch := some pos }).onLamp fun l =>
        { Lamp.left pos.other l with path := some pos, shift := none })).report .lamp (switchReport s.lamp pos) := by
  have hleave := leavePath_eq (s := s.onPins fun p => { p with shiftSwitch := some pos }) (pos := pos.other)
    (path_cases hp) (by rw [LampPos.other_other]; exact ho)
  obtain ⟨-, hshift, -⟩ := Lamp.left_keeps pos.other s.lamp
  rcases hs with hs | ⟨sh, hs, rfl⟩
  · rw [switchMoves_idle (Ne.symm hp) hleave (hshift.trans hs), switchReport, if_pos hs]
    have hnone : { Lamp.left pos.other s.lamp with path := some pos } =
        { Lamp.left pos.other s.lamp with path := some pos, shift := none } := by rw [← hs, ← hshift]
    simp only [State.onLamp, State.onPins, hnone]
    rfl
  · rw [switchMoves_arrives (Ne.symm hp) hleave (hshift.trans hs), switchReport, if_neg (by simp [hs])]
    rfl

/-- R62, R93, R94, R202: a switch that shows a GOOD lamp: its mark, and all that follows from it. -/
theorem switch_takes_lamp {s : State} {pos : LampPos} (hb : Between s) (hp : s.lamp.path ≠ some pos)
    (hg : (s.lamp.record pos).state = .good)
    (hs : s.lamp.shift = none ∨ (∃ sh, s.lamp.shift = some sh ∧ sh.target = pos)) :
    let u : State := (s.onPins fun p => { p with shiftSwitch := some pos }).onLamp fun l =>
      { Lamp.left pos.other l with path := some pos, shift := none }
    exec (.shiftSwitchChange (some pos)) s = .next ((makeActive pos u).report .lamp (switchReport s.lamp pos)) := by
  intro u
  obtain ⟨-, -, hrec⟩ := Lamp.left_keeps pos.other s.lamp
  rw [LampPos.other_other] at hrec
  have hgood : (u.lamp.record pos).state = .good := by
    have : u.lamp.record pos = s.lamp.record pos := hrec ▸ by cases pos <;> rfl
    rw [this]; exact hg
  have hmoves := switchMoves_shows hp (by rw [hg]; decide) hs
  rw [takePath_good rfl hgood] at hmoves
  rw [← hmoves]
  refine happens_of_quiet (f := switchMoves (some pos)) ?_
  rw [hmoves]
  have hsig := (makeActive_tells pos u).1.signals
  have hquiet : (relight (u.onLamp (Lamp.changeRecord pos fun r => { r with state := .active }))).signals = [] := by
    unfold relight
    split <;> exact hb.2
  show (makeActive pos u).signals = []
  rw [hsig, hquiet]
  rfl

end Sys2Proof.Machine

namespace Sys2Proof.Machine

/-- R62: the state as the switch shows a position and a shift to there, if one is in progress, has ended. -/
def State.showing (pos : LampPos) (s : State) : State :=
  (s.onPins fun p => { p with shiftSwitch := some pos }).onLamp fun l =>
    { Lamp.left pos.other l with path := some pos, shift := none }

/-- R93, R94: the heat and power unit at a relight request. -/
def Heat.relit (h : Heat) : Heat :=
  if h.state = .on then { h with rise := some ⟨0, h.set.warmUp⟩, riseTimer := 0, powerLimit := 0 } else h

/-- R62, R93, R94: the state with the lamp of a position ACTIVE and relit. -/
theorem relight_showing (pos : LampPos) (s : State) :
    relight ((s.showing pos).onLamp (Lamp.changeRecord pos fun r => { r with state := .active })) =
      { s with
        pins := { s.pins with shiftSwitch := some pos }
        heat := s.heat.relit
        lamp := { Lamp.changeRecord pos (fun r => { r with state := .active }) (Lamp.left pos.other s.lamp) with
          path := some pos, shift := none, pubPower := if s.heat.state = .on then 0 else s.lamp.pubPower } } := by
  unfold Heat.relit
  by_cases hon : s.heat.state = .on
  · rw [relight_on (by exact hon), if_pos hon, if_pos hon]
    cases pos <;> rfl
  · rw [relight_off (by exact hon), if_neg hon, if_neg hon]
    cases pos <;> rfl

/-- R62: the lamp records, with one taken and the other left. -/
theorem taken_records (pos : LampPos) (l : Lamp) :
    let l' := Lamp.changeRecord pos (fun r => { r with state := .active }) (Lamp.left pos.other l)
    l'.record pos = { l.record pos with state := .active } ∧
      l'.record pos.other =
        if l.Leaves pos.other then { l.record pos.other with state := .good } else l.record pos.other := by
  cases pos <;> exact ⟨rfl, rfl⟩

/-- R62: the lamp controller where the lamp of a position is taken, field by field. -/
theorem taken_lamp (pos : LampPos) (l : Lamp) (power : Nat) :
    let l' := Lamp.changeRecord pos (fun r => { r with state := .active }) (Lamp.left pos.other l)
    { l' with path := some pos, shift := none, pubPower := power } =
      { l with
        path := some pos, shift := none, pubPower := power, primary := l'.primary, spare := l'.spare
        level := if l.Leaves pos.other then l.leastLevel else l.level
        duty := if l.Leaves pos.other then 0 else l.duty
        openTimer := if l.Leaves pos.other then none else l.openTimer } := by
  cases pos <;> rfl

/-- R62: with no lamp ACTIVE at a position, leaving it changes nothing. -/
theorem Lamp.left_of_inactive {pos : LampPos} {l : Lamp} (h : ¬ l.Leaves pos) : Lamp.left pos l = l := by
  simp only [Lamp.left, if_neg h]
  cases pos <;> rfl

/-- R62: an ACTIVE lamp's position is left. -/
theorem Lamp.left_of_active {pos : LampPos} {l : Lamp} (h : l.Leaves pos) : Lamp.left pos l =
    { Lamp.changeRecord pos (fun r => { r with state := .good }) l with
      level := l.leastLevel, duty := 0, openTimer := none } := by
  simp only [Lamp.left, if_pos h]

/-- R68, R201: a driven shift that runs out of time with no lamp in the path. -/
theorem shiftFails_dark {s : State} {sh : Shift} (hsh : s.lamp.shift = some sh) (hd : sh.driven = true)
    (hp : s.lamp.path = none) (hpr : s.lamp.primary.state ≠ .active) (hsp : s.lamp.spare.state ≠ .active) :
    shiftFails s = (tellPresent .shiftFail (some (.lamp sh.target))
      { s with lamp := { s.lamp with shift := none, shiftHold := true } }).report .lamp [fw "SHIFT", fw "FAILED"] := by
  have hnone (u : State) (hu : u.lamp = { s.lamp with shift := none, shiftHold := true }) : u.lamp.activePos.isSome = false := by
    rw [← Option.not_isNone, Lamp.activePos_isNone, hu]
    simp [hpr, hsp]
  unfold shiftFails
  rw [hsh]
  dsimp only
  rw [if_neg (by simp [hd]), takePath_other (s := s.onLamp fun l => { l with shift := none }) (by simp [hp])]
  rw [if_neg]
  · rfl
  · rw [hnone _ (by rw [State.report_lamp, tellPresent_frame]; rfl)]
    simp

/-- Settles O32: a lamp comes into the path and is taken (`switch_takes_lamp`, `makeActive_tells`), a position is left
(`leavePath_eq`), or a shift runs out of time (R68). -/
theorem theShiftEndsOrFails : Obligations.TheShiftEndsOrFails := by
  refine ⟨fun s hs hc hon h1 h2 => ⟨?_, fun pos hp ha hg hsh => ?_⟩,
    fun s sh hsh hs => ⟨fun hd => ?_, fun hd hp hpr hsp hm hl hr hh => ?_⟩,
    fun s pos hs hc hp hg hsh => ?_, fun s pos hs hp hn => ?_, fun s pos hs hp ho => ?_⟩
  · rw [← switchMoves_stays]
    exact happens_of_quiet (f := switchMoves s.lamp.path) (by rw [switchMoves_stays]; exact hs.2)
  · have hexec := switch_takes_lamp hs (pos := pos.other) (by rw [hp]; simpa using (LampPos.other_ne pos).symm) hg hsh
    change _ = Host.Outcome.next ((makeActive pos.other (s.showing pos.other)).report .lamp _) at hexec
    rw [makeActive_of_absent (by exact h1) (by exact h2), relight_showing, taken_lamp, LampPos.other_other] at hexec
    obtain ⟨hr, hro⟩ := taken_records pos.other s.lamp
    rw [LampPos.other_other] at hr hro
    have hleaves : s.lamp.Leaves pos := ⟨hp, ha⟩
    rw [if_pos hleaves] at hro
    simp only [if_pos hleaves, Heat.relit, if_neg hon] at hexec
    exact ⟨_, hexec, rfl, Eq.trans (by cases pos <;> rfl) hro, Eq.trans (by cases pos <;> rfl) hr⟩
  · have hstays : shiftFails s = s := by
      unfold shiftFails
      rw [hsh]
      exact if_pos (by simp [hd])
    exact (happens_of_quiet (f := shiftFails) (by rw [hstays]; exact hs.2)).trans (by rw [hstays])
  · have hfails := shiftFails_dark hsh hd hp hpr hsp
    obtain ⟨htells, hpresent, hlatched, hdetail, hasserted, -⟩ := tellPresent_in_latch
      (s := { s with lamp := { s.lamp with shift := none, shiftHold := true } }) (some (.lamp sh.target)) hm hl
    have hall := htells.report .lamp [fw "SHIFT", fw "FAILED"]
    rw [← hfails] at hall
    have hexec : exec .shiftTimeout s = .next (drain (shiftFails s)) := rfl
    rw [hall.drain_latch hs.2 rfl hr hh, hfails] at hexec
    exact ⟨_, hexec, rfl, hpresent, hlatched, hdetail, hasserted⟩
  · intro left hleft
    have hexec := switch_takes_lamp hs hp hg hsh
    change _ = Host.Outcome.next ((makeActive pos (s.showing pos)).report .lamp _) at hexec
    obtain ⟨htells, hopen, hshift, hother⟩ := makeActive_tells pos (s.showing pos)
    obtain ⟨hr, hro⟩ := taken_records pos s.lamp
    have hlit := relight_showing pos s
    rw [taken_lamp] at hlit
    have hlamp : (makeActive pos (s.showing pos)).lamp = _ := htells.lamp.trans (congrArg State.lamp hlit)
    refine ⟨_, hexec, ?_, ?_, ?_, ?_, ?_, fun k hk1 hk2 => ?_, fun h1 h2 => ?_⟩
    · unfold Tells at htells
      rw [hlit] at htells
      rw [htells, List.append_nil]
      rfl
    · rw [State.report_lamp, hlamp]
      exact Eq.trans (by cases pos <;> rfl) hr
    · rw [State.report_lamp, hlamp]
      exact Eq.trans (by cases pos <;> rfl) hro
    · exact congrArg FaultRecord.present hopen
    · exact congrArg FaultRecord.present hshift
    · exact hother k hk1 hk2
    · rw [makeActive_of_absent (by exact h1) (by exact h2), hlit]
      exact ⟨rfl, rfl⟩
  · intro arrived
    have hinactive (q : LampPos) : ¬ s.lamp.Leaves q := fun h => hn q h.2
    have hstays : leavePath (s.onPins fun p => { p with shiftSwitch := some pos }) =
        s.onPins fun p => { p with shiftSwitch := some pos } := leavePath_inactive fun q _ => hn q
    have shows (hg : (s.lamp.record pos).state ≠ .good)
        (hsh : s.lamp.shift = none ∨ (∃ sh, s.lamp.shift = some sh ∧ sh.target = pos)) :
        exec (.shiftSwitchChange (some pos)) s =
          .next ((arrived.onLamp fun l => { l with shift := none }).report .lamp (switchReport s.lamp pos)) := by
      have hmoves := switchMoves_shows hp (hn pos) hsh
      simp only [State.onLamp, State.onPins, Lamp.left_of_inactive (hinactive _)] at hmoves
      rw [takePath_other fun q hq => ?_] at hmoves
      · exact (happens_of_quiet (f := switchMoves (some pos)) (by rw [hmoves]; exact hs.2)).trans (by rw [hmoves]; rfl)
      · obtain rfl : pos = q := Option.some.inj hq
        cases pos <;> exact hg
    refine ⟨fun sh hsh ht => ?_, fun hg => ⟨fun hsh => ?_, fun sh hsh ht => ?_⟩⟩
    · have hmoves := switchMoves_passes (Ne.symm hp) hstays hsh (by simpa using ht.symm)
      exact (happens_of_quiet (f := switchMoves (some pos)) (by rw [hmoves]; exact hs.2)).trans (by rw [hmoves])
    · refine (shows hg (.inl hsh)).trans ?_
      rw [switchReport, if_pos hsh]
      have hnone : ({ s.lamp with path := some pos, shift := none } : Lamp) = { s.lamp with path := some pos } := by rw [← hsh]
      simp only [arrived, State.onLamp, State.onPins, hnone]
    · rw [shows hg (.inr ⟨sh, hsh, ht⟩), switchReport, if_neg (by simp [hsh])]
  · intro gone
    have hleave := leavePath_eq (s := s.onPins fun p => { p with shiftSwitch := none }) (.inr hp) ho
    have hgone : ((s.onPins fun p => { p with shiftSwitch := none }).onLamp (Lamp.left pos)).onLamp
        (fun l => { l with path := none }) = gone := by
      refine congrArg (fun l : Lamp => ({ s with pins := { s.pins with shiftSwitch := none }, lamp := l } : State)) ?_
      by_cases ha : (s.lamp.record pos).state = .active
      · exact Eq.trans (by rw [State.onLamp_lamp, State.onPins_lamp, Lamp.left_of_active ⟨hp, ha⟩]) (if_pos ha).symm
      · exact Eq.trans (by rw [State.onLamp_lamp, State.onPins_lamp, Lamp.left_of_inactive fun h => ha h.2])
          (if_neg ha).symm
    obtain ⟨-, hkeeps, -⟩ := Lamp.left_keeps pos s.lamp
    have hmoves : switchMoves none s = if s.lamp.shift = none then gone.report .lamp [fw "PATH", fw "NONE"] else gone := by
      split
      next hsh =>
        rw [switchMoves_idle (by simp [hp]) hleave (hkeeps.trans hsh), hgone, takePath_other]
        · rfl
        · rw [← hgone]
          simp
      next hsh =>
        obtain ⟨sh, hsh⟩ := Option.ne_none_iff_exists'.1 hsh
        rw [switchMoves_passes (by simp [hp]) hleave (hkeeps.trans hsh) (by simp), hgone]
    rw [← hmoves]
    refine happens_of_quiet (f := switchMoves none) ?_
    rw [hmoves, ← hgone]
    split <;> exact hs.2

end Sys2Proof.Machine

namespace Sys2Proof.Machine

/-! ## The trigger queue -/

/-- R194: no hold of the tape is in force, and none falls due. -/
abbrev HoldUndue (t : Triggers) : Prop :=
  t.hold = false ∧ (t.tapeHold = false ∨ t.toldShow ≠ .running ∨ t.queue.length < t.holdAt)

/-- R194: a review of a hold that is not in force and does not fall due does nothing. -/
theorem reviewHold_undue {s : State} (h : HoldUndue s.triggers) : reviewHold s = s := by
  obtain ⟨hh, hdue⟩ := h
  unfold reviewHold
  dsimp only
  rw [if_neg, if_neg (by simp [hh])]
  rintro ⟨-, ht, hs, hq⟩
  rcases hdue with h | h | h
  · simp [ht] at h
  · exact h hs
  · exact Nat.not_lt.2 hq h

/-- R186: the tape count of a record, by the transport state last told. -/
theorem countNow_eq (s : State) : countNow s =
    if s.triggers.toldTape ∈ [TapeState.playing, .cueRecord, .windingFwd, .windingRev, .locating]
      then some s.tape.counter else none := by
  unfold countNow
  cases s.triggers.toldTape <;> rfl

/-- R186: a record of the line enters at the tail. -/
def State.entering (kind : TriggerKind) (s : State) : State :=
  s.onTriggers fun t => { t with
    queue := t.queue ++ [⟨t.nextSeq, .line, kind, none, countNow s⟩]
    nextSeq := nextSeq t.nextSeq
    counters := { t.counters with entered := wrapInc t.counters.entered } }

/-- R190, R198: a record of the line finds room. -/
theorem enterFromLine_eq {s : State} (hq : s.triggers.queue.length < 8) (verb : String) (kind : TriggerKind)
    (first : List Field) : enterFromLine verb kind first s = (((s.entering kind).emit .offerHead).emit .reviewHold,
      .accepted verb (first ++ [fi s.triggers.nextSeq, fi (s.triggers.queue.length + 1 : Nat)])) := by
  have hroom : s.triggers.count < Config.queuePlaces := hq
  unfold enterFromLine enterRecord
  dsimp only
  rw [if_pos hroom]
  refine Prod.ext rfl ?_
  simp [accept, Triggers.count]

/-- R198: on a free line the command `i` enters a record of a kind; what its two tellings lead to is its effect. -/
def Enters (i : Instr) (kind : TriggerKind) (verb : String) (first : List Field) (s : State) : Prop :=
  ∀ f : State → State, drain (((s.busyLine.entering kind).emit .offerHead).emit .reviewHold) = f s.busyLine →
    (f s.busyLine).line.buffer = [] → exec i s = .next (s.takes f (.accepted verb
      (first ++ [fi s.triggers.nextSeq, fi (s.triggers.queue.length + 1 : Nat)])))

section
variable {s : State}

theorem showBusy_of_inShow (h : s.engine.state = .running ∨ s.engine.state = .held) : s.showBusy = true := by
  rcases h with h | h <;> simp [State.showBusy, ShowState.inShow, h]

theorem enters_of_handle {i : Instr} {r : Request} {verb : String} {kind : TriggerKind} {first : List Field} (h : LineFree s)
    (hq : s.triggers.queue.length < 8) (hi : exec i s = arrives r s)
    (hr : handle r s.busyLine = enterFromLine verb kind first s.busyLine) : Enters i kind verb first s :=
  fun _ hd hb => hi.trans (arrives_of_drained h (hr.trans (enterFromLine_eq (by exact hq) verb kind first)) hd hb)

/-- R198: NEXT and BACK enter their records. -/
theorem doTrigger_taken (hs : s.showBusy = true) (hq : s.triggers.queue.length < 8) (verb : String) (kind : TriggerKind) :
    doTrigger verb kind s = enterFromLine verb kind [] s := by
  unfold doTrigger
  rw [if_neg (by simp [hs]), if_neg (by exact Nat.not_le.2 hq)]

theorem next_enters (h : LineFree s) (hs : s.engine.state = .running ∨ s.engine.state = .held)
    (hq : s.triggers.queue.length < 8) : Enters .next .next "NEXT" [] s :=
  enters_of_handle (r := .next) h hq rfl (doTrigger_taken (s := s.busyLine) (showBusy_of_inShow (by exact hs)) hq _ _)

theorem back_enters (h : LineFree s) (hs : s.engine.state = .running ∨ s.engine.state = .held)
    (hq : s.triggers.queue.length < 8) : Enters .back .back "BACK" [] s :=
  enters_of_handle (r := .back) h hq rfl (doTrigger_taken (s := s.busyLine) (showBusy_of_inShow (by exact hs)) hq _ _)

/-- R198: JUMP enters its record. -/
theorem jump_enters (h : LineFree s) (hs : s.engine.state = .running ∨ s.engine.state = .held)
    (hq : s.triggers.queue.length < 8) {n : Nat} (h1 : 1 ≤ n) (hn : n ≤ s.engine.steps.length) :
    Enters (.jump n) (.jump n) "JUMP" [fi n] s := by
  refine enters_of_handle (r := .jump n) h hq rfl ?_
  show doJump n s.busyLine = _
  unfold doJump
  rw [if_neg (by simp [showBusy_of_inShow (s := s.busyLine) hs]), if_neg, if_neg (by exact Nat.not_le.2 hq)]
  · rfl
  · have hlen : s.busyLine.engine.steps.length = s.engine.steps.length := rfl
    simp only [outside, hlen, Bool.or_eq_true, decide_eq_true_eq]
    omega
end

/-! ## Taking the head -/

/-- R191: the queue once its head has been taken, with the records `rest` behind it. -/
def Triggers.taking (rest : List Trigger) (t : Triggers) : Triggers :=
  { t with queue := rest, counters := { t.counters with taken := wrapInc t.counters.taken } }

/-- R191: the head record leaves the queue and is counted. -/
def State.headGone (s : State) : State :=
  s.onTriggers fun t => t.taking t.queue.tail

section
variable {s : State} {x : Execution} {r : Trigger} {rest : List Trigger}

theorem headGone_eq (hq : s.triggers.queue = r :: rest) :
    s.headGone = { s with triggers := s.triggers.taking rest } := by
  simp [State.headGone, State.onTriggers, Triggers.taking, hq]

/-- R191: no record is handed over in HELD or at a step that has not settled. -/
theorem offerHead_waits (h : s.engine.state ≠ .running ∨ s.engine.execution.map Execution.phase ≠ some .settled) :
    offerHead s = s := by
  unfold offerHead
  cases s.triggers.count with
  | zero => rfl
  | succ n =>
    unfold takeTriggers
    split
    next x r rest hx hq =>
      rw [if_neg]
      rintro ⟨hr, hp⟩
      rcases h with h | h
      · exact h hr
      · exact h (by simp [hx, hp])
    · rfl

/-- R191: a settled step of a RUNNING show takes the head record that it accepts. -/
theorem offerHead_takes (hx : s.engine.execution = some x) (hr : s.engine.state = .running) (hp : x.phase = .settled)
    (hq : s.triggers.queue = r :: rest) (hu : triggerUsed x (s.engine.present x) r = true) :
    offerHead s = useTrigger x r (reviewHold (reportTrigger "TAKEN" r s.headGone)) := by
  unfold offerHead Triggers.count
  rw [hq, List.length_cons, takeTriggers, hx, hq]
  dsimp only
  rw [if_pos ⟨hr, hp⟩, if_pos (by exact hu), headGone_eq hq]
  rfl

/-- R191: a single record that the step does not accept is discarded. -/
theorem offerHead_discards (hx : s.engine.execution = some x) (hr : s.engine.state = .running) (hp : x.phase = .settled)
    (hq : s.triggers.queue = [r]) (hu : triggerUsed x (s.engine.present x) r = false) :
    offerHead s = reviewHold (reportTrigger "UNUSED" r (s.headGone.onTriggers
      (Triggers.tally fun c => { c with unused := wrapInc c.unused }))) := by
  unfold offerHead Triggers.count
  rw [hq, List.length_singleton, takeTriggers, hx, hq]
  dsimp only
  have hu : ¬ triggerUsed x (s.engine.present x) r = true := by simp [hu]
  rw [if_pos ⟨hr, hp⟩, if_neg (by exact hu), headGone_eq hq]
  rfl
end

end Sys2Proof.Machine

namespace Sys2Proof.Machine

/-! ## Entering a step -/

/-- R193: the queue holds enough NEXT records for the catch-up. -/
abbrev CatchesUp (t : Triggers) : Prop := t.catchUp ≤ t.nextCount

/-- R170: the execution record of a step as its first phase begins. -/
def Execution.begun (n : Nat) (reason : EntryReason) (target : Option Nat) (catchUp : Bool) : Execution :=
  { Execution.entered n reason target .changing with catchUp := catchUp }

/-- R25, R38: the changer rests with its arm seated at another slot than `m`, and its gate motor is free to start. -/
structure ReadyFor (m : Nat) (c : Changer) (p : Pins) : Prop where
  inTray : m < c.size
  elsewhere : m ≠ c.slot
  idle : c.state = .idle
  known : c.status = .known
  noDeadTime : c.gateDead = none
  topOpen : p.topSwitch = false
  seatClosed : p.seatSwitch = true
  seated : c.arm = .seated
  occupied : c.occupancy = occupancyOf .seated p.barrier

/-- R170: a step with its execution record is in progress, its level in force and its entry reported. -/
def State.stepBegun (x : Execution) (st : Step) (word : String) (s : State) : State :=
  { s.report .show ([fw "STEP", fi x.step, fw word, { parts := [numOrNone (x.target.map Int.ofNat)] }] ++
      (if x.catchUp then [fw "CATCHUP"] else [])) with
    engine := { s.engine with execution := some x, level := st.level.getD s.engine.level } }

theorem present_of_stepAt {e e' : Engine} {n : Nat} {st : Step} {x : Execution} (hst : e.stepAt n = some st)
    (hx : x.step = n) (he : e'.steps = e.steps) : e'.present x = st := by
  simp only [Engine.present, hx]
  rw [show e'.stepAt n = e.stepAt n by simp [Engine.stepAt, he], hst]
  rfl

section
variable {s : State} {st : Step} {n : Nat} {reason : EntryReason}

/-- R170: a step with no sound and no tape action begins with its first phase. -/
theorem enterStep_quiet (hst : s.engine.stepAt n = some st) (hsound : st.sound = none) (htape : st.tape = none)
    (hr : reason ≠ .run) (word : String) : enterStep n reason word s =
      (let x := Execution.begun n reason (stepTarget st reason s.changer) (decide (CatchesUp s.triggers))
       startPhase st x (s.stepBegun x st word)) := by
  have hrun : (reason != .run) = true := by simpa using hr
  unfold enterStep
  simp only [hst, Option.getD_some, hrun, Bool.true_and, sendSoundAndTape, hsound, htape]
  rfl

/-- R175: a fade-in that takes time. -/
theorem sendFadeIn_slow {x : Execution} (hst : s.engine.present x = st) (hd : 10 ≤ st.fadeIn) (hx : x.catchUp = false) :
    sendFadeIn x s = { s with
      engine := s.engine.onExec fun x => { x with rampAwaited := true }
      lamp := s.lamp.rampsTo s.engine.level st.fadeIn } := by
  have hd : tenMs st.fadeIn ≠ 0 := by unfold tenMs; omega
  simp only [sendFadeIn, sendRamp, fadeTime, hx, hst]
  exact rampRequest_slow hd .show _

/-- R171: a fade-in under the catch-up flag is complete at once. -/
theorem sendFadeIn_catchUp {x : Execution} (hx : x.catchUp = true) : sendFadeIn x s =
    (({ s with
        engine := s.engine.onExec fun x => { x with rampAwaited := true }
        lamp := { s.lamp.rampsTo s.engine.level 0 with
          value := s.engine.level, ramp := ⟨s.lamp.value, s.engine.level, 0, 0, some .show, false⟩ } } : State).report .lamp
      [fw "DONE", fi s.engine.level]).emit (.rampDone s.engine.level (some .show)) := by
  simp only [sendFadeIn, sendRamp, fadeTime, hx]
  exact rampRequest_atOnce (level := s.engine.level) (duration := 0) rfl .show _

/-- R170, R175: a step with no slide, no sound and no tape action is entered with its fade-in. -/
theorem enterStep_plain (hst : s.engine.stepAt n = some st) (hp : PlainStep st) (hc : ¬ CatchesUp s.triggers)
    (hr : reason ≠ .run) (word : String) : enterStep n reason word s =
      { s.report .show [fw "STEP", fi n, fw word, fw "NONE"] with
        engine := { s.engine with
          level := st.level.getD s.engine.level
          execution := some { Execution.entered n reason none .fadingIn with rampAwaited := true } }
        lamp := s.lamp.rampsTo (st.level.getD s.engine.level) st.fadeIn } := by
  obtain ⟨hslide, hsound, htape, hfade⟩ := hp
  have htarget : stepTarget st reason s.changer = none := by simp [stepTarget, hslide]
  rw [enterStep_quiet hst hsound htape hr, htarget, decide_eq_false hc]
  simp only [startPhase, Execution.begun, Execution.entered]
  rw [sendFadeIn_slow (by exact present_of_stepAt hst rfl rfl) hfade rfl]
  rfl

/-- R26, R170, R171, R174: under the catch-up flag a CUT step begins its shortened change, and its ramp is complete at once. -/
theorem enterStep_catchUp (hst : s.engine.stepAt n = some st) (hsound : st.sound = none) (htape : st.tape = none)
    (hr : reason ≠ .run) (hc : CatchesUp s.triggers) (hcut : st.style = .cut) {m : Nat} (hslide : st.slide = some (.slot m))
    (hready : ReadyFor m s.changer s.pins) (word : String) :
    enterStep n reason word s =
      (({ s.report .show [fw "STEP", fi n, fw word, fi m, fw "CATCHUP"] with
          engine := { s.engine with
            level := st.level.getD s.engine.level
            execution := some { Execution.entered n reason (some m) .changing with
              rampAwaited := true, changeAwaited := true, catchUp := true } }
          changer := s.changer.liftFor ⟨m, .show, false, true⟩
          lamp := { s.lamp.rampsTo (st.level.getD s.engine.level) 0 with
            value := st.level.getD s.engine.level
            ramp := ⟨s.lamp.value, st.level.getD s.engine.level, 0, 0, some .show, false⟩ } } : State).report .lamp
        [fw "DONE", fi (st.level.getD s.engine.level)]).emit (.rampDone (st.level.getD s.engine.level) (some .show)) := by
  have htarget : stepTarget st reason s.changer = some m := by simp [stepTarget, hslide]
  have hchange (u : State) (hu : u.changer = s.changer) (hp : u.pins = s.pins) :
      changerRequest ⟨m, .show, false, true⟩ u =
        (u.onChanger fun c => c.liftFor ⟨m, .show, false, true⟩, none) := by
    obtain ⟨hm, hne, hidle, hk, hd, htop, hseat, ha, hocc⟩ : ReadyFor m u.changer u.pins := by rw [hu, hp]; exact hready
    have hopen : u.changer.shut = false := shut_eq_false (by simp [hidle])
    rw [changerRequest_taken hopen hm, takeRequest_from_seat hidle hd htop hseat ha hocc (.inr (.inl hne))]
    refine congrArg (·, none) (State.onChanger_congr ?_)
    simp [Changer.liftFor, hk]
  rw [enterStep_quiet hst hsound htape hr, htarget, decide_eq_true hc]
  simp only [startPhase, hcut, Execution.begun, Execution.entered, sendChange]
  rw [hchange _ (by rfl) (by rfl), sendFadeIn_catchUp (by rfl)]
  rfl

/-- R174, R179: the ramp of a step that awaits its change too. -/
theorem engineSeesRamp_changing {x : Execution} (hx : s.engine.execution = some x) (hramp : x.rampAwaited = true)
    (hchange : x.changeAwaited = true) (hp : x.phase ≠ .fadingOut) : engineSeesRamp (some .show) s =
      { s with engine := { s.engine with execution := some { x with rampAwaited := false } } } := by
  unfold engineSeesRamp
  rw [hx]
  dsimp only
  rw [if_neg (by simp [hramp]), if_neg hp]
  have hexec : (s.onExec fun x => { x with rampAwaited := false }) =
      { s with engine := { s.engine with execution := some { x with rampAwaited := false } } } := by
    simp [State.onExec, State.onEngine, Engine.onExec, hx]
  rw [hexec]
  unfold trySettle
  dsimp only
  rw [if_pos (by simp [Execution.canSettle, hchange])]
end

/-! ## The end of the show -/

/-- R107, R168: the transport STOP of a tape at rest. -/
theorem tapeCommand_stop {s : State} (hst : s.tape.state = .stopped) (hm : s.tape.motor = .off) (hl : s.tape.locate = none) :
    (tapeCommand .stop s).1 = { s with tape := { s.tape with guard := none, holdPause := false, delivered := 0 } } := by
  have hrefused : tapeRefused .stop s = false := by simp [tapeRefused, hst]
  have hdelivered : (if s.tape.mute = true then 0 else if TapeState.stopped.listening = true then s.tape.value else 0) = 0 := by
    simp [TapeState.listening]
  unfold tapeCommand
  rw [if_neg (by simp [hrefused])]
  simp only [runTapeCommand, endLocate, hl, stopTape, moveTapeTold, Tape.motorOff, hm, if_true, State.onTape, hst, Tape.deliver,
    Tape.outVolume, hdelivered]

/-- R168, R195: the reports of a show that ends with the records `queue` left. -/
def State.endTold (queue : List Trigger) (s : State) : State :=
  if queue = [] then s.report .show [fw "ENDED"]
  else (s.report .show [fw "ENDED"]).report .show [fw "TRIG", fw "FLUSHED", fi queue.length]

@[simp] theorem State.endTold_signals (queue : List Trigger) (s : State) : (s.endTold queue).signals = s.signals := by
  unfold State.endTold; split <;> rfl

/-- R195: the trigger queue once the records left at the end of the show are flushed. -/
def Triggers.ended (t : Triggers) : Triggers :=
  { t with
    queue := [], toldShow := .ended
    counters := { t.counters with flushed := (t.counters.flushed + t.queue.length) % Config.wrap32 } }

/-- R164, R187, R195: the show ENDED: its report, then the records left flushed. -/
theorem setShow_ended {s : State} (hq : s.triggers.toldShow = .running) (hh : s.triggers.hold = false) :
    setShow .ended (s.onEngine fun e => { e with execution := none }) =
      { s.endTold s.triggers.queue with
        engine := { s.engine with state := .ended, execution := none }, triggers := s.triggers.ended } := by
  have hreview (u : State) (hu : u.triggers = s.triggers.ended) : reviewHold u = u :=
    reviewHold_undue ⟨by rw [hu]; exact hh, .inr (.inl (by rw [hu]; simp [Triggers.ended]))⟩
  unfold setShow queueSeesShow
  dsimp only
  have hin : s.triggers.toldShow.inShow = true := by rw [hq]; rfl
  rw [if_pos (by exact ⟨hin, .inr rfl⟩)]
  unfold flushQueue Triggers.count State.endTold
  dsimp only
  by_cases hqueue : s.triggers.queue = []
  · rw [if_pos (by exact congrArg List.length hqueue), hreview _ (by rfl), if_pos hqueue]
    rfl
  · rw [if_neg (by exact fun h => hqueue (List.length_eq_zero_iff.1 h)), hreview _ (by rfl), if_neg hqueue]
    rfl

/-- R168: the show ends with the tape at rest: the lamp and volume ramps to 0 start. -/
theorem endShow_eq {s : State} (hq : s.triggers.toldShow = .running) (hh : s.triggers.hold = false)
    (hst : s.tape.state = .stopped) (hm : s.tape.motor = .off) (hl : s.tape.locate = none) : endShow s =
      { s.endTold s.triggers.queue with
        engine := { s.engine with state := .ended, execution := none }
        lamp := { s.lamp with ramp := ⟨s.lamp.value, 0, 2000, 0, some .show, true⟩, requested := 0 }
        tape := { s.tape with
          guard := none, holdPause := false, delivered := 0, ramp := ⟨s.tape.value, 0, 2000, 0, .show, true⟩ }
        triggers := s.triggers.ended } := by
  have htape : (s.endTold s.triggers.queue).tape = s.tape := by unfold State.endTold; split <;> rfl
  have hlamp : (s.endTold s.triggers.queue).lamp = s.lamp := by unfold State.endTold; split <;> rfl
  unfold endShow sendEnd
  rw [setShow_ended hq hh]
  dsimp only
  generalize s.endTold s.triggers.queue = told at htape hlamp
  rw [tapeCommand_stop (by exact htape ▸ hst) (by exact htape ▸ hm) (by exact htape ▸ hl), rampRequest_slow (by decide)]
  unfold volRequest
  dsimp only
  rw [if_neg (by decide)]
  simp [State.onTape, State.onLamp, htape, hlamp, Config.endRamp, tenMs]

end Sys2Proof.Machine

namespace Sys2Proof.Machine

/-! ## A record of the line, entered -/

section
variable {s : State} {x : Execution} {r : Trigger} {rest : List Trigger}

/-- R190: what the two tellings of an entry lead to. -/
theorem drainAll_entering {v : State} (hs : s.signals = []) (ho : offerHead s = v) (hv : v.signals = []) (n : Nat) :
    drainAll (n + 2) ((s.emit .offerHead).emit .reviewHold) = drainAll n (reviewHold v) := by
  have h1 : receive .offerHead { (s.emit .offerHead).emit .reviewHold with signals := [] } = v := by
    have hquiet : ({ (s.emit .offerHead).emit .reviewHold with signals := [] } : State) = s := State.signals_nil hs
    rw [hquiet]
    exact ho
  rw [drainAll_cons (sig := .offerHead) (rest := [.reviewHold]) (by simp [hs]), h1, hv]
  rw [drainAll_cons (sig := .reviewHold) (rest := []) (by rfl)]
  have h2 : receive .reviewHold { v with signals := [] } = reviewHold v := by rw [State.signals_nil hv]; rfl
  show drainAll n { receive .reviewHold { v with signals := [] } with
    signals := (receive .reviewHold { v with signals := [] }).signals ++ [] } = _
  rw [h2, List.append_nil]

theorem drain_entering {v : State} (hs : s.signals = []) (ho : offerHead s = v) (hv : v.signals = [])
    (hu : HoldUndue v.triggers) : drain ((s.emit .offerHead).emit .reviewHold) = v := by
  unfold drain
  rw [drainAll_entering hs ho hv 998, reviewHold_undue hu, drainAll_nil hv, State.signals_nil hv]

/-- R190: a record that enters where none is handed over waits. -/
theorem Enters.waits {i : Instr} {kind : TriggerKind} {verb : String} {first : List Field} (he : Enters i kind verb first s)
    (h : LineFree s) (hw : s.engine.state = .held ∨ s.engine.execution.map Execution.phase ≠ some .settled)
    (hu : HoldUndue (s.entering kind).triggers) : exec i s = .next ((s.entering kind).answered (.accepted verb
      (first ++ [fi s.triggers.nextSeq, fi (s.triggers.queue.length + 1 : Nat)]))) := by
  have hw : s.engine.state ≠ .running ∨ s.engine.execution.map Execution.phase ≠ some .settled :=
    hw.imp_left fun hh => by simp [hh]
  have hdrain := drain_entering (s := s.busyLine.entering kind) h.2.2.2.2 (offerHead_waits hw) h.2.2.2.2 hu
  rw [he (State.entering kind) hdrain h.2.2.1]
  congr 1
  have ht := h.2.2.2.1
  apply State.eq_of_fields <;> simp [State.takes, State.answered, State.busyLine, State.entering, countNow, ← ht]

/-! ## What a record taken leads to -/

theorem lt_of_stepAt {e : Engine} {n : Nat} {st : Step} (h : e.stepAt (n + 1) = some st) : n < e.steps.length := by
  have h : e.steps[n]? = some st := by simpa [Engine.stepAt] using h
  exact (List.getElem?_eq_some_iff.1 h).1

theorem useTrigger_next (hk : r.kind = .next) {st : Step} (h : s.engine.stepAt (x.step + 1) = some st) :
    useTrigger x r s = enterStep (x.step + 1) .next "NEXT" s := by
  simp only [useTrigger, hk]
  rw [if_pos (lt_of_stepAt h)]

theorem useTrigger_loops (hk : r.kind = .next) (h : s.engine.steps.length ≤ x.step) (hl : s.engine.loop = true) :
    useTrigger x r s = enterStep 1 .next "LOOP" s := by
  simp only [useTrigger, hk]
  rw [if_neg (Nat.not_lt.2 h), if_pos hl]

theorem useTrigger_ends (hk : r.kind = .next) (h : s.engine.steps.length ≤ x.step) (hl : s.engine.loop = false) :
    useTrigger x r s = endShow s := by
  simp only [useTrigger, hk]
  rw [if_neg (Nat.not_lt.2 h), if_neg (by simp [hl])]

/-- R191: the head is handed over, and no hold is in force or falls due. -/
theorem offerHead_hands (hx : s.engine.execution = some x) (hr : s.engine.state = .running) (hp : x.phase = .settled)
    (hq : s.triggers.queue = r :: rest) (hu : triggerUsed x (s.engine.present x) r = true)
    (hh : s.triggers.hold = false)
    (hd : s.triggers.tapeHold = false ∨ s.triggers.toldShow ≠ .running ∨ rest.length < s.triggers.holdAt) :
    offerHead s = useTrigger x r (reportTrigger "TAKEN" r s.headGone) := by
  rw [offerHead_takes hx hr hp hq hu, headGone_eq hq, reviewHold_undue (by exact ⟨hh, hd⟩)]

/-- R191: the report of the head taken. -/
def takenFields (r : Trigger) : List Field := [fw "TRIG", fw "TAKEN", fi r.seq, fw r.source.word, fw r.kind.word]

/-- R170, R191: the head is handed over and enters a plain step. -/
theorem offerHead_plain {n : Nat} {reason : EntryReason} {word : String} {st : Step} (hx : s.engine.execution = some x)
    (hr : s.engine.state = .running) (hp : x.phase = .settled) (hq : s.triggers.queue = r :: rest)
    (hu : triggerUsed x (s.engine.present x) r = true) (hh : s.triggers.hold = false)
    (hd : s.triggers.tapeHold = false ∨ s.triggers.toldShow ≠ .running ∨ rest.length < s.triggers.holdAt)
    (huse : ∀ u : State, u.engine = s.engine → useTrigger x r u = enterStep n reason word u)
    (hst : s.engine.stepAt n = some st) (hplain : PlainStep st) (hc : ¬ CatchesUp (s.triggers.taking rest))
    (hrun : reason ≠ .run) : offerHead s =
      { (s.report .show (takenFields r)).report .show [fw "STEP", fi n, fw word, fw "NONE"] with
        engine := { s.engine with
          level := st.level.getD s.engine.level
          execution := some { Execution.entered n reason none .fadingIn with rampAwaited := true } }
        lamp := s.lamp.rampsTo (st.level.getD s.engine.level) st.fadeIn
        triggers := s.triggers.taking rest } := by
  rw [offerHead_hands hx hr hp hq hu hh hd, headGone_eq hq, huse _ (by rfl),
    enterStep_plain (by exact hst) hplain (by exact hc) hrun]
  rfl
end

end Sys2Proof.Machine

namespace Sys2Proof.Machine

/-! ## The refusals -/

section
variable {s : State}

/-- R198: outside a show NEXT and BACK are refused. -/
theorem doTrigger_outside (hs : s.showBusy = false) (verb : String) (kind : TriggerKind) :
    doTrigger verb kind s = (s, .refused .state verb) := by simp [doTrigger, hs, refuse]

/-- R198: NEXT and BACK are refused at a full queue. -/
theorem doTrigger_full (hs : s.showBusy = true) (hq : 8 ≤ s.triggers.queue.length) (verb : String) (kind : TriggerKind) :
    doTrigger verb kind s = (s, .refused .full verb) := by
  unfold doTrigger
  rw [if_neg (by simp [hs]), if_pos (by exact hq)]
  rfl

/-- R198: JUMP outside a show, outside the step list and at a full queue. -/
theorem doJump_outside (hs : s.showBusy = false) (n : Int) : doJump n s = (s, .refused .state "JUMP") := by
  simp [doJump, hs, refuse]

theorem doJump_range (hs : s.showBusy = true) {n : Int} (hn : n < 1 ∨ s.engine.steps.length < n) :
    doJump n s = (s, .refused .range "JUMP") := by
  unfold doJump
  rw [if_neg (by simp [hs]), if_pos (by simpa [outside] using hn)]
  rfl

theorem doJump_full (hs : s.showBusy = true) (hq : 8 ≤ s.triggers.queue.length) {n : Nat} (h1 : 1 ≤ n)
    (hn : n ≤ s.engine.steps.length) : doJump n s = (s, .refused .full "JUMP") := by
  unfold doJump
  rw [if_neg (by simp [hs]), if_neg (by simp only [outside, Bool.or_eq_true, decide_eq_true_eq]; omega), if_pos (by exact hq)]
  rfl
end

theorem entering_eq (kind : TriggerKind) (s : State) : (s.onTriggers fun t => { t with
    queue := t.queue ++ [⟨t.nextSeq, .line, kind, none,
      if t.toldTape ∈ [TapeState.playing, .cueRecord, .windingFwd, .windingRev, .locating]
      then some s.tape.counter else none⟩]
    nextSeq := (t.nextSeq + 1) % 65536
    counters := { t.counters with entered := (t.counters.entered + 1) % 4294967296 } }) = s.entering kind := by
  unfold State.entering
  rw [countNow_eq]
  rfl

/-! ## A settled step that waits for a record -/

/-- R186: the queue once a record of the line has entered and has been taken. -/
def Triggers.passed (t : Triggers) : Triggers :=
  { t with
    nextSeq := Machine.nextSeq t.nextSeq
    counters := { t.counters with entered := wrapInc t.counters.entered, taken := wrapInc t.counters.taken } }

/-- R186: the record of the line that enters now. -/
def State.lineRecord (kind : TriggerKind) (s : State) : Trigger := ⟨s.triggers.nextSeq, .line, kind, none, countNow s⟩

section
variable {s : State} {x : Execution} {i : Instr} {kind : TriggerKind} {verb : String} {first : List Field}

theorem entering_queue (hq : s.triggers.queue = []) (kind : TriggerKind) :
    (s.entering kind).triggers.queue = [s.lineRecord kind] := by
  simp [State.entering, hq, State.lineRecord]

theorem entering_taking (hq : s.triggers.queue = []) (kind : TriggerKind) :
    (s.entering kind).triggers.taking [] = s.triggers.passed := by
  simp [State.entering, Triggers.taking, Triggers.passed, hq]

theorem passed_undue (hq : s.triggers.queue = []) (hh : s.triggers.hold = false) (hat : 1 ≤ s.triggers.holdAt) :
    HoldUndue s.triggers.passed := by
  refine ⟨hh, .inr (.inr ?_)⟩
  show s.triggers.queue.length < s.triggers.holdAt
  rw [hq]
  exact hat

/-- R198: the reply of a record that entered an empty queue. -/
theorem Enters.alone (he : Enters i kind verb first s) (hq : s.triggers.queue = []) {f : State → State}
    (hd : drain (((s.busyLine.entering kind).emit .offerHead).emit .reviewHold) = f s.busyLine)
    (hb : (f s.busyLine).line.buffer = []) :
    exec i s = .next (s.takes f (.accepted verb (first ++ [fi s.triggers.nextSeq, fi (1 : Nat)]))) := by
  have hlen : s.triggers.queue.length + 1 = 1 := by rw [hq]; rfl
  have hexec := he f hd hb
  rw [hlen] at hexec
  exact hexec

/-- R170, R191: the record enters a plain step. -/
theorem Enters.settled_plain (he : Enters i kind verb first s) (h : LineFree s) (hx : s.engine.execution = some x)
    (hr : s.engine.state = .running) (hp : x.phase = .settled) (hq : s.triggers.queue = []) (hh : s.triggers.hold = false)
    (hat : 1 ≤ s.triggers.holdAt) (hcatch : 1 ≤ s.triggers.catchUp) {n : Nat} {reason : EntryReason} {word : String}
    {st : Step} (hu : triggerUsed x (s.engine.present x) (s.lineRecord kind) = true)
    (huse : ∀ u : State, u.engine = s.engine → useTrigger x (s.lineRecord kind) u = enterStep n reason word u)
    (hrun : reason ≠ .run) (hst : s.engine.stepAt n = some st) (hplain : PlainStep st) :
    exec i s = .next { s.takes (fun u => (u.report .show (takenFields (s.lineRecord kind))).report .show
        [fw "STEP", fi n, fw word, fw "NONE"]) (.accepted verb (first ++ [fi s.triggers.nextSeq, fi (1 : Nat)])) with
      engine := { s.engine with
        level := st.level.getD s.engine.level
        execution := some { Execution.entered n reason none .fadingIn with rampAwaited := true } }
      lamp := s.lamp.rampsTo (st.level.getD s.engine.level) st.fadeIn
      triggers := s.triggers.passed } := by
  have hc : ¬ CatchesUp ((s.busyLine.entering kind).triggers.taking []) := Nat.not_le.2 hcatch
  have htake := offerHead_plain (s := s.busyLine.entering kind) hx hr hp (entering_queue (s := s.busyLine) hq kind) hu hh
    (.inr (.inr hat)) huse hst hplain hc hrun
  rw [entering_taking (s := s.busyLine) hq] at htake
  have hdrain := drain_entering (s := s.busyLine.entering kind) h.2.2.2.2 htake h.2.2.2.2 (passed_undue hq hh hat)
  exact he.alone hq (f := fun u => { (u.report .show (takenFields (s.lineRecord kind))).report .show
      [fw "STEP", fi n, fw word, fw "NONE"] with
    engine := { s.engine with
      level := st.level.getD s.engine.level
      execution := some { Execution.entered n reason none .fadingIn with rampAwaited := true } }
    lamp := s.lamp.rampsTo (st.level.getD s.engine.level) st.fadeIn
    triggers := s.triggers.passed }) hdrain (by simpa [State.busyLine] using h.2.2.1)

/-- R191: a BACK at step 1 is discarded. -/
theorem back_unused (h : LineFree s) (hx : s.engine.execution = some x) (hr : s.engine.state = .running)
    (hp : x.phase = .settled) (hq : s.triggers.queue = []) (hh : s.triggers.hold = false) (hat : 1 ≤ s.triggers.holdAt)
    (h1 : x.step = 1) : exec .back s = .next { s.takes
        (fun u => u.report .show [fw "TRIG", fw "UNUSED", fi s.triggers.nextSeq, fw "LINE", fw "BACK"])
        (.accepted "BACK" ([] ++ [fi s.triggers.nextSeq, fi (1 : Nat)])) with
      triggers := s.triggers.passed.tally fun c => { c with unused := wrapInc c.unused } } := by
  have hin : s.engine.state = .running ∨ s.engine.state = .held := .inl hr
  have hqueue := entering_queue (s := s.busyLine) hq .back
  have hundue := passed_undue hq hh hat
  have htake := offerHead_discards (s := s.busyLine.entering .back) hx hr hp hqueue
    (by simp [triggerUsed, State.lineRecord, h1])
  rw [headGone_eq hqueue, entering_taking (s := s.busyLine) hq, reviewHold_undue (by exact hundue)] at htake
  have hdrain := drain_entering (s := s.busyLine.entering .back) h.2.2.2.2 htake h.2.2.2.2 hundue
  exact (back_enters h hin (by simp [hq])).alone hq (f := fun u => {
    u.report .show [fw "TRIG", fw "UNUSED", fi s.triggers.nextSeq, fw "LINE", fw "BACK"] with
    triggers := s.triggers.passed.tally fun c => { c with unused := wrapInc c.unused } }) hdrain
    (by simpa [State.busyLine] using h.2.2.1)

/-- R168: a NEXT at the last step ends the show. -/
theorem next_ends (h : LineFree s) (hx : s.engine.execution = some x) (hr : s.engine.state = .running)
    (hp : x.phase = .settled) (hq : s.triggers.queue = []) (hh : s.triggers.hold = false) (hat : 1 ≤ s.triggers.holdAt)
    (hlast : s.engine.steps.length ≤ x.step) (hloop : s.engine.loop = false) (htold : s.triggers.toldShow = .running)
    (hst : s.tape.state = .stopped) (hm : s.tape.motor = .off) (hl : s.tape.locate = none) :
    exec .next s = .next { s.takes (fun u => (u.report .show (takenFields (s.lineRecord .next))).report .show [fw "ENDED"])
        (.accepted "NEXT" ([] ++ [fi s.triggers.nextSeq, fi (1 : Nat)])) with
      engine := { s.engine with state := .ended, execution := none }
      lamp := { s.lamp with ramp := ⟨s.lamp.value, 0, 2000, 0, some .show, true⟩, requested := 0 }
      tape := { s.tape with
        guard := none, holdPause := false, delivered := 0, ramp := ⟨s.tape.value, 0, 2000, 0, .show, true⟩ }
      triggers := s.triggers.passed.ended } := by
  have hin : s.engine.state = .running ∨ s.engine.state = .held := .inl hr
  have hqueue := entering_queue (s := s.busyLine) hq .next
  have htake := offerHead_hands (s := s.busyLine.entering .next) hx hr hp hqueue rfl hh (.inr (.inr hat))
  rw [useTrigger_ends rfl (by exact hlast) (by exact hloop), headGone_eq hqueue, entering_taking (s := s.busyLine) hq,
    endShow_eq (by exact htold) (by exact hh) (by exact hst) (by exact hm) (by exact hl)] at htake
  have hnone : s.busyLine.triggers.passed.queue = [] := hq
  have htold' (u : State) : u.endTold [] = u.report .show [fw "ENDED"] := if_pos rfl
  dsimp only [reportTrigger, State.report_triggers] at htake
  rw [hnone, htold'] at htake
  have hdrain := drain_entering (s := s.busyLine.entering .next) h.2.2.2.2 htake h.2.2.2.2
    ⟨hh, .inr (.inl (by simp [Triggers.ended]))⟩
  exact (next_enters h hin (by simp [hq])).alone hq (f := fun u => {
    (u.report .show (takenFields (s.lineRecord .next))).report .show [fw "ENDED"] with
    engine := { s.engine with state := .ended, execution := none }
    lamp := { s.lamp with ramp := ⟨s.lamp.value, 0, 2000, 0, some .show, true⟩, requested := 0 }
    tape := { s.tape with
      guard := none, holdPause := false, delivered := 0, ramp := ⟨s.tape.value, 0, 2000, 0, .show, true⟩ }
    triggers := s.triggers.passed.ended }) hdrain (by simpa [State.busyLine] using h.2.2.1)

theorem passed_ended (hq : s.triggers.queue = []) : s.triggers.passed.ended = { s.triggers.passed with
    toldShow := .ended
    counters := { s.triggers.passed.counters with flushed := s.triggers.counters.flushed % Config.wrap32 } } := by
  simp [Triggers.passed, Triggers.ended, hq]
end

end Sys2Proof.Machine

namespace Sys2Proof.Machine

/-! ## The hold of the tape -/

/-- R112, R194: the hold is in force, and QUEUE is a pause reason. -/
def State.holding (s : State) : State :=
  { s with
    triggers := { s.triggers with hold := true }
    tape := { s.tape with reasons := { s.tape.reasons with byQueue := true } } }

section
variable {s : State}

/-- R194: the hold falls due. -/
theorem reviewHold_due (hh : s.triggers.hold = false) (ht : s.triggers.tapeHold = true)
    (hs : s.triggers.toldShow = .running) (hd : s.triggers.holdAt ≤ s.triggers.queue.length)
    (hq : s.tape.reasons.byQueue = false) : reviewHold s =
      (holdTape s.holding).report .show [fw "TRIG", fw "HOLD", fi (holdTape s.holding).triggers.count] := by
  unfold reviewHold
  dsimp only
  rw [if_pos ⟨hh, ht, hs, hd⟩]
  have hholds : queueHolds (s.onTriggers fun t => { t with hold := true }) = holdTape s.holding := by
    unfold queueHolds
    rw [if_neg (by rw [State.onTriggers_tape, hq]; simp)]
    rfl
  rw [hholds]

/-- R194: the hold falls due while the tape does not play. -/
theorem reviewHold_due_quiet (hh : s.triggers.hold = false) (ht : s.triggers.tapeHold = true)
    (hs : s.triggers.toldShow = .running) (hd : s.triggers.holdAt ≤ s.triggers.queue.length)
    (hq : s.tape.reasons.byQueue = false) (hst : s.tape.state ≠ .playing) : reviewHold s =
      s.holding.report .show [fw "TRIG", fw "HOLD", fi s.triggers.queue.length] := by
  rw [reviewHold_due hh ht hs hd hq, holdTape_of_not_playing (by exact hst)]
  rfl

/-- R112, R194: the hold falls due and pauses a playing tape. -/
theorem reviewHold_due_playing (hh : s.triggers.hold = false) (ht : s.triggers.tapeHold = true)
    (hs : s.triggers.toldShow = .running) (hd : s.triggers.holdAt ≤ s.triggers.queue.length)
    (hq : s.tape.reasons.byQueue = false) (hst : s.tape.state = .playing) (hm : s.tape.motor = .play) : reviewHold s =
      ({ (s.holding.report .tape [fw "PAUSED", fw "HOLD"]).report .show [fw "TRIG", fw "HOLD", fi s.triggers.queue.length] with
        tape := { s.holding.tape with
          state := .paused, holdPause := true, motor := .off, rest := 0, endTimer := 0, delivered := 0 }
        triggers := { s.holding.triggers with toldTape := .paused } } : State).emit (.tapeMoved .playing .paused) := by
  rw [reviewHold_due hh ht hs hd hq, holdTape_playing (by exact hst) (by exact hm)]
  rfl
end

/-- R194: no step takes the record of the line that brings the show's queue to the hold. -/
structure HoldFallsDue (s : State) : Prop where
  waits : s.engine.execution.map Execution.phase ≠ some .settled
  free : s.triggers.hold = false
  allowed : s.triggers.tapeHold = true
  running : s.triggers.toldShow = .running
  reached : s.triggers.holdAt ≤ s.triggers.queue.length + 1
  fresh : s.tape.reasons.byQueue = false

section
variable {s : State} {i : Instr} {kind : TriggerKind} {verb : String} {first : List Field}

theorem entering_length (kind : TriggerKind) (s : State) :
    (s.entering kind).triggers.queue.length = s.triggers.queue.length + 1 := by
  simp [State.entering]

/-- R190, R194: a record enters, and the hold falls due while the tape does not play. -/
theorem Enters.holds_quiet (he : Enters i kind verb first s) (h : LineFree s) (hd : HoldFallsDue s)
    (hst : s.tape.state ≠ .playing) : exec i s = .next (s.takes (fun u => (u.entering kind).holding.report .show
      [fw "TRIG", fw "HOLD", fi (s.triggers.queue.length + 1 : Nat)]) (.accepted verb
        (first ++ [fi s.triggers.nextSeq, fi (s.triggers.queue.length + 1 : Nat)]))) := by
  have hlen : s.triggers.holdAt ≤ (s.busyLine.entering kind).triggers.queue.length := by
    rw [entering_length]; exact hd.reached
  have hreview := reviewHold_due_quiet (s := s.busyLine.entering kind) hd.free hd.allowed hd.running hlen hd.fresh hst
  rw [entering_length] at hreview
  refine he _ ?_ (by simpa [State.busyLine, State.holding, State.entering] using h.2.2.1)
  unfold drain
  rw [drainAll_entering (s := s.busyLine.entering kind) h.2.2.2.2 (offerHead_waits (.inr hd.waits)) h.2.2.2.2 998, hreview,
    drainAll_nil (by exact h.2.2.2.2), State.signals_nil (by exact h.2.2.2.2)]
  rfl

/-- R112, R129, R190, R194: a record enters, and the hold falls due and pauses a playing tape. -/
theorem Enters.holds_playing (he : Enters i kind verb first s) (h : LineFree s) (hd : HoldFallsDue s)
    (hst : s.tape.state = .playing) (hm : s.tape.motor = .play) (hcue : CueQuiet s.cue) :
    exec i s = .next { s.takes (fun u => ((u.entering kind).holding.report .tape [fw "PAUSED", fw "HOLD"]).report .show
        [fw "TRIG", fw "HOLD", fi (s.triggers.queue.length + 1 : Nat)]) (.accepted verb
          (first ++ [fi s.triggers.nextSeq, fi (s.triggers.queue.length + 1 : Nat)])) with
      tape := { (s.entering kind).holding.tape with
        state := .paused, holdPause := true, motor := .off, rest := 0, endTimer := 0, delivered := 0 }
      triggers := { (s.entering kind).holding.triggers with toldTape := .paused }
      cue := s.cue.ended s.now } := by
  have hlen : s.triggers.holdAt ≤ (s.busyLine.entering kind).triggers.queue.length := by
    rw [entering_length]; exact hd.reached
  have hreview := reviewHold_due_playing (s := s.busyLine.entering kind) hd.free hd.allowed hd.running hlen hd.fresh hst hm
  rw [entering_length] at hreview
  refine he (fun u => { ((u.entering kind).holding.report .tape [fw "PAUSED", fw "HOLD"]).report .show
      [fw "TRIG", fw "HOLD", fi (s.triggers.queue.length + 1 : Nat)] with
    tape := { (s.entering kind).holding.tape with
      state := .paused, holdPause := true, motor := .off, rest := 0, endTimer := 0, delivered := 0 }
    triggers := { (s.entering kind).holding.triggers with toldTape := .paused }
    cue := s.cue.ended s.now }) ?_ (by simpa [State.busyLine, State.holding, State.entering] using h.2.2.1)
  have hdrain := drainAll_entering (s := s.busyLine.entering kind) h.2.2.2.2 (offerHead_waits (.inr hd.waits)) h.2.2.2.2 998
  obtain ⟨k, hk, hall⟩ := drainAll_paused (s := reviewHold (s.busyLine.entering kind)) (rest := [])
    (by rw [hreview]; exact hcue) (by rw [hreview]; simp [State.holding, State.entering, State.busyLine, h.2.2.2.2])
  have hrest := hall (998 - k)
  rw [Nat.sub_add_cancel (by omega), drainAll_nil
    (s := { reviewHold (s.busyLine.entering kind) with
      signals := [], cue := (reviewHold (s.busyLine.entering kind)).cue.ended (reviewHold (s.busyLine.entering kind)).now }) rfl]
    at hrest
  unfold drain
  rw [hdrain, hrest, hreview]
  refine Eq.trans ?_ (State.signals_nil (by exact h.2.2.2.2))
  rfl
end

end Sys2Proof.Machine

namespace Sys2Proof.Machine

/-! ## A step settles -/

/-- The tellings that wait where one was told last and no other waits. -/
theorem drainAll_emit {s : State} (hs : s.signals = []) (sig : Signal) (n : Nat) :
    drainAll (n + 1) (s.emit sig) = drainAll n (receive sig s) := by
  have hquiet : ({ s.emit sig with signals := [] } : State) = s := State.signals_nil hs
  rw [drainAll_cons (sig := sig) (rest := []) (by simp [hs]), hquiet, List.append_nil]

theorem receive_rampDone (level : Nat) (origin : Option RampOrigin) (s : State) :
    receive (.rampDone level origin) s = engineSeesRamp origin s := rfl

/-- R177: the execution record of a step that has settled. -/
def Execution.settledIn (e : Engine) (x : Execution) : Execution :=
  { x with
    phase := .settled, dwell := (e.present x).advance.dwellMs
    dwellRuns := (e.present x).advance.dwellMs.isSome && e.state == .running }

/-- R177, R191: a step that awaits nothing settles, and the queue is told. -/
theorem trySettle_settles {s : State} {x : Execution} (hx : s.engine.execution = some x) (hc : x.canSettle = true) :
    ∃ y : Execution, y.step = x.step ∧ y.phase = .settled ∧ trySettle s =
      (({ s with engine := { s.engine with execution := some y } } : State).report .show [fw "SETTLED", fi x.step]).emit
        .offerHead := by
  refine ⟨x.settledIn s.engine, rfl, rfl, ?_⟩
  unfold trySettle
  rw [hx]
  dsimp only
  rw [if_neg (by simp [hc])]
  simp [State.onExec, State.onEngine, Engine.onExec, hx, Execution.settledIn]

/-- R176: the engine as the step in progress has reached a slot. -/
def Engine.reaching (n : Nat) (slot : Nat) (e : Engine) : Engine :=
  { e with steps := e.steps.modify (n - 1) fun st => { st with reached := some slot } }

/-- R176: a slot reached leaves the style and the advance of the step in progress. -/
theorem reaching_present (e : Engine) (x : Execution) (n slot : Nat) :
    ((e.reaching n slot).present x).style = (e.present x).style ∧
      ((e.reaching n slot).present x).advance = (e.present x).advance := by
  unfold Engine.present Engine.stepAt Engine.reaching
  by_cases h0 : x.step = 0
  · simp [h0]
  · rw [if_neg h0, if_neg h0]
    dsimp only
    rw [List.getElem?_modify]
    cases e.steps[x.step - 1]? with
    | none => exact ⟨rfl, rfl⟩
    | some st =>
      by_cases h : n - 1 = x.step - 1
      · simp [h]
      · simp [h]

/-- R176: a slot reached leaves the other steps. -/
theorem reaching_stepAt (e : Engine) {n : Nat} (h1 : 1 ≤ n) (slot : Nat) :
    (e.reaching n slot).stepAt (n + 1) = e.stepAt (n + 1) := by
  have hne : ¬ n - 1 = n := by omega
  simp [Engine.stepAt, Engine.reaching, hne]

/-- R174: the change of a CUT step is done, its ramp being done already. -/
theorem changeIsDone_cut {s : State} {x : Execution} (hcut : (s.engine.present x).style = .cut) (hr : x.rampAwaited = false) :
    changeIsDone x s = trySettle (s.onExec fun x => { x with changeAwaited := false }) := by
  have hcut : ((s.onExec fun x => { x with changeAwaited := false }).engine.present x).style = .cut := hcut
  unfold changeIsDone
  dsimp only
  rw [hcut]
  dsimp only
  rw [if_neg (by simp [hr])]

/-- R174, R176, R177: the change of a CUT step that awaits nothing else is done, and the step settles. -/
theorem engineSeesChange_settles {s : State} {x : Execution} {slot : Nat} (hx : s.engine.execution = some x)
    (hp : x.phase = .changing) (hc : x.changeAwaited = true) (ht : x.target = some slot) (hr : x.rampAwaited = false)
    (htape : x.tape = .none ∨ x.tape = .ready) (hd : x.deferred = .none) (hcut : (s.engine.present x).style = .cut) :
    ∃ y : Execution, y.step = x.step ∧ y.phase = .settled ∧ engineSeesChange slot .show s =
      (({ s with engine := { s.engine.reaching x.step slot with execution := some y } } : State).report .show
        [fw "SETTLED", fi x.step]).emit .offerHead := by
  have hreach : s.onEngine (Engine.changeStep x.step fun st => { st with reached := some slot }) =
      { s with engine := s.engine.reaching x.step slot } := rfl
  have hdone : State.onExec (fun x => { x with changeAwaited := false }) { s with engine := s.engine.reaching x.step slot } =
      { s with engine := { s.engine.reaching x.step slot with execution := some { x with changeAwaited := false } } } := by
    simp [State.onExec, State.onEngine, Engine.onExec, Engine.reaching, hx]
  have hcan : Execution.canSettle { x with changeAwaited := false } = true := by
    rcases htape with h | h <;> simp [Execution.canSettle, hr, h, hd, hp]
  have hsee : engineSeesChange slot .show s =
      trySettle { s with engine := { s.engine.reaching x.step slot with execution := some { x with changeAwaited := false } } } := by
    unfold engineSeesChange
    rw [hx]
    dsimp only
    rw [if_pos ⟨hc, rfl, ht⟩, hreach, changeIsDone_cut (by exact (reaching_present _ _ _ _).1.trans hcut) hr, hdone]
  obtain ⟨y, hstep, hphase, hsettle⟩ := trySettle_settles (s := { s with
    engine := { s.engine.reaching x.step slot with execution := some { x with changeAwaited := false } } }) rfl hcan
  exact ⟨y, hstep, hphase, hsee.trans hsettle⟩

/-- R173, R175, R177: the ramp of a step in FADING_IN that awaits nothing else is done, and the step settles. -/
theorem engineSeesRamp_settles {s : State} {x : Execution} (hx : s.engine.execution = some x) (hp : x.phase = .fadingIn)
    (hr : x.rampAwaited = true) (ha : AwaitsOnlyItsRamp x) :
    ∃ y : Execution, y.step = x.step ∧ y.phase = .settled ∧ engineSeesRamp (some .show) s =
      (({ s with engine := { s.engine with execution := some y } } : State).report .show [fw "SETTLED", fi x.step]).emit
        .offerHead := by
  obtain ⟨hc, htape, hd⟩ := ha
  have hdone : s.onExec (fun x => { x with rampAwaited := false }) =
      { s with engine := { s.engine with execution := some { x with rampAwaited := false } } } := by
    simp [State.onExec, State.onEngine, Engine.onExec, hx]
  have hcan : Execution.canSettle { x with rampAwaited := false } = true := by
    rcases htape with h | h <;> simp [Execution.canSettle, hc, h, hd, hp]
  have hsee : engineSeesRamp (some .show) s =
      trySettle { s with engine := { s.engine with execution := some { x with rampAwaited := false } } } := by
    unfold engineSeesRamp
    rw [hx]
    dsimp only
    rw [if_neg (by simp [hr]), if_neg (by simp [hp]), hdone]
  obtain ⟨y, hstep, hphase, hsettle⟩ := trySettle_settles (s := { s with
    engine := { s.engine with execution := some { x with rampAwaited := false } } }) rfl hcan
  exact ⟨y, hstep, hphase, hsee.trans hsettle⟩

/-! ## The head taken as a step settles -/

section
variable {s : State} {x : Execution} {r : Trigger} {rest : List Trigger} {st : Step}

/-- R191: the engine and the queue of a RUNNING show, its step settled, with a NEXT at the head that the step accepts. -/
structure HeadAccepted (x : Execution) (r : Trigger) (rest : List Trigger) (s : State) : Prop where
  inStep : s.engine.execution = some x
  running : s.engine.state = .running
  settled : x.phase = .settled
  queue : s.triggers.queue = r :: rest
  isNext : r.kind = .next
  accepted : (s.engine.present x).advance.accepts r.source = true

theorem HeadAccepted.used (h : HeadAccepted x r rest s) : triggerUsed x (s.engine.present x) r = true := by
  simp [triggerUsed, h.isNext, h.accepted]

theorem HeadAccepted.nextFields (h : HeadAccepted x r rest s) :
    takenFields r = [fw "TRIG", fw "TAKEN", fi r.seq, fw r.source.word, fw "NEXT"] := by
  simp [takenFields, h.isNext, TriggerKind.word]

/-- R170, R175: the head enters a plain step, with too few NEXT records behind it for the catch-up. -/
theorem HeadAccepted.enters_plain (h : HeadAccepted x r rest s) (hs : s.signals = []) (hh : s.triggers.hold = false)
    (hd : s.triggers.tapeHold = false ∨ s.triggers.toldShow ≠ .running ∨ rest.length < s.triggers.holdAt)
    (hst : s.engine.stepAt (x.step + 1) = some st) (hplain : PlainStep st) (hc : ¬ CatchesUp (s.triggers.taking rest))
    (n : Nat) : ({ drainAll n (offerHead s) with signals := [] } : State) =
      { (s.report .show (takenFields r)).report .show [fw "STEP", fi (x.step + 1 : Nat), fw "NEXT", fw "NONE"] with
        engine := { s.engine with
          level := st.level.getD s.engine.level
          execution := some { Execution.entered (x.step + 1) .next none .fadingIn with rampAwaited := true } }
        lamp := s.lamp.rampsTo (st.level.getD s.engine.level) st.fadeIn
        triggers := s.triggers.taking rest } := by
  rw [offerHead_plain h.inStep h.running h.settled h.queue h.used hh hd
    (fun u he => useTrigger_next h.isNext (by rw [he]; exact hst)) hst hplain hc (by simp), drainAll_nil (by exact hs)]
  exact State.signals_nil (by exact hs)

/-- R170, R171, R174: the head enters a CUT step under the catch-up flag, and its ramp is done at once. -/
theorem HeadAccepted.catches_up (h : HeadAccepted x r rest s) (hs : s.signals = []) (hh : s.triggers.hold = false)
    (hd : s.triggers.tapeHold = false ∨ s.triggers.toldShow ≠ .running ∨ rest.length < s.triggers.holdAt)
    (hst : s.engine.stepAt (x.step + 1) = some st) (hsound : st.sound = none) (htape : st.tape = none)
    (hcut : st.style = .cut) {m : Nat} (hslide : st.slide = some (.slot m)) (hc : CatchesUp (s.triggers.taking rest))
    (hready : ReadyFor m s.changer s.pins) (n : Nat) :
    ({ drainAll (n + 1) (offerHead s) with signals := [] } : State) =
      { ((s.report .show (takenFields r)).report .show
          [fw "STEP", fi (x.step + 1 : Nat), fw "NEXT", fi m, fw "CATCHUP"]).report .lamp
          [fw "DONE", fi (st.level.getD s.engine.level)] with
        engine := { s.engine with
          level := st.level.getD s.engine.level
          execution := some { Execution.entered (x.step + 1) .next (some m) .changing with
            changeAwaited := true, catchUp := true } }
        changer := s.changer.liftFor ⟨m, .show, false, true⟩
        lamp := { s.lamp.rampsTo (st.level.getD s.engine.level) 0 with
          value := st.level.getD s.engine.level
          ramp := ⟨s.lamp.value, st.level.getD s.engine.level, 0, 0, some .show, false⟩ }
        triggers := s.triggers.taking rest } := by
  rw [offerHead_hands h.inStep h.running h.settled h.queue h.used hh hd, headGone_eq h.queue,
    useTrigger_next h.isNext (by exact hst), enterStep_catchUp (by exact hst) hsound htape (by simp) (by exact hc) hcut hslide
      (by exact hready), drainAll_emit (by exact hs)]
  rw [receive_rampDone, engineSeesRamp_changing (by rfl) (by rfl) (by rfl) (by simp [Execution.entered]), drainAll_nil (by exact hs)]
  exact State.signals_nil (by exact hs)
end

end Sys2Proof.Machine

namespace Sys2Proof.Machine

/-! ## The change of a step settles with records waiting -/

/-- R31, R174, R177: the settle time has ended, and with it the change and the step; `y` is its execution record. -/
def State.changeSettled (b : Target) (x y : Execution) (s : State) : State :=
  { (s.report .slide [fi b.slot, fw (if s.changer.occupancy = .slide then "SEATED" else "EMPTY")]).report .show
      [fw "SETTLED", fi x.step] with
    changer := { s.changer with state := .idle, inFlight := none, phaseTimer := none, settleTimer := none }
    engine := { s.engine.reaching x.step b.slot with execution := some y } }

/-- R174, R176, R177: a CUT step awaits the change `b` that the changer settles, and nothing else. -/
structure AwaitsItsSettle (x : Execution) (b : Target) (s : State) : Prop where
  quiet : s.signals = []
  inStep : s.engine.execution = some x
  changing : x.phase = .changing
  awaited : x.changeAwaited = true
  target : x.target = some b.slot
  rampDone : x.rampAwaited = false
  tapeDone : x.tape = .none ∨ x.tape = .ready
  notDeferred : x.deferred = .none
  cut : (s.engine.present x).style = .cut
  settling : s.changer.state = .settling
  inFlight : s.changer.inFlight = some b
  ofShow : b.origin = .show
  nonePending : s.changer.pendingTarget = none
  notFresh : s.lamp.gateCleared = false

section
variable {s : State} {x y : Execution} {b : Target} {r : Trigger} {rest : List Trigger}

/-- R31, R177: at the end of the settle time the step settles, and the head is offered to it. -/
theorem AwaitsItsSettle.settles (h : AwaitsItsSettle x b s) : ∃ y : Execution, y.step = x.step ∧ y.phase = .settled ∧
    exec .settleEnd s = .next { drainAll 998 (offerHead (s.changeSettled b x y)) with signals := [] } := by
  have hseen : dwellSeen (seatedWord s.changer.occupancy) b s =
      s.report .slide [fi b.slot, fw (seatedWord s.changer.occupancy)] := (dwellSeesCompletion_frame _ _).2 (.inr h.notFresh)
  have hends : settleEnds s = ((s.report .slide [fi b.slot, fw (seatedWord s.changer.occupancy)]).onChanger fun c => { c with
      state := .idle, inFlight := none, phaseTimer := none, settleTimer := none }).emit (.changeDone b.slot .show) := by
    have hall : settleEnds s = ((dwellSeen (seatedWord s.changer.occupancy) b s).onChanger Changer.completed).emit
        (.changeDone b.slot b.origin) := (if_pos h.settling).trans (enterAll_settled h.inFlight h.nonePending 23)
    rw [hall, hseen, h.ofShow]
    refine congrArg _ (State.onChanger_congr ?_)
    simp [Changer.completed, h.nonePending]
  obtain ⟨y, hstep, hphase, hsee⟩ := engineSeesChange_settles (s := (s.report .slide [fi b.slot,
    fw (seatedWord s.changer.occupancy)]).onChanger fun c => { c with
      state := .idle, inFlight := none, phaseTimer := none, settleTimer := none })
    h.inStep h.changing h.awaited h.target h.rampDone h.tapeDone h.notDeferred h.cut
  have hexec : exec .settleEnd s = .next { drainAll 1000 (settleEnds s) with signals := [] } := rfl
  have hreceive (t : State) : receive (.changeDone b.slot .show) t = engineSeesChange b.slot .show t := rfl
  have hoffer (t : State) : receive .offerHead t = offerHead t := rfl
  rw [hends, drainAll_emit (by exact h.quiet), hreceive, hsee, drainAll_emit (by exact h.quiet), hoffer] at hexec
  exact ⟨y, hstep, hphase, hexec⟩

theorem present_of_step (e : Engine) (h : y.step = x.step) : e.present y = e.present x := by simp [Engine.present, h]

/-- R177, R191: the step that its change has settled accepts the head. -/
theorem changeSettled_accepts (hr : s.engine.state = .running) (hq : s.triggers.queue = r :: rest) (hk : r.kind = .next)
    (ha : (s.engine.present x).advance.accepts r.source = true) (hstep : y.step = x.step) (hphase : y.phase = .settled) :
    HeadAccepted y r rest (s.changeSettled b x y) where
  inStep := rfl
  running := hr
  settled := hphase
  queue := hq
  isNext := hk
  accepted := by
    have hadvance := (reaching_present s.engine y x.step b.slot).2
    rw [present_of_step s.engine hstep] at hadvance
    exact (congrArg (Advance.accepts · r.source) hadvance).trans ha

theorem changeSettled_stepAt {st : Step} (h1 : 1 ≤ x.step) (hst : s.engine.stepAt (x.step + 1) = some st) (hstep : y.step = x.step) :
    (s.changeSettled b x y).engine.stepAt (y.step + 1) = some st := by
  rw [hstep]
  exact (reaching_stepAt s.engine h1 b.slot).trans hst

/-- R168, R177, R195: the head ends the show, and the records behind it are flushed. -/
theorem HeadAccepted.ends_show (h : HeadAccepted x r rest s) (hs : s.signals = []) (hh : s.triggers.hold = false)
    (hd : s.triggers.tapeHold = false ∨ s.triggers.toldShow ≠ .running ∨ rest.length < s.triggers.holdAt)
    (hlast : s.engine.steps.length ≤ x.step) (hloop : s.engine.loop = false) (htold : s.triggers.toldShow = .running)
    (hst : s.tape.state = .stopped) (hm : s.tape.motor = .off) (hl : s.tape.locate = none) (n : Nat) :
    ({ drainAll n (offerHead s) with signals := [] } : State) =
      { (s.report .show (takenFields r)).endTold rest with
        engine := { s.engine with state := .ended, execution := none }
        lamp := { s.lamp with ramp := ⟨s.lamp.value, 0, 2000, 0, some .show, true⟩, requested := 0 }
        tape := { s.tape with
          guard := none, holdPause := false, delivered := 0, ramp := ⟨s.tape.value, 0, 2000, 0, .show, true⟩ }
        triggers := (s.triggers.taking rest).ended } := by
  have hends : offerHead s = { (s.report .show (takenFields r)).endTold rest with
        engine := { s.engine with state := .ended, execution := none }
        lamp := { s.lamp with ramp := ⟨s.lamp.value, 0, 2000, 0, some .show, true⟩, requested := 0 }
        tape := { s.tape with
          guard := none, holdPause := false, delivered := 0, ramp := ⟨s.tape.value, 0, 2000, 0, .show, true⟩ }
        triggers := (s.triggers.taking rest).ended } := by
    rw [offerHead_hands h.inStep h.running h.settled h.queue h.used hh hd, headGone_eq h.queue,
      useTrigger_ends h.isNext (by exact hlast) (by exact hloop),
      endShow_eq (by exact htold) (by exact hh) (by exact hst) (by exact hm) (by exact hl)]
    have hrest : (reportTrigger "TAKEN" r { s with triggers := s.triggers.taking rest }).triggers.queue = rest := rfl
    rw [hrest]
    by_cases h0 : rest = []
    · simp only [State.endTold, if_pos h0]
      rfl
    · simp only [State.endTold, if_neg h0]
      rfl
  have hsig : (offerHead s).signals = [] := by
    rw [hends]
    exact (State.endTold_signals _ _).trans hs
  rw [drainAll_nil hsig, State.signals_nil hsig, hends]
end

end Sys2Proof.Machine

namespace Sys2Proof.Machine

/-! ## The release of the tape -/

/-- R112, R194: the hold is over, and no pause reason is left. -/
def State.released (s : State) : State :=
  { s with
    tape := { s.tape with reasons := ⟨false, false, false⟩ }, triggers := { s.triggers with hold := false } }

section
variable {s : State}

/-- R194: the hold ends. -/
theorem reviewHold_releases (hh : s.triggers.hold = true) (hd : s.triggers.queue.length ≤ s.triggers.releaseAt)
    (hr : s.tape.reasons = ⟨true, false, false⟩) : reviewHold s = (reasonGone s.released).report .show
      [fw "TRIG", fw "RELEASE", fi (reasonGone s.released).triggers.count] := by
  have hreleases : queueReleases (s.onTriggers fun t => { t with hold := false }) = reasonGone s.released := by
    unfold queueReleases
    rw [if_pos (by rw [State.onTriggers_tape, hr])]
    simp only [State.onTape, State.onTriggers, hr]
    rfl
  unfold reviewHold
  dsimp only
  rw [if_neg (by simp [hh]), if_pos ⟨hh, .inl hd⟩, hreleases]

/-- R194: the hold ends with no tape that it paused. -/
theorem reviewHold_releases_quiet (hh : s.triggers.hold = true) (hd : s.triggers.queue.length ≤ s.triggers.releaseAt)
    (hr : s.tape.reasons = ⟨true, false, false⟩) (hp : s.tape.state ≠ .paused ∨ s.tape.holdPause = false) :
    reviewHold s = s.released.report .show [fw "TRIG", fw "RELEASE", fi s.triggers.queue.length] := by
  have hgone : reasonGone s.released = s.released := by
    unfold reasonGone
    refine if_neg ?_
    rintro ⟨-, hst, hpause⟩
    rcases hp with h | h
    · exact h hst
    · exact absurd (hpause.symm.trans h) (by simp)
  rw [reviewHold_releases hh hd hr, hgone]
  rfl

/-- R112, R194: the hold ends, and the tape that it paused plays again. -/
theorem reviewHold_releases_playing (hh : s.triggers.hold = true) (hd : s.triggers.queue.length ≤ s.triggers.releaseAt)
    (hr : s.tape.reasons = ⟨true, false, false⟩) (hp : s.tape.state = .paused) (hpause : s.tape.holdPause = true)
    (hm : s.tape.motor = .off) : reviewHold s =
      ({ (s.released.report .tape [fw "PLAYING"]).report .show [fw "TRIG", fw "RELEASE", fi s.triggers.queue.length] with
        tape := s.released.tape.playsAgain
        triggers := { s.released.triggers with toldTape := .playing } } : State).emit (.tapeMoved .paused .playing) := by
  have hgone : reasonGone s.released = ({ s.released.report .tape [fw "PLAYING"] with
      tape := s.released.tape.playsAgain
      triggers := { s.released.triggers with toldTape := .playing } } : State).emit (.tapeMoved .paused .playing) := by
    unfold reasonGone
    rw [if_pos ⟨rfl, hp, hpause⟩]
    unfold enterDriven
    rw [if_neg (by simp [State.released, Reasons.none])]
    unfold moveTapeTold
    simp [State.released, hp, hm, Tape.motorOn, driveOf, TapeMotor.direction, Tape.deliver, Tape.outVolume,
      TapeState.listening, stateFields, TapeState.word, Tape.playsAgain, State.onTape, State.onTriggers, State.report,
      State.onLine, State.emit]
  rw [reviewHold_releases hh hd hr, hgone]
  rfl
end

/-! ## The release as a step settles -/

section
variable {s : State} {x : Execution} {r : Trigger} {rest : List Trigger} {st : Step}

/-- R170, R191, R194: the head leaves, the queue's hold ends with it, and a plain step is entered. -/
theorem HeadAccepted.releases (h : HeadAccepted x r rest s) {w : State}
    (hw : reviewHold (reportTrigger "TAKEN" r { s with triggers := s.triggers.taking rest }) = w) (he : w.engine = s.engine)
    (hst : s.engine.stepAt (x.step + 1) = some st) (hplain : PlainStep st) (hc : ¬ CatchesUp w.triggers) : offerHead s =
      { w.report .show [fw "STEP", fi (x.step + 1 : Nat), fw "NEXT", fw "NONE"] with
        engine := { s.engine with
          level := st.level.getD s.engine.level
          execution := some { Execution.entered (x.step + 1) .next none .fadingIn with rampAwaited := true } }
        lamp := w.lamp.rampsTo (st.level.getD s.engine.level) st.fadeIn } := by
  rw [offerHead_takes h.inStep h.running h.settled h.queue h.used, headGone_eq h.queue, hw,
    useTrigger_next h.isNext (by rw [he]; exact hst), enterStep_plain (by rw [he]; exact hst) hplain hc (by simp), he]

/-- R194: the same, where the tape stays as it is. -/
theorem HeadAccepted.releases_quiet (h : HeadAccepted x r rest s) (hs : s.signals = []) (hh : s.triggers.hold = true)
    (hd : rest.length ≤ s.triggers.releaseAt) (hr : s.tape.reasons = ⟨true, false, false⟩)
    (hp : s.tape.state ≠ .paused ∨ s.tape.holdPause = false) (hst : s.engine.stepAt (x.step + 1) = some st)
    (hplain : PlainStep st) (hc : ¬ CatchesUp (s.triggers.taking rest)) (n : Nat) :
    ({ drainAll n (offerHead s) with signals := [] } : State) =
      { ((s.report .show (takenFields r)).report .show [fw "TRIG", fw "RELEASE", fi rest.length]).report .show
          [fw "STEP", fi (x.step + 1 : Nat), fw "NEXT", fw "NONE"] with
        engine := { s.engine with
          level := st.level.getD s.engine.level
          execution := some { Execution.entered (x.step + 1) .next none .fadingIn with rampAwaited := true } }
        lamp := s.lamp.rampsTo (st.level.getD s.engine.level) st.fadeIn
        tape := { s.tape with reasons := ⟨false, false, false⟩ }
        triggers := { s.triggers.taking rest with hold := false } } := by
  have hreview := reviewHold_releases_quiet (s := reportTrigger "TAKEN" r { s with triggers := s.triggers.taking rest })
    hh hd hr hp
  rw [h.releases hreview rfl hst hplain hc, drainAll_nil (by exact hs)]
  exact State.signals_nil (by exact hs)

/-- R122: the telling that a tape plays again starts the detection. -/
theorem drain_playing (hs : s.signals = []) (hd : s.cue.detecting = false) (n : Nat) :
    drainAll (n + 1) (s.emit (.tapeMoved .paused .playing)) = { s with cue := (startDetection s).cue } := by
  have hreceive : receive (.tapeMoved .paused .playing) s = { s with cue := (startDetection s).cue } := by
    simp [receive, cueSeesTape, TapeState.listening, hd, startDetection, State.onCue]
  rw [drainAll_emit hs, hreceive]
  exact drainAll_nil (by exact hs) n

/-- R112, R122, R194: the same, where the tape plays again. -/
theorem HeadAccepted.releases_playing (h : HeadAccepted x r rest s) (hs : s.signals = []) (hh : s.triggers.hold = true)
    (hd : rest.length ≤ s.triggers.releaseAt) (hr : s.tape.reasons = ⟨true, false, false⟩) (hp : s.tape.state = .paused)
    (hpause : s.tape.holdPause = true) (hm : s.tape.motor = .off) (hcue : s.cue.detecting = false)
    (hst : s.engine.stepAt (x.step + 1) = some st) (hplain : PlainStep st) (hc : ¬ CatchesUp (s.triggers.taking rest))
    (n : Nat) : ∃ c : Cue, c.detecting = true ∧ ({ drainAll (n + 1) (offerHead s) with signals := [] } : State) =
      { (((s.report .show (takenFields r)).report .tape [fw "PLAYING"]).report .show
          [fw "TRIG", fw "RELEASE", fi rest.length]).report .show
          [fw "STEP", fi (x.step + 1 : Nat), fw "NEXT", fw "NONE"] with
        engine := { s.engine with
          level := st.level.getD s.engine.level
          execution := some { Execution.entered (x.step + 1) .next none .fadingIn with rampAwaited := true } }
        lamp := s.lamp.rampsTo (st.level.getD s.engine.level) st.fadeIn
        tape := Tape.playsAgain { s.tape with reasons := ⟨false, false, false⟩ }
        triggers := { s.triggers.taking rest with hold := false, toldTape := .playing }
        cue := c } := by
  have hreview := reviewHold_releases_playing (s := reportTrigger "TAKEN" r { s with triggers := s.triggers.taking rest })
    hh hd hr hp hpause hm
  have hoffer : offerHead s = ({ (((s.report .show (takenFields r)).report .tape [fw "PLAYING"]).report .show
        [fw "TRIG", fw "RELEASE", fi rest.length]).report .show [fw "STEP", fi (x.step + 1 : Nat), fw "NEXT", fw "NONE"] with
      engine := { s.engine with
        level := st.level.getD s.engine.level
        execution := some { Execution.entered (x.step + 1) .next none .fadingIn with rampAwaited := true } }
      lamp := s.lamp.rampsTo (st.level.getD s.engine.level) st.fadeIn
      tape := Tape.playsAgain { s.tape with reasons := ⟨false, false, false⟩ }
      triggers := { s.triggers.taking rest with hold := false, toldTape := .playing } } : State).emit
        (.tapeMoved .paused .playing) := h.releases hreview rfl hst hplain hc
  rw [hoffer, drain_playing (by exact hs) (by exact hcue) n]
  exact ⟨_, rfl, State.signals_nil (by exact hs)⟩
end

/-! ## The ramp of a step settles with records waiting -/

/-- R53, R175, R177: the ramp of the step has ended, and with it the step; `l` is the lamp controller after the update and
`y` the execution record. -/
def State.rampSettled (l : Lamp) (x y : Execution) (s : State) : State :=
  { (s.report .lamp [fw "DONE", fi s.lamp.ramp.target]).report .show [fw "SETTLED", fi x.step] with
    lamp := l, engine := { s.engine with execution := some y } }

section
variable {s : State} {x y : Execution} {r : Trigger} {rest : List Trigger} {l : Lamp}

/-- R53, R57, R177: at the update that ends the ramp of a step that awaits nothing else, the step settles, and the head is
offered to it. -/
theorem ramp_settles (hb : Between s) (hc : s.pins.lampCurrent = .normal)
    (hd : s.lamp.dwellCap ≠ 1000 ∨ s.lamp.dwell + 10 < s.lamp.dwellLimit * 1000) (ha : s.lamp.ramp.active = true)
    (he : s.lamp.ramp.duration ≤ s.lamp.ramp.elapsed + 10) (ho : s.lamp.ramp.origin = some .show)
    (hx : s.engine.execution = some x) (hp : x.phase = .fadingIn) (hr : x.rampAwaited = true) (hw : AwaitsOnlyItsRamp x) :
    ∃ (l : Lamp) (y : Execution), l.value = s.lamp.ramp.target ∧ y.step = x.step ∧ y.phase = .settled ∧
      exec .lampUpdate s = .next { drainAll 998 (offerHead (s.rampSettled l x y)) with signals := [] } := by
  obtain ⟨p, q, hafter, -⟩ := afterRamp_uncapped
    (s := (({ s with lamp := s.lamp.rampEnded } : State).report .lamp [fw "DONE", fi s.lamp.ramp.target]).emit
      (.rampDone s.lamp.ramp.target s.lamp.ramp.origin)) hc hd
  generalize hl : ({ State.computedLamp _ _ with dwell := _, primary := p, spare := q } : Lamp) = l at hafter
  have hvalue : l.value = s.lamp.ramp.target := by rw [← hl]; rfl
  have hrun : runUpdate s = ({ s.report .lamp [fw "DONE", fi s.lamp.ramp.target] with lamp := l } : State).emit
      (.rampDone s.lamp.ramp.target (some .show)) := (runUpdate_completes ha he).trans (hafter.trans (by rw [ho]; rfl))
  obtain ⟨y, hstep, hphase, hsee⟩ := engineSeesRamp_settles
    (s := { s.report .lamp [fw "DONE", fi s.lamp.ramp.target] with lamp := l }) hx hp hr hw
  have hexec : exec .lampUpdate s = .next { drainAll 1000 (runUpdate s) with signals := [] } := rfl
  have hoffer (t : State) : receive .offerHead t = offerHead t := rfl
  rw [hrun, drainAll_emit (by exact hb.2), receive_rampDone, hsee, drainAll_emit (by exact hb.2), hoffer] at hexec
  exact ⟨l, y, hvalue, hstep, hphase, hexec⟩

/-- R177, R191: the step that its ramp has settled accepts the head. -/
theorem rampSettled_accepts (hr : s.engine.state = .running) (hq : s.triggers.queue = r :: rest) (hk : r.kind = .next)
    (ha : (s.engine.present x).advance.accepts r.source = true) (hstep : y.step = x.step) (hphase : y.phase = .settled) :
    HeadAccepted y r rest (s.rampSettled l x y) where
  inStep := rfl
  running := hr
  settled := hphase
  queue := hq
  isNext := hk
  accepted := (congrArg (fun st : Step => st.advance.accepts r.source) (present_of_step s.engine hstep)).trans ha
end

end Sys2Proof.Machine

namespace Sys2Proof.Machine

/-- Settles O48: a record of the line waits (`Enters.waits`), is taken by a settled step (`Enters.settled_plain`,
`next_ends`) or brings the hold (`Enters.holds_quiet`, `Enters.holds_playing`); a change or a ramp that settles its step
hands the head over (`AwaitsItsSettle.settles`, `ramp_settles`, and the lemmas of `HeadAccepted`). -/
theorem lineTriggersEnterTheQueue : Obligations.LineTriggersEnterTheQueue := by
  refine ⟨fun s h => ⟨fun hr hh => ?_, fun hin => ?_⟩, ?_, ?_, ?_, ?_, ?_⟩
  · have hbusy : s.busyLine.showBusy = false := showBusy_eq_false (s := s.busyLine) hr hh
    exact ⟨arrives_of_reading (r := .next) h (doTrigger_outside hbusy _ _),
      arrives_of_reading (r := .back) h (doTrigger_outside hbusy _ _),
      fun n => arrives_of_reading (r := .jump n) h (doJump_outside hbusy n)⟩
  · have hbusy : s.busyLine.showBusy = true := showBusy_of_inShow (s := s.busyLine) hin
    refine ⟨fun n hn => arrives_of_reading (r := .jump n) h (doJump_range hbusy hn), fun hq =>
      ⟨arrives_of_reading (r := .next) h (doTrigger_full hbusy hq _ _),
        arrives_of_reading (r := .back) h (doTrigger_full hbusy hq _ _),
        fun n h1 hn => arrives_of_reading (r := .jump n) h (doJump_full hbusy hq h1 hn)⟩, fun hq hw hh hd => ?_⟩
    intro entered fields
    have hentered (kind : TriggerKind) : entered kind s = s.entering kind := entering_eq kind s
    have hundue (kind : TriggerKind) : HoldUndue (s.entering kind).triggers := by
      refine ⟨hh, ?_⟩
      simpa [State.entering] using hd
    simp only [hentered]
    exact ⟨(next_enters h hin hq).waits h hw (hundue _), (back_enters h hin hq).waits h hw (hundue _),
      fun n h1 hn => (jump_enters h hin hq h1 hn).waits h hw (hundue _)⟩
  · intro s x hx h hr hp hq hh hat hcatch h1 taken fields enters
    have hin : s.engine.state = .running ∨ s.engine.state = .held := .inl hr
    have hroom : s.triggers.queue.length < 8 := by simp [hq]
    refine ⟨fun st hst hplain => ?_, fun hback st hst hplain => ?_, fun hx1 => ?_, fun n hn1 hn st hst hplain => ?_,
      fun hlast hloop st hst hplain => ?_, fun hlast hloop htold htape hm hl => ?_⟩
    · exact (next_enters h hin hroom).settled_plain h hx hr hp hq hh hat hcatch rfl
        (fun u he => useTrigger_next rfl (by rw [he]; exact hst)) (by simp) hst hplain
    · exact (back_enters h hin hroom).settled_plain h hx hr hp hq hh hat hcatch
        (by simpa [triggerUsed, State.lineRecord] using hback) (fun u he => rfl) (by simp) hst hplain
    · exact back_unused h hx hr hp hq hh hat hx1
    · exact (jump_enters h hin hroom hn1 hn).settled_plain h hx hr hp hq hh hat hcatch rfl
        (fun u he => rfl) (by simp) hst hplain
    · exact (next_enters h hin hroom).settled_plain h hx hr hp hq hh hat hcatch rfl
        (fun u he => useTrigger_loops rfl (by rw [he]; exact hlast) (by rw [he]; exact hloop)) (by simp) hst hplain
    · have hends := next_ends h hx hr hp hq hh hat hlast hloop htold htape hm hl
      rw [passed_ended hq] at hends
      exact hends
  · intro s h hr hw hroom hh ht hs hd hq count holds
    have hin : s.engine.state = .running ∨ s.engine.state = .held := .inl hr
    have hdue : HoldFallsDue s := ⟨hw, hh, ht, hs, hd, hq⟩
    have hholds {i : Instr} {kind : TriggerKind} {verb : String} {first : List Field} (he : Enters i kind verb first s) :
        holds i kind verb first := by
      refine ⟨fun hst => he.holds_quiet h hdue hst, fun hst hm hdet hcue => ?_⟩
      exact ⟨_, he.holds_playing h hdue hst hm hcue, rfl, Cue.ended_spec hdet s.now⟩
    exact ⟨hholds (next_enters h hin hroom), hholds (back_enters h hin hroom),
      fun n h1 hn => hholds (jump_enters h hin hroom h1 hn)⟩
  · intro s x b r rest st hb hr hx hp hc ht hramp htape hd hcut hset hin ho hpend hgate hq hk ha h1 hst hsound
      haction nexts level steps settled taken
    obtain ⟨y, hstep, hphase, hexec⟩ := AwaitsItsSettle.settles
      ⟨hb.2, hx, hp, hc, ht, hramp, htape, hd, hcut, hset, hin, ho, hpend, hgate⟩
    have hhead : HeadAccepted y r rest (s.changeSettled b x y) := changeSettled_accepts hr hq hk ha hstep hphase
    have hquiet : (s.changeSettled b x y).signals = [] := hb.2
    have hst : (s.changeSettled b x y).engine.stepAt (y.step + 1) = some st := changeSettled_stepAt h1 hst hstep
    refine ⟨fun n hslide hstyle hcatch hh hdue hm hne hknown harm hocc htop hseat hgd hdead => ?_,
      fun hplain hcatch hh hth htold hrel hreasons => ?_⟩
    · have hready : ReadyFor n (s.changeSettled b x y).changer (s.changeSettled b x y).pins :=
        ⟨hm, hne, rfl, hknown, hdead, htop, hseat, harm, hocc⟩
      rw [hhead.catches_up hquiet hh hdue hst hsound haction hstyle hslide hcatch hready 997, hhead.nextFields, hstep] at hexec
      simp only [State.changeSettled, State.report, State.onLine] at hexec
      simp only [taken, settled, State.report, State.onLine]
      exact hexec
    · intro entered released release
      have hc : ¬ CatchesUp (s.triggers.taking rest) := Nat.not_le.2 hcatch
      refine ⟨fun hstill => ?_, fun hst' hpause hm hdet => ?_⟩
      · rw [hhead.releases_quiet hquiet hh hrel hreasons hstill hst hplain hc, hhead.nextFields, hstep] at hexec
        simp only [State.changeSettled, State.report, State.onLine] at hexec
        simp only [entered, released, release, taken, settled, State.report, State.onLine]
        exact hexec
      · obtain ⟨c, hdetects, hdrain⟩ := hhead.releases_playing hquiet hh hrel hreasons hst' hpause hm hdet hst hplain hc 997
        rw [hdrain, hhead.nextFields, hstep] at hexec
        refine ⟨_, hexec, ?_, hdetects⟩
        simp only [entered, released, release, taken, settled, State.changeSettled, State.report, State.onLine]
        rfl
  · intro s x b r rest hb hr hx hp hc ht hramp htape hd hcut hset hin ho hpend hgate hq hk ha h1 hlast hloop htold hh hdue
      hst hm hl told
    obtain ⟨y, hstep, hphase, hexec⟩ := AwaitsItsSettle.settles
      ⟨hb.2, hx, hp, hc, ht, hramp, htape, hd, hcut, hset, hin, ho, hpend, hgate⟩
    have hhead : HeadAccepted y r rest (s.changeSettled b x y) := changeSettled_accepts hr hq hk ha hstep hphase
    have hlast : (s.changeSettled b x y).engine.steps.length ≤ y.step := by
      rw [hstep]
      exact (List.length_modify ..).le.trans hlast
    rw [hhead.ends_show hb.2 hh (hdue.imp_right .inr) hlast hloop htold hst hm hl, hhead.nextFields] at hexec
    by_cases h0 : rest = []
    · simp only [State.endTold, if_pos h0] at hexec ⊢
      exact hexec
    · simp only [State.endTold, if_neg h0] at hexec ⊢
      exact hexec
  · intro s x r rest st hb hok hc hd hact he ho hr hx hp hramp hw hq hk ha h1 hst hsound haction hh hdue
      nexts level settled taken
    obtain ⟨l, y, hvalue, hstep, hphase, hexec⟩ := ramp_settles hb hc hd hact he ho hx hp hramp hw
    have hhead : HeadAccepted y r rest (s.rampSettled l x y) := rampSettled_accepts hr hq hk ha hstep hphase
    have hquiet : (s.rampSettled l x y).signals = [] := hb.2
    have hst : (s.rampSettled l x y).engine.stepAt (y.step + 1) = some st := by rw [hstep]; exact hst
    refine ⟨fun n hslide hstyle hcatch hm hne hseated => ?_, fun hplain hcatch => ?_⟩
    · obtain ⟨hidle, hknown, -, -, -, hdead, htop, hseat, harm, hocc⟩ := hseated
      rw [hhead.catches_up hquiet hh hdue hst hsound haction hstyle hslide hcatch
        ⟨hm, hne, hidle, hknown, hdead, htop, hseat, harm, hocc⟩ 997, hhead.nextFields, hstep] at hexec
      simp only [State.rampSettled, State.report, State.onLine] at hexec
      refine ⟨_, hexec, ?_, congrArg (fun v => (⟨v, level, 0, 0, some .show, false⟩ : Ramp)) hvalue, rfl, rfl⟩
      simp only [taken, settled, State.report, State.onLine]
      rfl
    · have hc : ¬ CatchesUp (s.triggers.taking rest) := Nat.not_le.2 hcatch
      rw [hhead.enters_plain hquiet hh hdue hst hplain hc, hhead.nextFields, hstep] at hexec
      simp only [State.rampSettled, State.report, State.onLine] at hexec
      refine ⟨_, hexec, ?_, congrArg (fun v => (⟨v, level, st.fadeIn / 10 * 10, 0, some .show, true⟩ : Ramp)) hvalue,
        hvalue, rfl⟩
      simp only [taken, settled, State.report, State.onLine]
      rfl

end Sys2Proof.Machine

namespace Sys2Proof.Machine

/-! ## What the receiving of tellings leaves alone

Between the event of a block and the end of its command, the tellings between blocks move the changer, the tape, the show
engine, the trigger queue and the cue unit, and dim the lamp. A property that each of these single changes keeps is kept by
all that a telling leads to, the clearing of a latch apart. -/

/-- R59, R86, R87, R92: the lamp controller has changed, but not what the heat and power unit published to it, and its duty has
not risen. -/
abbrev Lamp.Dims (l l' : Lamp) : Prop :=
  l'.pubTherm = l.pubTherm ∧ l'.pubStall = l.pubStall ∧ l'.pubPower = l.pubPower ∧ l'.duty ≤ l.duty

/-- The kinds of which the heat and power unit tells the fault list. -/
def isThermal : FaultKind → Bool
  | .fanStall | .heatWarn | .heatTrip | .sensorBad => true
  | .jam | .slideStuck | .noZero | .trayOut | .lampOpen | .lampShort | .shiftFail | .supplyLow | .cueStuck => false

/-- R204: the telling of CLEAR, which ends protective actions. -/
def isClear : Signal → Bool
  | .clearKind _ => true
  | .changeDone .. | .changeRefused .. | .rampDone .. | .locateDone .. | .tapeMoved .. | .causeIn .. | .causeOut _
  | .offerHead | .reviewHold | .settle | .closeBurst _ | .writeEnds => false

/-- A property that every single change keeps of which the receiving of tellings is made. -/
structure Steady (P : State → Prop) : Prop where
  line : ∀ {s}, P s → ∀ f, P (s.onLine f)
  changer : ∀ {s}, P s → ∀ f, P (s.onChanger f)
  tape : ∀ {s}, P s → ∀ f, P (s.onTape f)
  engine : ∀ {s}, P s → ∀ f, P (s.onEngine f)
  triggers : ∀ {s}, P s → ∀ f, P (s.onTriggers f)
  lamp : ∀ {s}, P s → ∀ f, s.lamp.Dims (f s.lamp) → P (s.onLamp f)
  cue : ∀ {s}, P s → ∀ f, (f s.cue).log = s.cue.log ∧ (f s.cue).nextSeq = s.cue.nextSeq → P (s.onCue f)
  logged : ∀ {s}, P s → ∀ y d, P (logEntry y d s)
  emit : ∀ {s}, P s → ∀ sig : Signal, isClear sig = false → P (s.emit sig)
  present : ∀ {s}, P s → ∀ (k : FaultKind) detail, isThermal k = false → P (tellPresent k detail s)
  gone : ∀ {s}, P s → ∀ k : FaultKind, isThermal k = false → P (tellGone k s)
  latch : ∀ {s}, P s → ∀ k : FaultKind, isThermal k = false → P (tellLatch k s)

section
variable {P : State → Prop} (hP : Steady P) {s : State} (h : P s)
include hP h

theorem report_steady (cls : ReportClass) (fields : List Field) : P (s.report cls fields) := hP.line h _

/-! ### The lamp -/

theorem checkShort_steady : P (checkShort s) := by
  unfold checkShort
  split
  · exact report_steady hP (hP.present (hP.lamp h _ ⟨rfl, rfl, rfl, Nat.zero_le _⟩) _ _ rfl) _ _
  · exact h

theorem checkOpen_steady : P (checkOpen s) := by
  rw [checkOpen_frame]
  exact hP.lamp h _ ⟨rfl, rfl, rfl, le_rfl⟩

theorem dutyAtOnce_steady : P (dutyAtOnce s) :=
  checkOpen_steady hP (checkShort_steady hP (hP.lamp h _ ⟨rfl, rfl, rfl, Nat.min_le_left _ _⟩))

theorem lampSeesOccupancy_steady (old : Occupancy) : P (lampSeesOccupancy old s) := by
  rw [lampSeesOccupancy_eq]
  exact dutyAtOnce_steady hP (hP.lamp h _ ⟨rfl, rfl, rfl, le_rfl⟩)

theorem rampRequest_steady (level duration : Nat) (origin : RampOrigin) : P (rampRequest level duration origin s) := by
  have hr := hP.lamp h (fun l => { l with
    ramp := { start := l.value, target := level, duration := tenMs duration, elapsed := 0, origin := some origin, active := true }
    requested := level
    lastLit := if 0 < level then level else l.lastLit }) ⟨rfl, rfl, rfl, le_rfl⟩
  unfold rampRequest
  dsimp only
  split
  · exact hP.emit (report_steady hP (hP.lamp hr _ ⟨rfl, rfl, rfl, le_rfl⟩) _ _) _ rfl
  · exact hr

theorem dwellSeesCompletion_steady (occ : Occupancy) : P (dwellSeesCompletion occ s) := by
  have hd := hP.lamp h (fun l => { l with dwell := 0, gateCleared := false, dwellCap := 1000 }) ⟨rfl, rfl, rfl, le_rfl⟩
  unfold dwellSeesCompletion
  dsimp only
  split
  · split
    · exact report_steady hP hd _ _
    · exact hd
  · exact h

/-! ### The phases of a change -/

theorem refreshGate_steady : P (refreshGate s) := by
  unfold refreshGate
  dsimp only
  split
  · exact hP.changer h _
  · exact lampSeesOccupancy_steady hP (hP.changer h _) _

theorem stopMotors_steady : P (stopMotors s) := refreshGate_steady hP (hP.changer h _)

theorem returnToLift_steady : P (returnToLift s) := by
  unfold returnToLift
  exact hP.changer (stopMotors_steady hP h) _

theorem startDrive_steady : P (startDrive s).1 := by
  unfold startDrive
  split
  · dsimp only; exact hP.changer h _
  · split
    · exact returnToLift_steady hP h
    · split <;> (dsimp only; exact hP.changer h _)
  · split
    · dsimp only; exact hP.changer h _
    · exact refreshGate_steady hP (hP.changer h _)

theorem enterJammed_steady {kind : FaultKind} (phase : Phase) : P (enterJammed kind phase s) := by
  have hr := report_steady hP (hP.changer (stopMotors_steady hP h) fun c => { c with
    state := .jammed, jam := some (kind, phase), inFlight := none, pendingTarget := none, retryPhase := none
    phaseTimer := none, backoffTimer := none, settleTimer := none })
  unfold enterJammed
  dsimp only
  split
  · exact hP.gone (hP.latch (hr _ _) _ rfl) _ rfl
  · exact hP.gone (hr _ _) _ rfl

theorem completePhase_steady (phase : Phase) : P (completePhase phase s) := by
  unfold completePhase
  split
  · exact hP.gone (hP.changer h _) _ rfl
  · exact h

theorem inPhase_steady (st : ChangerState) : P (inPhase st s) := hP.changer h _

theorem slideStuck_steady : P (slideStuck s) := enterJammed_steady hP (hP.present h _ _ rfl) _

theorem beginLift_steady : P (beginLift s).1 := by
  unfold beginLift
  dsimp only
  split
  · exact inPhase_steady hP h _
  · exact startDrive_steady hP (inPhase_steady hP h _)

theorem liftEnds_steady : P (liftEnds s).1 := by
  unfold liftEnds
  dsimp only
  generalize hu : (if (stopMotors s).changer.state = .lifting then completePhase .lift (stopMotors s) else stopMotors s) = u
  have ho : P u := by
    rw [← hu]
    split
    · exact completePhase_steady hP (stopMotors_steady hP h) _
    · exact stopMotors_steady hP h
  split
  · exact slideStuck_steady hP ho
  · exact ho

theorem beginHoming_steady : P (beginHoming s).1 := by
  unfold beginHoming
  dsimp only
  split
  · exact inPhase_steady hP (hP.changer h _) _
  · exact startDrive_steady hP (inPhase_steady hP (hP.changer h _) _)

theorem beginRotate_steady : P (beginRotate s).1 := by
  unfold beginRotate
  dsimp only
  split
  · exact inPhase_steady hP h _
  · exact startDrive_steady hP (hP.changer (inPhase_steady hP h _) _)

theorem beginDrop_steady : P (beginDrop s).1 := by
  unfold beginDrop
  dsimp only
  split
  · exact inPhase_steady hP h _
  · exact startDrive_steady hP (inPhase_steady hP h _)

theorem changeCompletes_steady (word : String) : P (changeCompletes word s).1 := by
  have hr := report_steady hP h .slide [fi s.changer.goal, fw word]
  unfold changeCompletes
  dsimp only
  refine hP.changer ?_ _
  split
  · exact hP.emit (dwellSeesCompletion_steady hP hr _) _ rfl
  · exact hr

theorem enterOnce_steady (e : Entry) : P (enterOnce e s).1 := by
  cases e with
  | change =>
    unfold enterOnce beginChange
    dsimp only
    split
    · dsimp only; exact hP.changer h _
    · split <;> (dsimp only; exact hP.changer h _)
  | lift => exact beginLift_steady hP h
  | lifted => exact liftEnds_steady hP h
  | homing => exact beginHoming_steady hP h
  | zeroFound =>
    exact completePhase_steady hP (report_steady hP (hP.changer (stopMotors_steady hP h) _) _ _) _
  | rotate => exact beginRotate_steady hP h
  | rotated => exact completePhase_steady hP (stopMotors_steady hP h) _
  | drop => exact beginDrop_steady hP h
  | dropped => exact completePhase_steady hP (stopMotors_steady hP h) _
  | settle => unfold enterOnce beginSettle; dsimp only; exact hP.changer h _
  | settled => exact changeCompletes_steady hP h _
  | parked => exact changeCompletes_steady hP h _

omit h in
theorem enterAll_steady (fuel : Nat) (e : Entry) {s : State} (h : P s) : P (enterAll fuel e s) := by
  induction fuel generalizing e s with
  | zero => exact h
  | succ fuel ih =>
    have ho := enterOnce_steady hP h e
    unfold enterAll
    split
    next hu => rw [hu] at ho; exact ho
    next hu => rw [hu] at ho; exact ih _ ho

theorem enter_steady (e : Entry) : P (enter e s) := enterAll_steady hP _ e h

theorem drive_steady : P (drive s) := by
  have hd := startDrive_steady hP h
  unfold drive
  split
  next hu => rw [hu] at hd; exact hd
  next hu => rw [hu] at hd; exact enter_steady hP hd _

theorem redirect_steady : P (redirect s) := by
  unfold redirect
  dsimp only
  split
  · exact enter_steady hP h _
  · split
    · exact hP.changer h _
    · refine drive_steady hP (hP.changer ?_ _)
      split
      · exact stopMotors_steady hP h
      · exact h

theorem takeRequest_steady (t : Target) : P (takeRequest t s) := by
  unfold takeRequest
  dsimp only
  split
  iterate 2
    · split
      · exact hP.changer h _
      · exact enter_steady hP (hP.changer h _) _
  iterate 2 exact hP.changer h _
  · split <;> exact hP.changer h _
  · split
    · exact hP.changer h _
    · exact redirect_steady hP (hP.changer h _)
  iterate 2 exact hP.changer h _
  all_goals exact h

theorem changerRequest_steady (t : Target) : P (changerRequest t s).1 := by
  unfold changerRequest
  split
  · exact h
  · exact takeRequest_steady hP h t

/-! ### The tape -/

theorem moveTape_steady (new : TapeState) (hold : Bool) : P (moveTape new hold s) := by
  unfold moveTape
  dsimp only
  split
  · exact hP.tape h _
  · exact hP.emit (hP.triggers (hP.tape h _) _) _ rfl

theorem moveTapeTold_steady (new : TapeState) (hold : Bool) : P (moveTapeTold new hold s) := by
  unfold moveTapeTold
  dsimp only
  split
  · exact hP.tape h _
  · exact hP.emit (hP.triggers (report_steady hP (hP.tape h _) _ _) _) _ rfl

theorem enterDriven_steady (st : TapeState) : P (enterDriven st s) := by
  unfold enterDriven
  split <;> exact moveTapeTold_steady hP (hP.tape h _) _ _

theorem startTape_steady (st : TapeState) : P (startTape st s) := by
  unfold startTape
  split
  · exact h
  · split
    · exact enterDriven_steady hP h _
    · exact moveTape_steady hP (hP.tape h _) _ _

theorem endLocate_steady (outcome : LocateOutcome) : P (endLocate outcome s) := by
  unfold endLocate
  split
  · exact h
  next l _ =>
    have hr := report_steady hP (hP.tape h fun t => { t with locate := none }) .tape
      [fw "LOCATE", fw "ENDED", fw outcome.word]
    dsimp only
    split
    · exact hP.emit hr _ rfl
    · exact hr

theorem arrive_steady (l : Locate) : P (arrive l s) := by
  unfold arrive
  dsimp only
  generalize hu : State.report _ _ (moveTape _ _ _) = u
  have ho : P u := by
    rw [← hu]
    exact report_steady hP (moveTape_steady hP (hP.tape h _) _ _) _ _
  split
  · exact hP.emit ho _ rfl
  · exact ho

theorem approach_steady (l : Locate) : P (approach l s) := by
  unfold approach
  dsimp only
  split
  · exact arrive_steady hP (hP.tape h _) _
  · exact hP.tape h _

theorem startLocate_steady (target : Int) (play : Bool) (origin : LocateOrigin) : P (startLocate target play origin s) := by
  unfold startLocate
  dsimp only
  generalize hu : moveTapeTold _ _ (State.onTape _ (endLocate _ s)) = u
  have ho : P u := by
    rw [← hu]
    exact moveTapeTold_steady hP (hP.tape (endLocate_steady hP h _) _) _ _
  split
  · exact approach_steady hP ho _
  · split <;> exact hP.tape ho _

theorem locateRequest_steady (target : Int) (play : Bool) (origin : LocateOrigin) :
    P (locateRequest target play origin s).1 := by
  unfold locateRequest
  dsimp only
  split
  · exact h
  · exact startLocate_steady hP h _ _ _

theorem startCommand_steady (st : TapeState) : P (startCommand st s) := by
  unfold startCommand
  dsimp only
  split
  · exact hP.tape h _
  · exact startTape_steady hP (hP.tape h _) _

theorem stopTape_steady (new : TapeState) : P (stopTape new s) := moveTapeTold_steady hP (hP.tape h _) _ _

theorem runTapeCommand_steady (c : TapeCommand) : P (runTapeCommand c s) := by
  have he := endLocate_steady hP h .command
  cases c with
  | stop | pause => exact stopTape_steady hP he _
  | play | cuerec | fwd | rew => exact startCommand_steady hP he _

theorem tapeCommand_steady (c : TapeCommand) : P (tapeCommand c s).1 := by
  unfold tapeCommand
  split
  · exact h
  · exact runTapeCommand_steady hP h c

theorem tapeSeesRunning_steady : P (tapeSeesRunning s) := by
  unfold tapeSeesRunning
  dsimp only
  split
  · exact enterDriven_steady hP (hP.tape h _) _
  · exact hP.tape h _

theorem holdTape_steady : P (holdTape s) := by
  unfold holdTape
  split
  · exact moveTapeTold_steady hP (hP.tape h _) _ _
  · exact h

theorem reasonGone_steady : P (reasonGone s) := by
  unfold reasonGone
  split
  · exact enterDriven_steady hP h _
  · exact h

theorem queueHolds_steady : P (queueHolds s) := by
  unfold queueHolds
  split
  · exact h
  · exact holdTape_steady hP (hP.tape h _)

theorem queueReleases_steady : P (queueReleases s) := by
  unfold queueReleases
  split
  · exact reasonGone_steady hP (hP.tape h _)
  · exact h

theorem volCompletes_steady : P (volCompletes s) := by
  have hr := report_steady hP (hP.tape h fun t => { t with
    value := s.tape.ramp.target, ramp := { s.tape.ramp with active := false } }) .tape [fw "VOL", fi s.tape.ramp.target]
  unfold volCompletes
  dsimp only
  split
  · exact holdTape_steady hP hr
  · exact hr

theorem volRequest_steady (target duration : Nat) (origin : VolOrigin) : P (volRequest target duration origin s) := by
  unfold volRequest
  dsimp only
  split
  · exact volCompletes_steady hP (hP.tape h _)
  · exact hP.tape h _

theorem showHolds_steady : P (showHolds s) := by
  unfold showHolds
  exact volRequest_steady hP (hP.tape h _) _ _ _

theorem showReleases_steady : P (showReleases s) := by
  unfold showReleases
  dsimp only
  refine volRequest_steady hP ?_ _ _ _
  split
  · exact reasonGone_steady hP (hP.tape h _)
  · exact h

/-! ### The trigger queue -/

theorem judge_steady (source : Source) : P (judge source s).1 := by
  unfold judge
  dsimp only
  split
  · exact h
  · split
    · exact report_steady hP (hP.triggers h _) _ _
    · exact hP.triggers h _
  · exact hP.triggers h _

theorem enterRecord_steady (source : Source) (kind : TriggerKind) (detail : Option TriggerDetail) :
    P (enterRecord source kind detail s).1 := by
  unfold enterRecord
  split
  · exact hP.emit (hP.emit (hP.triggers h _) _ rfl) _ rfl
  · exact report_steady hP (hP.triggers h _) _ _

theorem reviewHold_steady : P (reviewHold s) := by
  unfold reviewHold
  dsimp only
  split
  · exact report_steady hP (queueHolds_steady hP (hP.triggers h _)) _ _
  · split
    · exact report_steady hP (queueReleases_steady hP (hP.triggers h _)) _ _
    · exact h

theorem flushQueue_steady : P (flushQueue s) := by
  unfold flushQueue
  dsimp only
  split
  · exact hP.triggers h _
  · exact report_steady hP (hP.triggers h _) _ _

theorem queueSeesShow_steady (new : ShowState) : P (queueSeesShow new s) := by
  unfold queueSeesShow
  dsimp only
  refine reviewHold_steady hP ?_
  split
  · exact flushQueue_steady hP (hP.triggers h _)
  · exact hP.triggers h _

/-! ### The show engine -/

theorem onExec_steady (f : Execution → Execution) : P (s.onExec f) := hP.engine h _

theorem sendRamp_steady (level duration : Nat) : P (sendRamp level duration s) :=
  rampRequest_steady hP (onExec_steady hP h _) _ _ _

theorem sendFadeIn_steady (x : Execution) : P (sendFadeIn x s) := sendRamp_steady hP h _ _

theorem sendChange_steady (x : Execution) : P (sendChange x s) := by
  unfold sendChange
  split
  · exact h
  next slot _ =>
    have hr := changerRequest_steady hP (onExec_steady hP h fun x => { x with changeAwaited := true })
      ⟨slot, .show, false, x.catchUp⟩
    dsimp only
    split
    next hu => rw [hu] at hr; exact hr
    next hu => rw [hu] at hr; exact hP.emit hr _ rfl

theorem sendRestart_steady (n : Nat) : P (sendRestart n s) := by
  have hr := locateRequest_steady hP (onExec_steady hP h fun x => { x with tape := .locating }) 0 true .show
  unfold sendRestart
  split
  next hu => rw [hu] at hr; exact hr
  next hu =>
    rw [hu] at hr
    split <;> exact report_steady hP (onExec_steady hP hr _) _ _

theorem sendTape_steady (n : Nat) (c : TapeCommand) : P (sendTape n c s) := by
  have hr := tapeCommand_steady hP h c
  unfold sendTape
  split
  next hu => rw [hu] at hr; exact hr
  next hu => rw [hu] at hr; exact report_steady hP hr _ _

theorem sendSoundAndTape_steady (n : Nat) (st : Step) : P (sendSoundAndTape n st s) := by
  unfold sendSoundAndTape
  dsimp only
  have ho : P (match st.sound with
      | some (volume, fade) => volRequest volume fade .show s
      | none => s) := by
    split
    · exact volRequest_steady hP h _ _ _
    · exact h
  split
  · exact ho
  iterate 3 exact sendTape_steady hP ho _ _
  · exact sendRestart_steady hP ho _

theorem startPhase_steady (st : Step) (x : Execution) : P (startPhase st x s) := by
  unfold startPhase
  split
  · exact sendFadeIn_steady hP (onExec_steady hP h _) _
  · exact sendRamp_steady hP (onExec_steady hP h _) _ _
  · exact sendFadeIn_steady hP (sendChange_steady hP (onExec_steady hP h _) _) _

theorem enterStep_steady (n : Nat) (reason : EntryReason) (word : String) : P (enterStep n reason word s) :=
  startPhase_steady hP (sendSoundAndTape_steady hP (report_steady hP (hP.engine h _) _ _) _ _) _ _

theorem trySettle_steady : P (trySettle s) := by
  unfold trySettle
  split
  · exact h
  · dsimp only
    split
    · exact h
    · exact hP.emit (report_steady hP (onExec_steady hP h _) _ _) _ rfl

theorem setShow_steady (new : ShowState) : P (setShow new s) :=
  queueSeesShow_steady hP (report_steady hP (hP.engine h _) _ _) _

theorem becomeHeld_steady : P (becomeHeld s) :=
  onExec_steady hP (showHolds_steady hP (setShow_steady hP h _)) _

theorem sendDeferred_steady : P (sendDeferred s) := by
  unfold sendDeferred
  split
  · exact h
  · split
    · exact sendChange_steady hP (onExec_steady hP h _) _
    · exact sendFadeIn_steady hP (onExec_steady hP h _) _
    · split
      · split
        · exact sendChange_steady hP h _
        · exact h
      · exact h

theorem sendOwed_steady : P (sendOwed s) := by
  unfold sendOwed
  split
  · split
    · exact trySettle_steady hP (sendRestart_steady hP h _)
    · exact h
  · exact h

theorem resumeShow_steady : P (resumeShow s) :=
  hP.emit (onExec_steady hP (sendOwed_steady hP (sendDeferred_steady hP
    (showReleases_steady hP (tapeSeesRunning_steady hP (setShow_steady hP h _))))) _) _ rfl

theorem setCauses_steady (cs : List Cause) : P (setCauses cs s) := by
  have he := hP.engine h fun e => { e with causes := inOrder cs }
  unfold setCauses
  dsimp only
  split
  · exact h
  · split
    · split
      · exact he
      · exact becomeHeld_steady hP he
    · split
      · exact resumeShow_steady hP he
      · exact report_steady hP he _ _
    all_goals exact he

theorem addRequest_steady : P (addRequest s) := setCauses_steady hP h _

theorem causeEnters_steady (kind : FaultKind) (byItself : Bool) : P (causeEnters kind byItself s) := by
  unfold causeEnters
  split
  · exact h
  · exact setCauses_steady hP h _

theorem causeLeaves_steady (kind : FaultKind) : P (causeLeaves kind s) := by
  unfold causeLeaves
  split
  · exact h
  · exact setCauses_steady hP h _

theorem sendEnd_steady : P (sendEnd s) := by
  unfold sendEnd
  exact volRequest_steady hP (rampRequest_steady hP (tapeCommand_steady hP h _) _ _ _) _ _ _

theorem endShow_steady : P (endShow s) := sendEnd_steady hP (setShow_steady hP (hP.engine h _) _)

theorem runShow_steady : P (runShow s).1 := by
  unfold runShow
  split
  iterate 3 exact h
  iterate 2
    · split
      · exact h
      · exact enterStep_steady hP (tapeSeesRunning_steady hP (setShow_steady hP (hP.engine h _) _)) _ _ _

theorem stopShow_steady : P (stopShow s).1 := by
  unfold stopShow
  split
  · exact h
  · refine sendEnd_steady hP (setShow_steady hP (hP.engine ?_ _) _)
    split
    · exact showReleases_steady hP (hP.engine h _)
    · exact hP.engine h _

theorem holdShow_steady : P (holdShow s).1 := by
  unfold holdShow
  split
  · exact addRequest_steady hP h
  · exact h

theorem resumeRequest_steady : P (resumeRequest s).1 := by
  unfold resumeRequest
  split
  · exact setCauses_steady hP h _
  · exact h

theorem engineSeesRamp_steady (origin : Option RampOrigin) : P (engineSeesRamp origin s) := by
  unfold engineSeesRamp
  split
  · exact h
  · split
    · exact h
    · dsimp only
      split
      · split
        · exact onExec_steady hP (onExec_steady hP h _) _
        · exact sendChange_steady hP (onExec_steady hP (onExec_steady hP h _) _) _
      · exact trySettle_steady hP (onExec_steady hP h _)

theorem changeIsDone_steady (x : Execution) : P (changeIsDone x s) := by
  have he := onExec_steady hP h fun x => { x with changeAwaited := false }
  unfold changeIsDone
  dsimp only
  split
  · split
    · exact onExec_steady hP he _
    · exact sendFadeIn_steady hP (onExec_steady hP he _) _
  · split
    · exact onExec_steady hP he _
    · exact trySettle_steady hP he

theorem engineSeesChange_steady (slot : Nat) (origin : Origin) : P (engineSeesChange slot origin s) := by
  unfold engineSeesChange
  split
  · exact h
  · split
    · exact changeIsDone_steady hP (hP.engine h _) _
    · exact h

theorem engineSeesRefusal_steady (why : RefusalWord) (slot : Nat) : P (engineSeesRefusal why slot s) := by
  unfold engineSeesRefusal
  split
  · exact h
  next x _ =>
    split
    · have hr := report_steady hP h .show [fw "CHANGE", fi x.step, fw "REFUSED", fw why.word]
      dsimp only
      split
      · exact changeIsDone_steady hP hr _
      · exact addRequest_steady hP hr
    · exact h

theorem engineSeesLocate_steady (outcome : LocateOutcome) : P (engineSeesLocate outcome s) := by
  unfold engineSeesLocate
  split
  · exact h
  · dsimp only
    split
    · exact h
    · split
      · exact trySettle_steady hP (onExec_steady hP h _)
      · exact report_steady hP (onExec_steady hP h _) _ _
      all_goals exact trySettle_steady hP (report_steady hP (onExec_steady hP h _) _ _)

theorem useTrigger_steady (x : Execution) (r : Trigger) : P (useTrigger x r s) := by
  unfold useTrigger
  split
  · split
    · exact enterStep_steady hP h _ _ _
    · split
      · exact enterStep_steady hP h _ _ _
      · exact endShow_steady hP h
  all_goals exact enterStep_steady hP h _ _ _

omit h in
theorem takeTriggers_steady (fuel : Nat) {s : State} (h : P s) : P (takeTriggers fuel s) := by
  induction fuel generalizing s with
  | zero => exact h
  | succ fuel ih =>
    unfold takeTriggers
    split
    · split
      · dsimp only
        split
        · exact useTrigger_steady hP (reviewHold_steady hP (report_steady hP (hP.triggers h _) _ _)) _ _
        · exact ih (reviewHold_steady hP (report_steady hP (hP.triggers (hP.triggers h _) _) _ _))
      · exact h
    · exact h

theorem offerHead_steady : P (offerHead s) := takeTriggers_steady hP _ h

/-! ### The cue unit -/

theorem cueMoves_steady (k : Int) : P (cueMoves k s).1 := by
  have hr := changerRequest_steady hP h ⟨s.changer.relative k, .cue, false, false⟩
  unfold cueMoves
  split <;> simp_all

theorem cueStopsTape_steady : P (cueStopsTape s).1 := tapeCommand_steady hP h .stop

theorem cueArrival_steady (y : Symbol) (action : CueAction) : P (cueArrival y action s).1 := by
  have hj := judge_steady hP h .cue
  unfold cueArrival
  split
  iterate 2 next hu => rw [hu] at hj; exact hj
  next u mode hu =>
    rw [hu] at hj
    dsimp only
    split
    iterate 2
      · split
        · exact cueMoves_steady hP hj _
        · exact enterRecord_steady hP hj _ _ _
    · exact cueStopsTape_steady hP hj
    all_goals exact hj

theorem disposition_steady (y : Symbol) (echo : Bool) : P (disposition y echo s).1 := by
  unfold disposition
  split
  · exact h
  · split
    iterate 2 exact h
    · exact cueArrival_steady hP h _ _

theorem disposeBurst_steady (y : Symbol) (echo : Bool) : P (disposeBurst y echo s) :=
  report_steady hP (hP.logged (hP.cue (disposition_steady hP h y echo) _ ⟨rfl, rfl⟩) _ _) _ _

theorem burstEnds_steady (d : Detector) (b : Burst) : P (burstEnds d b s) := by
  unfold burstEnds
  split
  · exact hP.cue h _ ⟨rfl, rfl⟩
  · exact disposeBurst_steady hP h _ _

theorem setClassifier_steady (d : Detector) (k : Classifier) : P (setClassifier d k s) := hP.cue h _ ⟨rfl, rfl⟩

theorem settledHit_steady (d : Detector) (r : RawResult) : P (settledHit d r s) := by
  unfold settledHit
  dsimp only
  split
  · exact setClassifier_steady hP h _ _
  · split
    · exact hP.present (setClassifier_steady hP h _ _) _ _ rfl
    · exact setClassifier_steady hP h _ _
  · exact setClassifier_steady hP h _ _

theorem settledMiss_steady (d : Detector) : P (settledMiss d s) := by
  unfold settledMiss
  split
  · exact h
  · split
    · exact setClassifier_steady hP h _ _
    · exact burstEnds_steady hP (setClassifier_steady hP h _ _) _ _
  · split
    · exact setClassifier_steady hP h _ _
    · exact hP.gone (setClassifier_steady hP h _ _) _ rfl

theorem settleResult_steady (d : Detector) (r : RawResult) : P (settleResult d s r) := by
  unfold settleResult
  split
  · exact settledMiss_steady hP h _
  · split
    · exact settledMiss_steady hP (hP.cue h _ ⟨rfl, rfl⟩) _
    · exact settledHit_steady hP h _ _

theorem settleNext_steady : P (settleNext s) := by
  unfold settleNext
  split
  · exact hP.emit (settleResult_steady hP (hP.cue h _ ⟨rfl, rfl⟩) _ _) _ rfl
  · exact hP.cue h _ ⟨rfl, rfl⟩

theorem closeClassifier_steady (d : Detector) : P (closeClassifier s d) := by
  unfold closeClassifier
  split
  · exact h
  · exact burstEnds_steady hP (setClassifier_steady hP h _ _) _ _
  · exact hP.gone (setClassifier_steady hP h _ _) _ rfl

theorem stopDetection_steady : P (stopDetection s) :=
  hP.emit (hP.emit (hP.emit (hP.emit (hP.cue h _ ⟨rfl, rfl⟩) .settle rfl) (.closeBurst 0) rfl) (.closeBurst 1) rfl)
    (.closeBurst 2) rfl

theorem cueSeesTape_steady (old new : TapeState) : P (cueSeesTape old new s) := by
  have hd : P (if old.listening = true ∧ new.listening = false ∧ s.cue.detecting = true then stopDetection s else s) := by
    split
    · exact stopDetection_steady hP h
    · exact h
  unfold cueSeesTape
  dsimp only
  generalize hu : (if old = .cueRecord ∧ new ≠ .cueRecord then State.emit .writeEnds _ else _) = u
  have ho : P u := by
    rw [← hu]
    split
    · exact hP.emit hd _ rfl
    · exact hd
  split
  · exact hP.cue ho _ ⟨rfl, rfl⟩
  · exact ho

theorem abandonWrite_steady : P (abandonWrite s) := by
  unfold abandonWrite
  split
  · exact h
  · exact report_steady hP (hP.cue h _ ⟨rfl, rfl⟩) _ _

/-! ### All that a telling leads to -/

/-- Every telling but that of CLEAR keeps a steady property. -/
theorem receive_steady (sig : Signal) (hs : isClear sig = false) : P (receive sig s) := by
  cases sig with
  | changeDone slot origin => exact engineSeesChange_steady hP h _ _
  | changeRefused why slot => exact engineSeesRefusal_steady hP h _ _
  | rampDone level origin => exact engineSeesRamp_steady hP h _
  | locateDone outcome arrival => exact engineSeesLocate_steady hP h _
  | tapeMoved old new => exact cueSeesTape_steady hP h _ _
  | causeIn kind byItself => exact causeEnters_steady hP h _ _
  | causeOut kind => exact causeLeaves_steady hP h _
  | offerHead => exact offerHead_steady hP h
  | reviewHold => exact reviewHold_steady hP h
  | clearKind kind => cases hs
  | settle => exact settleNext_steady hP h
  | closeBurst d => exact closeClassifier_steady hP h _
  | writeEnds => exact abandonWrite_steady hP h
end

end Sys2Proof.Machine

namespace Sys2Proof.Machine

/-! ## The bounds of the heat unit and of the cue log -/

/-- The invariants of the heat and power unit and of the cue log. -/
def State.Bounded (s : State) : Prop := HeatOk s.heat ∧ CueLogOk s.cue

section
variable (s : State)
@[simp] theorem State.onPins_bounded (f : Pins → Pins) : (s.onPins f).Bounded ↔ s.Bounded := Iff.rfl
@[simp] theorem State.onLine_bounded (f : Line → Line) : (s.onLine f).Bounded ↔ s.Bounded := Iff.rfl
@[simp] theorem State.onChanger_bounded (f : Changer → Changer) : (s.onChanger f).Bounded ↔ s.Bounded := Iff.rfl
@[simp] theorem State.onLamp_bounded (f : Lamp → Lamp) : (s.onLamp f).Bounded ↔ s.Bounded := Iff.rfl
@[simp] theorem State.onTape_bounded (f : Tape → Tape) : (s.onTape f).Bounded ↔ s.Bounded := Iff.rfl
@[simp] theorem State.onKeys_bounded (f : Keys → Keys) : (s.onKeys f).Bounded ↔ s.Bounded := Iff.rfl
@[simp] theorem State.onEngine_bounded (f : Engine → Engine) : (s.onEngine f).Bounded ↔ s.Bounded := Iff.rfl
@[simp] theorem State.onTriggers_bounded (f : Triggers → Triggers) : (s.onTriggers f).Bounded ↔ s.Bounded := Iff.rfl
@[simp] theorem State.onFaults_bounded (f : Faults → Faults) : (s.onFaults f).Bounded ↔ s.Bounded := Iff.rfl
@[simp] theorem State.emit_bounded (sig : Signal) : (s.emit sig).Bounded ↔ s.Bounded := Iff.rfl
@[simp] theorem State.report_bounded (cls : ReportClass) (fields : List Field) : (s.report cls fields).Bounded ↔ s.Bounded := Iff.rfl
end

/-- R83: a change of the heat and power unit that leaves its bounds. -/
@[simp] theorem State.onHeat_bounded {f : Heat → Heat} (h : ∀ u, HeatOk (f u) ↔ HeatOk u) (s : State) :
    (s.onHeat f).Bounded ↔ s.Bounded := and_congr_left' (h s.heat)

/-- R134: a change of the cue unit that leaves the log and its next number. -/
theorem State.onCue_bounded {f : Cue → Cue} {s : State} (h : (f s.cue).log = s.cue.log ∧ (f s.cue).nextSeq = s.cue.nextSeq) :
    (s.onCue f).Bounded ↔ s.Bounded := by
  show HeatOk s.heat ∧ CueLogOk (f s.cue) ↔ _
  rw [CueLogOk, h.1, h.2]
  rfl

/-! ### The fault list -/

section
variable (s : State)
@[simp] theorem setLatch_bounded (k : FaultKind) : (setLatch k s).Bounded ↔ s.Bounded := by rw [setLatch_frame]; rfl
@[simp] theorem tellLatch_bounded (k : FaultKind) : (tellLatch k s).Bounded ↔ s.Bounded := setLatch_bounded s k
@[simp] theorem tellPresent_bounded (k : FaultKind) (detail : Option FaultDetail) :
    (tellPresent k detail s).Bounded ↔ s.Bounded := by rw [tellPresent_frame]; rfl
@[simp] theorem releaseLatch_bounded (k : FaultKind) (word : String) : (releaseLatch k word s).Bounded ↔ s.Bounded := by
  rw [releaseLatch_frame]; rfl
@[simp] theorem tellGone_bounded (k : FaultKind) : (tellGone k s).Bounded ↔ s.Bounded := by rw [tellGone_frame]; rfl
@[simp] theorem evaluateFaultLine_bounded : (evaluateFaultLine s).Bounded ↔ s.Bounded := Iff.rfl
@[simp] theorem reportFault_bounded (k : FaultKind) (fields : List Field) : (reportFault k fields s).Bounded ↔ s.Bounded := Iff.rfl
@[simp] theorem reportRaised_bounded (k : FaultKind) : (reportRaised k s).Bounded ↔ s.Bounded := Iff.rfl
@[simp] theorem tellTripRetried_bounded : (tellTripRetried s).Bounded ↔ s.Bounded := by
  unfold tellTripRetried; split <;> simp
@[simp] theorem doFaultmodeSet_bounded (k : FaultKind) (m : FaultMode) : (doFaultmodeSet k m s).1.Bounded ↔ s.Bounded := by
  unfold doFaultmodeSet; split
  · rfl
  · dsimp only; split <;> simp
end

/-! ### The lamp controller -/

section
variable (s : State)
@[simp] theorem relight_bounded : (relight s).Bounded ↔ s.Bounded := by unfold relight; split <;> rfl
@[simp] theorem checkLampCurrent_bounded : (checkLampCurrent s).Bounded ↔ s.Bounded := by
  rw [checkLampCurrent, checkOpen_frame, checkShort_frame]; rfl
@[simp] theorem dutyAtOnce_bounded : (dutyAtOnce s).Bounded ↔ s.Bounded := by rw [dutyAtOnce_frame]; rfl
@[simp] theorem recomputeAtUpdate_bounded : (recomputeAtUpdate s).Bounded ↔ s.Bounded := by simp [recomputeAtUpdate]
@[simp] theorem rampCompletes_bounded : (rampCompletes s).Bounded ↔ s.Bounded := Iff.rfl
@[simp] theorem rampRequest_bounded (level duration : Nat) (origin : RampOrigin) :
    (rampRequest level duration origin s).Bounded ↔ s.Bounded := by
  unfold rampRequest; dsimp only; split <;> simp
@[simp] theorem advanceRamp_bounded : (advanceRamp s).Bounded ↔ s.Bounded := by
  unfold advanceRamp; dsimp only; split
  · rfl
  · split <;> simp
@[simp] theorem advanceDwell_bounded : (advanceDwell s).Bounded ↔ s.Bounded := by
  unfold advanceDwell; dsimp only; split <;> split <;> simp
@[simp] theorem runUpdate_bounded : (runUpdate s).Bounded ↔ s.Bounded := by simp [runUpdate]
@[simp] theorem setGuard_bounded (on : Bool) : (setGuard on s).Bounded ↔ s.Bounded := by
  unfold setGuard; dsimp only; split
  · rfl
  · split <;> simp
@[simp] theorem makeActive_bounded (pos : LampPos) : (makeActive pos s).Bounded ↔ s.Bounded := by simp [makeActive]
@[simp] theorem takePath_bounded : (takePath s).Bounded ↔ s.Bounded := by
  unfold takePath; split <;> (try split) <;> simp
@[simp] theorem startShift_bounded (target : LampPos) : (startShift target s).Bounded ↔ s.Bounded := by simp [startShift]
@[simp] theorem lampFails_bounded : (lampFails s).Bounded ↔ s.Bounded := by
  unfold lampFails; split
  · rfl
  · dsimp only; split
    · rfl
    · split <;> simp
@[simp] theorem leavePath_bounded : (leavePath s).Bounded ↔ s.Bounded := by rw [(leavePath_frame s).1]; rfl
@[simp] theorem switchMoves_bounded (position : Option LampPos) : (switchMoves position s).Bounded ↔ s.Bounded := by
  unfold switchMoves; dsimp only; split
  · rfl
  · split
    · simp
    · split <;> simp
@[simp] theorem shiftFails_bounded : (shiftFails s).Bounded ↔ s.Bounded := by
  unfold shiftFails; split
  · rfl
  · split
    · rfl
    · dsimp only; split <;> simp
@[simp] theorem currentMoves_bounded (current : LampCurrent) : (currentMoves current s).Bounded ↔ s.Bounded := by
  unfold currentMoves; dsimp only; split <;> simp
@[simp] theorem lampSupplyLow_bounded : (lampSupplyLow s).Bounded ↔ s.Bounded := by simp [lampSupplyLow]
@[simp] theorem lampSupplyGood_bounded : (lampSupplyGood s).Bounded ↔ s.Bounded := by simp [lampSupplyGood]
@[simp] theorem lampShortCleared_bounded : (lampShortCleared s).Bounded ↔ s.Bounded := by
  unfold lampShortCleared; split <;> simp
@[simp] theorem lampShiftCleared_bounded : (lampShiftCleared s).Bounded ↔ s.Bounded := by
  unfold lampShiftCleared; split <;> simp
@[simp] theorem doLamp_bounded (level : Int) (fade : Option Int) : (doLamp level fade s).1.Bounded ↔ s.Bounded := by
  unfold doLamp; split <;> simp
@[simp] theorem doCurveLoad_bounded (i duty : Int) : (doCurveLoad i duty s).1.Bounded ↔ s.Bounded := by
  unfold doCurveLoad; split
  · rfl
  · split
    · rfl
    · split <;> simp
@[simp] theorem doCurveRead_bounded (i : Int) : (doCurveRead i s).1.Bounded ↔ s.Bounded := by unfold doCurveRead; split <;> rfl
@[simp] theorem doLampmodShift_bounded : (doLampmodShift s).1.Bounded ↔ s.Bounded := by
  unfold doLampmodShift; split
  · rfl
  · split
    · rfl
    · split
      · rfl
      · split <;> simp
@[simp] theorem replaceLamp_bounded (pos : LampPos) : (replaceLamp pos s).Bounded ↔ s.Bounded := by
  unfold replaceLamp; dsimp only; split <;> split <;> simp
@[simp] theorem doLampmodReplace_bounded (pos : LampPos) : (doLampmodReplace pos s).1.Bounded ↔ s.Bounded := by
  unfold doLampmodReplace; split <;> simp
@[simp] theorem doLampmodRemove_bounded (pos : LampPos) : (doLampmodRemove pos s).1.Bounded ↔ s.Bounded := by
  unfold doLampmodRemove; split
  · rfl
  · split <;> simp
end

/-! ### The heat and power unit -/

section
variable (s : State)
@[simp] theorem publishLimit_bounded (n : Nat) : (publishLimit n s).Bounded ↔ s.Bounded := Iff.rfl
@[simp] theorem beginRise_bounded : (beginRise s).Bounded ↔ s.Bounded := Iff.rfl
@[simp] theorem reportPower_bounded : (reportPower s).Bounded ↔ s.Bounded := Iff.rfl
@[simp] theorem sampleSensor_bounded (reading : Int) : (sampleSensor reading s).Bounded ↔ s.Bounded := by
  unfold sampleSensor; dsimp only; split
  · simp
  · split <;> simp
@[simp] theorem judgeWarn_bounded : (judgeWarn s).Bounded ↔ s.Bounded := by
  unfold judgeWarn; dsimp only; split
  · simp
  · split <;> simp
@[simp] theorem tellTrip_bounded : (tellTrip s).Bounded ↔ s.Bounded := tellPresent_bounded _ _ _
@[simp] theorem publishCaps_bounded : (publishCaps s).Bounded ↔ s.Bounded := Iff.rfl
end

section
variable {s : State} (h : s.Bounded)
include h

/-- R83: a change of the step changes the fan drive with it. -/
theorem setFan_bounded (step : Fin 5) : (setFan step s).Bounded := by
  unfold setFan
  split
  · exact h
  · obtain ⟨⟨he, he', hb, hg, ht, -⟩, hc⟩ := h
    exact ⟨⟨he, he', hb, hg, ht, rfl⟩, hc⟩

theorem enterPower_bounded (new : PowerState) : (enterPower new s).Bounded := by
  unfold enterPower
  dsimp only
  rw [dutyAtOnce_bounded]
  refine setFan_bounded ?_ _
  split <;> simpa using h

theorem enterCooldown_bounded : (enterCooldown s).Bounded := by
  rw [enterCooldown, reportPower_bounded]
  exact enterPower_bounded (by simpa using h) _

theorem heatTripCleared_bounded : (heatTripCleared s).Bounded := by
  unfold heatTripCleared
  split
  · exact enterCooldown_bounded (by simpa using h)
  · exact h

theorem stepRise_bounded : (stepRise s).Bounded := by
  unfold stepRise
  split
  · exact h
  · dsimp only
    split
    · split
      · rw [reportPower_bounded]
        exact enterPower_bounded (by simpa using h) _
      · simpa using h
    · simpa using h

/-- R85: the counts of judged periods stop at 3 and 2. -/
theorem judgeTach_bounded : (judgeTach s).Bounded := by
  obtain ⟨⟨he, he', hb, hg, -, hd⟩, hc⟩ := h
  have ho {bad good : Nat} (hb : bad ≤ 3) (hg : good ≤ 2) (stall : Bool) : State.Bounded
      (s.onHeat fun h => { h with tachLast := h.tachNow, tachNow := 0, bad := bad, good := good, stall := stall }) :=
    ⟨⟨he, he', hb, hg, Nat.zero_le _, hd⟩, hc⟩
  have hbad : satInc 3 s.heat.bad ≤ 3 := Nat.min_le_left _ _
  have hgood : satInc 2 s.heat.good ≤ 2 := Nat.min_le_left _ _
  unfold judgeTach
  dsimp only
  split
  · exact ho (Nat.zero_le _) hg _
  · split
    · split
      · rw [tellPresent_bounded]; exact ho hbad (Nat.zero_le _) true
      · exact ho hbad (Nat.zero_le _) _
    · split
      · rw [tellGone_bounded]; exact ho (Nat.zero_le _) (Nat.zero_le _) false
      · exact ho (Nat.zero_le _) hgood _

/-- R81: the estimate is clamped. -/
theorem updateEstimate_bounded : (updateEstimate s).Bounded := by
  obtain ⟨⟨-, -, hb, hg, ht, hd⟩, hc⟩ := h
  have hclamp (n : Int) : 0 ≤ clamp 0 2500 n ∧ clamp 0 2500 n ≤ 2500 := by unfold clamp; omega
  exact ⟨⟨(hclamp _).1, (hclamp _).2, hb, hg, ht, hd⟩, hc⟩

theorem judgeTrip_bounded : (judgeTrip s).Bounded := by
  unfold judgeTrip
  dsimp only
  split
  · have ht := enterPower_bounded h .tripped
    simpa using ht
  · exact h

theorem judgeAfterRun_bounded : (judgeAfterRun s).Bounded := by
  unfold judgeAfterRun
  split
  · dsimp only
    split
    · rw [reportPower_bounded]
      exact enterPower_bounded (by simpa using h) _
    · simpa using h
  · exact h

theorem retryTrip_bounded : (retryTrip s).Bounded := by
  unfold retryTrip
  dsimp only
  rw [tellTripRetried_bounded]
  split
  · rw [reportPower_bounded]
    exact enterPower_bounded h _
  · exact enterCooldown_bounded h

theorem judgeRecovery_bounded : (judgeRecovery s).Bounded := by
  unfold judgeRecovery
  split
  · exact h
  · dsimp only
    generalize hu : ite (s.heat.effective < s.heat.set.tripAt - 150) _ _ = u
    have ho : u.Bounded := by
      rw [← hu]
      split <;> split <;> simpa using h
    split
    · split
      · exact retryTrip_bounded ho
      · exact ho
    · exact ho

theorem updateFan_bounded : (updateFan s).Bounded := by
  have hf := setFan_bounded h (fanStepOf s.heat)
  simpa [updateFan] using hf

theorem runPeriod_bounded (reading : Int) : (runPeriod reading s).Bounded := by
  unfold runPeriod
  dsimp only
  rw [publishCaps_bounded]
  refine updateFan_bounded (judgeRecovery_bounded (judgeAfterRun_bounded (judgeTrip_bounded ?_)))
  rw [judgeWarn_bounded]
  refine updateEstimate_bounded ?_
  rw [sampleSensor_bounded]
  exact judgeTach_bounded (by simpa using h)

theorem countTach_bounded : (countTach s).Bounded := by
  obtain ⟨⟨he, he', hb, hg, -, hd⟩, hc⟩ := h
  exact ⟨⟨he, he', hb, hg, Nat.min_le_left _ _, hd⟩, hc⟩

theorem doPowerOn_bounded : (doPowerOn s).1.Bounded := by
  unfold doPowerOn
  dsimp only
  split
  iterate 2
    · split
      · exact h
      · rw [accept_fst, reportPower_bounded]
        exact enterPower_bounded (by simpa using h) _
  iterate 2 simpa using h
  · split <;> simpa using h

theorem doPowerOff_bounded : (doPowerOff s).1.Bounded := by
  have hr : (s.onHeat fun h => { h with request := false }).Bounded := by simpa using h
  unfold doPowerOff
  dsimp only
  rw [accept_fst]
  split
  iterate 2 exact enterCooldown_bounded hr
  all_goals exact hr

/-- R78: the fan drive follows a change of the drive of its step. -/
theorem setFanDrive_bounded (k : Fin 4) (n : Nat) : (setFanDrive k n s).Bounded := by
  obtain ⟨⟨he, he', hb, hg, ht, -⟩, hc⟩ := h
  exact ⟨⟨he, he', hb, hg, ht, rfl⟩, hc⟩

/-- R134: the log drops its oldest entries beyond 32, and its number wraps after 65535. -/
theorem logEntry_bounded (y : Symbol) (d : Option Disposition) : (logEntry y d s).Bounded := by
  obtain ⟨hh, -⟩ := h
  refine ⟨hh, ?_, ?_⟩
  · show (List.drop _ _).length ≤ Config.cueLogPlaces
    rw [List.length_drop]
    omega
  · exact Nat.le_of_lt_succ (Nat.mod_lt _ (Nat.succ_pos _))
end

/-- R83, R134: the bounds are kept by all that a telling leads to. -/
theorem bounded_steady : Steady State.Bounded where
  line h _ := h
  changer h _ := h
  tape h _ := h
  engine h _ := h
  triggers h _ := h
  lamp h _ _ := h
  cue h _ hf := (State.onCue_bounded hf).2 h
  logged h := logEntry_bounded h
  emit h _ _ := h
  present h _ _ _ := (tellPresent_bounded _ _ _).2 h
  gone h _ _ := (tellGone_bounded _ _).2 h
  latch h _ _ := (tellLatch_bounded _ _).2 h

section
variable {s : State} (h : s.Bounded)
include h

/-! ### Tellings -/

theorem enterHalted_bounded : (enterHalted s).Bounded := by
  have hs := stopMotors_steady bounded_steady h
  simpa [enterHalted] using hs

theorem haltIfLow_bounded : (haltIfLow s).Bounded := by
  unfold haltIfLow
  split
  · exact enterHalted_bounded h
  · exact h

theorem changerCleared_bounded (kind : FaultKind) : (changerCleared kind s).Bounded := by
  unfold changerCleared
  split
  · split
    · exact h
    · dsimp only
      exact haltIfLow_bounded (by simpa using h)
  · exact h

theorem clearKind_bounded (k : FaultKind) : (clearKind k s).Bounded := by
  have he (u : State) (hu : u.Bounded) : (endAction k u).Bounded := by
    cases k with
    | jam | slideStuck | noZero => exact changerCleared_bounded hu _
    | lampShort => exact (lampShortCleared_bounded u).2 hu
    | shiftFail => exact (lampShiftCleared_bounded u).2 hu
    | heatTrip => exact heatTripCleared_bounded hu
    | trayOut | lampOpen | fanStall | heatWarn | sensorBad | supplyLow | cueStuck => exact hu
  unfold clearKind
  dsimp only
  split
  · exact h
  · exact causeLeaves_steady bounded_steady (he _ (by simpa using h)) _

theorem receive_bounded (sig : Signal) : (receive sig s).Bounded := by
  cases hs : isClear sig with
  | false => exact receive_steady bounded_steady h sig hs
  | true =>
    cases sig with
    | clearKind k => exact clearKind_bounded h k
    | _ => cases hs

omit h in
theorem drainAll_bounded (fuel : Nat) {s : State} (h : s.Bounded) : (drainAll fuel s).Bounded := by
  induction fuel generalizing s with
  | zero => exact h
  | succ fuel ih =>
    unfold drainAll
    split
    · exact h
    · exact ih (receive_bounded (s := { s with signals := [] }) h _)

theorem drain_bounded : (drain s).Bounded := drainAll_bounded 1000 h

end

end Sys2Proof.Machine

namespace Sys2Proof.Machine

/-! ### The events of the changer -/

section
variable {s : State} (h : s.Bounded)
include h

theorem jamEvent_bounded : (jamEvent s).Bounded := by
  unfold jamEvent
  split
  · exact h
  next phase _ =>
    have ht := bounded_steady.present (stopMotors_steady bounded_steady h) .jam
      (some (.phaseSlot phase (stopMotors s).changer.slot)) rfl
    dsimp only
    split
    · exact drive_steady bounded_steady (bounded_steady.changer ht _)
    · exact enterJammed_steady bounded_steady ht _

theorem phaseRunsOut_bounded : (phaseRunsOut s).Bounded := by
  unfold phaseRunsOut
  split
  · exact jamEvent_bounded h
  · exact h

theorem deglitchEnds_bounded : (deglitchEnds s).Bounded := by
  unfold deglitchEnds
  split
  · exact jamEvent_bounded h
  · exact h

omit h in
@[simp] theorem watchCurrent_bounded (s : State) : (watchCurrent s).Bounded ↔ s.Bounded := Iff.rfl

theorem blankingEnds_bounded : (blankingEnds s).Bounded := by
  unfold blankingEnds
  split <;> exact h

theorem backoffDriveEnds_bounded : (backoffDriveEnds s).Bounded := by
  unfold backoffDriveEnds
  split
  · exact bounded_steady.changer (stopMotors_steady bounded_steady h) _
  · exact h

theorem retryStarts_bounded : (retryStarts s).Bounded := by
  unfold retryStarts
  split
  iterate 3 exact enter_steady bounded_steady h _
  · exact enter_steady bounded_steady (bounded_steady.changer h _) _

theorem deadTimeEnds_bounded (motor : ChangerMotor) : (deadTimeEnds motor s).Bounded := by
  unfold deadTimeEnds
  split
  · exact h
  · dsimp only
    generalize hu : State.onChanger _ s = u
    have ho : u.Bounded := hu ▸ bounded_steady.changer h _
    split
    · split
      · exact retryStarts_bounded ho
      · exact ho
    · split
      · exact drive_steady bounded_steady ho
      · exact ho

theorem rotationPulse_bounded : (rotationPulse s).Bounded := by
  unfold rotationPulse
  split
  · exact h
  · split
    · exact enter_steady bounded_steady h _
    · exact h

theorem homingPulse_bounded : (homingPulse s).Bounded := by
  unfold homingPulse
  dsimp only
  split
  · exact h
  · split
    · exact enter_steady bounded_steady (bounded_steady.changer h _) _
    · split
      · rw [tellGone_bounded]
        refine enterJammed_steady bounded_steady ?_ _
        rw [tellPresent_bounded]
        exact stopMotors_steady bounded_steady (bounded_steady.changer h _)
      · exact h

theorem zeroCheck_bounded : (zeroCheck s).Bounded := by
  unfold zeroCheck
  dsimp only
  split
  · split
    · exact redirect_steady bounded_steady (by simpa using h)
    · simpa using h
  · split
    · exact rotationPulse_bounded (by simpa using h)
    · exact rotationPulse_bounded h

theorem indexMoves_bounded (zero : Bool) : (indexMoves zero s).Bounded := by
  unfold indexMoves
  dsimp only
  split
  · exact h
  · split
    · exact homingPulse_bounded (by simpa using h)
    · split
      · exact h
      · exact rotationPulse_bounded (by simpa using h)
      · exact zeroCheck_bounded (by simpa using h)

theorem armMoves_bounded (old : Arm) (topClosed seatClosed : Bool) : (armMoves old topClosed seatClosed s).Bounded := by
  have hstuck (c : Prop) [Decidable c] : (if c then slideStuck s else s).Bounded := by
    split
    · exact slideStuck_steady bounded_steady h
    · exact h
  have hlift : (enter .lift (returnToLift s)).Bounded := enter_steady bounded_steady (returnToLift_steady bounded_steady h) _
  unfold armMoves
  dsimp only
  split
  · split
    · exact enter_steady bounded_steady h _
    · exact h
  · split
    · exact enter_steady bounded_steady h _
    · exact hstuck _
  · exact hstuck _
  iterate 2
    · split
      · exact hlift
      · exact hstuck _
  · split
    · exact hlift
    · split
      · exact slideStuck_steady bounded_steady h
      · split
        · exact backoffDriveEnds_bounded h
        · exact h
  all_goals exact h

theorem stuckGone_bounded : (stuckGone s).Bounded := by
  unfold stuckGone
  split
  · rw [tellGone_bounded]; exact h
  · exact h

theorem gateMoves_bounded (f : Pins → Pins) : (stuckGone (refreshGate (s.onPins f))).Bounded :=
  stuckGone_bounded (refreshGate_steady bounded_steady (by simpa using h))

theorem topSwitchMoves_bounded (closed : Bool) : (topSwitchMoves closed s).Bounded :=
  armMoves_bounded (gateMoves_bounded h _) _ _ _

theorem seatSwitchMoves_bounded (closed : Bool) : (seatSwitchMoves closed s).Bounded :=
  armMoves_bounded (gateMoves_bounded h _) _ _ _

theorem settleEnds_bounded : (settleEnds s).Bounded := by
  unfold settleEnds
  split
  · exact enter_steady bounded_steady h _
  · exact h

omit h in
@[simp] theorem dropTargets_bounded (s : State) : (dropTargets s).Bounded ↔ s.Bounded := by
  have handed (t : Option Target) (u : State) : (handBack t u).Bounded ↔ u.Bounded := by
    unfold handBack
    split
    · split <;> rfl
    · rfl
  simp [dropTargets, handed]

theorem trayRemoved_bounded : (trayRemoved s).Bounded := by
  unfold trayRemoved
  dsimp only
  split
  · exact h
  · generalize hu : State.report _ _ (State.onChanger _ (State.onPins _ s)) = u
    have ho : u.Bounded := by simpa [← hu] using h
    have hs : (stopMotors u).Bounded := stopMotors_steady bounded_steady ho
    split <;> split <;> simp [ho, hs]

theorem trayInserted_bounded (zero : Bool) : (trayInserted zero s).Bounded := by
  unfold trayInserted
  dsimp only
  split
  · exact h
  · split
    · exact haltIfLow_bounded (by simpa using h)
    all_goals simpa using h

theorem changerSupplyLow_bounded : (changerSupplyLow s).Bounded := by
  unfold changerSupplyLow
  split
  iterate 3 exact h
  all_goals exact enterHalted_bounded h

theorem resumeHeld_bounded : (resumeHeld s).Bounded := by
  unfold resumeHeld
  split
  iterate 2 exact enter_steady bounded_steady h _
  iterate 2 exact enter_steady bounded_steady (bounded_steady.changer h _) _
  · exact h
  · exact drive_steady bounded_steady (bounded_steady.changer h _)
  iterate 2
    · split
      · exact enter_steady bounded_steady h _
      · exact h
  all_goals exact h

theorem changerSupplyGood_bounded : (changerSupplyGood s).Bounded := by
  unfold changerSupplyGood
  split
  · exact resumeHeld_bounded (by simpa using h)
  · exact h

/-! ### The events of the tape and of the cue unit -/

theorem restReached_bounded : (restReached s).Bounded := by
  have hr := bounded_steady.tape h fun t => { t with rest := Config.reverseGuard }
  unfold restReached
  split
  · exact h
  · dsimp only
    split
    · exact enterDriven_steady bounded_steady (bounded_steady.tape hr _) _
    · split
      · exact bounded_steady.tape hr _
      · exact arrive_steady bounded_steady hr _
      · exact hr
    · exact hr

theorem reelPulse_bounded : (reelPulse s).Bounded := by
  unfold reelPulse
  split
  · exact h
  · dsimp only
    split
    · split
      · exact approach_steady bounded_steady (bounded_steady.tape h _) _
      · exact h
    · exact h

theorem tapeEnds_bounded : (tapeEnds s).Bounded := by
  unfold tapeEnds
  split
  · exact h
  · rw [State.report_bounded]
    exact moveTape_steady bounded_steady (endLocate_steady bounded_steady (bounded_steady.tape h _) _) _ _

theorem tapeRemoved_bounded : (tapeRemoved s).Bounded := by
  unfold tapeRemoved
  dsimp only
  split
  · exact h
  · rw [State.report_bounded]
    refine moveTape_steady bounded_steady (bounded_steady.tape (endLocate_steady bounded_steady ?_ _) _) _ _
    simpa using h

theorem tapeInserted_bounded : (tapeInserted s).Bounded := by
  unfold tapeInserted
  dsimp only
  split
  · exact h
  · rw [State.report_bounded]
    exact moveTape_steady bounded_steady (by simpa using h) _ _

theorem runVolumeUpdate_bounded : (runVolumeUpdate s).Bounded := by
  have ha (u : State) (hu : u.Bounded) : (advanceVol u).Bounded := by
    unfold advanceVol
    dsimp only
    split
    · exact hu
    · split
      · exact volCompletes_steady bounded_steady (bounded_steady.tape hu _)
      · exact hu
  rw [runVolumeUpdate, State.onTape_bounded]
  exact ha _ (by simpa using h)

theorem setMute_bounded (on : Bool) : (setMute on s).Bounded := by
  unfold setMute
  split <;> exact h

theorem tapeSupplyLow_bounded : (tapeSupplyLow s).Bounded := by
  have hr := bounded_steady.tape h fun t => { t.motorOff with reasons := { t.reasons with bySupply := true } }
  unfold tapeSupplyLow
  dsimp only
  split
  iterate 4 exact moveTapeTold_steady bounded_steady hr _ _
  · exact moveTapeTold_steady bounded_steady (endLocate_steady bounded_steady hr _) _ _
  · split <;> exact hr
  all_goals exact hr

theorem tapeSupplyGood_bounded : (tapeSupplyGood s).Bounded := by
  unfold tapeSupplyGood
  split
  · exact reasonGone_steady bounded_steady (bounded_steady.tape h _)
  · exact h

theorem reachInstant_bounded (time : Nat) : (reachInstant time s).Bounded := h

theorem windowEnds_bounded (d : Detector) : (windowEnds d s).Bounded := by
  unfold windowEnds
  split <;> exact h

theorem writeCompletes_bounded : (writeCompletes s).Bounded := by
  unfold writeCompletes
  split <;> exact h

theorem startWrite_bounded (y : Symbol) : (startWrite y s).Bounded := by
  unfold startWrite
  dsimp only
  rw [State.report_bounded]
  exact logEntry_bounded (bounded_steady.cue h _ ⟨rfl, rfl⟩) _ _

theorem keyWrite_bounded (len : LengthClass) (action : CueAction) : (keyWrite len action s).1.Bounded := by
  unfold keyWrite
  dsimp only
  split
  iterate 2 exact h
  · exact startWrite_bounded h _

theorem dwellEnds_bounded : (dwellEnds s).Bounded := by
  unfold dwellEnds
  split
  · exact h
  · split
    · exact h
    · have hj := judge_steady bounded_steady
        (onExec_steady bounded_steady h fun x => { x with dwell := none, dwellRuns := false }) .dwell
      split
      next hu => rw [hu] at hj; exact enterRecord_steady bounded_steady hj _ _ _
      next hu => rw [hu] at hj; exact hj
end

/-! ### The key receiver -/

section
variable (s : State)
@[simp] theorem endFocus_bounded (fields : FocusDir → List Field) : (endFocus fields s).Bounded ↔ s.Bounded := by
  unfold endFocus; split <;> simp
@[simp] theorem judgeFocus_bounded : (judgeFocus s).Bounded ↔ s.Bounded := by
  unfold judgeFocus; split <;> (try split) <;> simp [focusLimit]
@[simp] theorem focusCurrentMoves_bounded (high : Bool) : (focusCurrentMoves high s).Bounded ↔ s.Bounded := by
  simp [focusCurrentMoves]
@[simp] theorem focusBlankingEnds_bounded : (focusBlankingEnds s).Bounded ↔ s.Bounded := by
  unfold focusBlankingEnds; split <;> (try split) <;> simp
@[simp] theorem focusRestEnds_bounded : (focusRestEnds s).Bounded ↔ s.Bounded := by
  unfold focusRestEnds; dsimp only; split <;> rfl
@[simp] theorem focusRunEnds_bounded : (focusRunEnds s).Bounded ↔ s.Bounded := by
  unfold focusRunEnds; split <;> (try split) <;> simp
@[simp] theorem focusSupplyLow_bounded : (focusSupplyLow s).Bounded ↔ s.Bounded := by simp [focusSupplyLow]
@[simp] theorem reportKey_bounded (key : Key) (source : Source) (outcome : List Field) :
    (reportKey key source outcome s).Bounded ↔ s.Bounded := Iff.rfl
@[simp] theorem ignoreKey_bounded (key : Key) (source : Source) (reason : Option String) :
    (ignoreKey key source reason s).Bounded ↔ s.Bounded := Iff.rfl
@[simp] theorem reportTaken_bounded (key : Key) (source : Source) (refusal : Option RefusalWord) (more : List Field) :
    (reportTaken key source refusal more s).Bounded ↔ s.Bounded := by unfold reportTaken; split <;> rfl
@[simp] theorem reportQueued_bounded (key : Key) (source : Source) (r : State × Bool) (more : List Field) :
    (reportQueued key source r more).Bounded ↔ r.1.Bounded := Iff.rfl
@[simp] theorem reportShowKey_bounded (key : Key) (source : Source) (r : State × Bool) :
    (reportShowKey key source r).Bounded ↔ r.1.Bounded := reportTaken_bounded _ _ _ _ _
@[simp] theorem digitKey_bounded (d : Fin 10) : (digitKey d s).Bounded ↔ s.Bounded := by unfold digitKey; split <;> rfl
@[simp] theorem digitsExpire_bounded : (digitsExpire s).Bounded ↔ s.Bounded := by unfold digitsExpire; split <;> rfl
@[simp] theorem focusKey_bounded (key : Key) (dir : FocusDir) : (focusKey key dir s).Bounded ↔ s.Bounded := by
  unfold focusKey; split <;> rfl
@[simp] theorem releaseKey_bounded : (releaseKey s).Bounded ↔ s.Bounded := by
  have ended (dir : FocusDir) (u : State) : (endKeyRun dir u).Bounded ↔ u.Bounded := by
    unfold endKeyRun; split <;> (try split) <;> simp
  unfold releaseKey; split
  · rfl
  · dsimp only; split <;> simp [ended]
@[simp] theorem repeatKey_bounded : (repeatKey s).Bounded ↔ s.Bounded := Iff.rfl
@[simp] theorem setDecoder_bounded (d : Decoder) : (setDecoder d s).Bounded ↔ s.Bounded := Iff.rfl
@[simp] theorem frameInvalid_bounded (leader : Bool) : (frameInvalid leader s).Bounded ↔ s.Bounded := Iff.rfl
@[simp] theorem spaceEnds_bounded (us : Nat) : (spaceEnds us s).Bounded ↔ s.Bounded := by
  unfold spaceEnds; dsimp only; split
  iterate 2 rfl
  · split
    · rfl
    · split <;> rfl
  · split
    · rfl
    · split
      · rfl
      · split <;> rfl
  · rfl
@[simp] theorem spaceRunsOn_bounded (us : Nat) : (spaceRunsOn us s).Bounded ↔ s.Bounded := by
  unfold spaceRunsOn; split <;> (try split) <;> rfl
end

section
variable {s : State} (h : s.Bounded)
include h

theorem keyMoves_bounded (key : Key) (source : Source) (k : Int) : (keyMoves key source k s).Bounded := by
  have hr := changerRequest_steady bounded_steady h ⟨s.changer.relative k, originOf source, false, false⟩
  simpa [keyMoves] using hr

theorem slideKey_bounded (key : Key) (source : Source) (mode : Mode) (k : Int) (kind : TriggerKind) (action : CueAction)
    (len : LengthClass) : (slideKey key source mode k kind action len s).Bounded := by
  have hw := keyWrite_bounded h len action
  unfold slideKey
  split
  · exact keyMoves_bounded h _ _ _
  iterate 2
    · rw [reportQueued_bounded]
      exact enterRecord_steady bounded_steady h _ _ _
  · split
    next hu => rw [hu] at hw; exact hw
    next hu => rw [hu] at hw; exact keyMoves_bounded hw _ _ _

theorem showKey_bounded (source : Source) (mode : Mode) : (showKey source mode s).Bounded := by
  unfold showKey
  split
  · rw [reportShowKey_bounded]; exact runShow_steady bounded_steady h
  · rw [reportShowKey_bounded]; exact holdShow_steady bounded_steady h
  · rw [reportShowKey_bounded]; exact resumeRequest_steady bounded_steady h
  · exact h

theorem stopKey_bounded (source : Source) (mode : Mode) : (stopKey source mode s).Bounded := by
  unfold stopKey
  split
  iterate 2 rw [reportShowKey_bounded]; exact stopShow_steady bounded_steady h
  all_goals exact h

theorem goKey_bounded (source : Source) (mode : Mode) (n : Nat) : (goKey source mode n s).Bounded := by
  have hr := changerRequest_steady bounded_steady h ⟨n, originOf source, false, false⟩
  unfold goKey
  split
  iterate 2
    · split
      · exact h
      · simpa using hr
  iterate 2
    · split
      · exact h
      · rw [reportQueued_bounded]
        exact enterRecord_steady bounded_steady h _ _ _

/-- R147: a key that passes the check keeps what its action keeps. -/
theorem checkKey_bounded (key : Key) (source : Source) {act : Mode → State → State}
    (ha : ∀ mode u, u.Bounded → (act mode u).Bounded) : (checkKey key source act s).Bounded := by
  have hj := judge_steady bounded_steady h source
  unfold checkKey
  split
  next hu => rw [hu] at hj; exact ha _ _ hj
  all_goals next hu => rw [hu] at hj; exact hj

theorem forwardKey_bounded (source : Source) : (forwardKey source s).Bounded :=
  checkKey_bounded h _ _ fun _ _ hu => slideKey_bounded hu _ _ _ _ _ _ _

theorem reverseKey_bounded (source : Source) : (reverseKey source s).Bounded :=
  checkKey_bounded h _ _ fun _ _ hu => slideKey_bounded hu _ _ _ _ _ _ _

theorem keyActs_bounded (key : Key) : (keyActs key s).Bounded := by
  unfold keyActs
  split
  iterate 2 simpa using h
  · exact setMute_bounded h _
  · split <;> simpa [toggleLamp] using h
  · simpa using h
  · exact forwardKey_bounded h _
  · exact reverseKey_bounded h _
  · exact checkKey_bounded h _ _ fun _ _ hu => showKey_bounded hu _ _
  · exact checkKey_bounded h _ _ fun _ _ hu => stopKey_bounded hu _ _
  · unfold commitDigits
    split
    · exact h
    · exact checkKey_bounded (by simpa using h) _ _ fun _ _ hu => goKey_bounded hu _ _ _

theorem dataFrame_bounded (w : IrWord) : (dataFrame w s).Bounded := by
  unfold dataFrame
  dsimp only
  split
  · exact h
  · split
    · exact h
    · split
      · simpa using h
      · exact keyActs_bounded (by simpa using h) _

theorem markEnds_bounded (us : Nat) : (markEnds us s).Bounded := by
  unfold markEnds
  dsimp only
  split
  iterate 2 split <;> exact h
  · exact h
  · split <;> exact h
  · split
    · unfold frameCompletes
      dsimp only
      split
      · exact dataFrame_bounded (by simpa using h) _
      · exact h
    · exact h

omit h in
theorem irDurations_bounded (gs : List IrSegment) {s : State} (h : s.Bounded) : (gs.foldl irDuration s).Bounded := by
  induction gs generalizing s with
  | nil => exact h
  | cons g gs ih =>
    refine ih ?_
    cases g with
    | mark us => exact markEnds_bounded h us
    | space us => exact (spaceEnds_bounded s us).2 h
    | spaceRuns us => exact (spaceRunsOn_bounded s us).2 h

theorem wiredSettles_bounded (key : WiredKey) : (wiredSettles key s).Bounded := by
  unfold wiredSettles
  dsimp only
  split
  · exact h
  · split
    · exact h
    · cases key
      · exact forwardKey_bounded (by simpa using h) _
      · exact reverseKey_bounded (by simpa using h) _

/-! ### The supply monitor -/

theorem raiseSupplyLow_bounded : (raiseSupplyLow s).Bounded := by
  unfold raiseSupplyLow
  dsimp only
  refine abandonWrite_steady bounded_steady ?_
  rw [focusSupplyLow_bounded]
  exact tapeSupplyLow_bounded (changerSupplyLow_bounded (by simpa using h))

theorem supplyReturns_bounded : (supplyReturns s).Bounded :=
  tapeSupplyGood_bounded (changerSupplyGood_bounded (by simpa using h))

theorem comparatorMoves_bounded (good : Bool) : (comparatorMoves good s).Bounded := by
  unfold comparatorMoves
  dsimp only
  split <;> exact h

theorem supplyDeglitchEnds_bounded : (supplyDeglitchEnds s).Bounded := by
  unfold supplyDeglitchEnds
  split
  · exact raiseSupplyLow_bounded (s := setSupply _ _ s) h
  · exact h

theorem supplyRetryEnds_bounded : (supplyRetryEnds s).Bounded := by
  unfold supplyRetryEnds
  split
  · exact supplyReturns_bounded (s := setSupply _ _ s) h
  · exact h
end

end Sys2Proof.Machine

namespace Sys2Proof.Machine

/-! ### Requests of the line -/

theorem showReply_bounded {r : State × Bool} (hr : r.1.Bounded) (word : String) : (showReply word r).1.Bounded := by
  unfold showReply
  split
  · exact drain_bounded hr
  · exact hr

section
variable {s : State} (h : s.Bounded)
include h

theorem writeNum_bounded (name : Setting) (n : Int) : (writeNum name n s).Bounded := by
  have hset {f : HeatSettings → HeatSettings} (hf : ∀ g, (f g).fanDrive = g.fanDrive) : (onHeatSet f s).Bounded := by
    obtain ⟨⟨he, he', hb, hg, ht, hd⟩, hc⟩ := h
    refine ⟨⟨he, he', hb, hg, ht, hd.trans ?_⟩, hc⟩
    show fanDutyOf s.heat.set s.heat.fan = fanDutyOf (f s.heat.set) s.heat.fan
    simp only [fanDutyOf, hf]
  unfold writeNum
  split
  iterate 4 exact h
  iterate 5 exact hset fun _ => rfl
  · exact setFanDrive_bounded h _ _
  iterate 4 exact hset fun _ => rfl
  · exact h
  iterate 2 exact reviewHold_steady bounded_steady (bounded_steady.triggers h _)
  all_goals exact h

theorem writeWord_bounded (name : Setting) (w : String) : (writeWord name w s).Bounded := by
  unfold writeWord
  dsimp only
  split
  iterate 2 exact h
  · exact (setGuard_bounded s _).2 h
  iterate 3 exact h
  · exact reviewHold_steady bounded_steady (bounded_steady.triggers h _)
  all_goals exact h

theorem doSet_bounded (name : Setting) (value : SetValue) : (doSet name value s).1.Bounded := by
  unfold doSet
  split
  · unfold setNum
    dsimp only
    split
    · exact h
    · rw [accept_fst]
      split
      · exact h
      · exact writeNum_bounded h _ _
  · unfold setWord
    split
    · exact h
    · split
      · exact h
      · rw [accept_fst]
        split
        · exact h
        · exact writeWord_bounded h _ _
  all_goals exact h

theorem doGoto_bounded (slot : Int) : (doGoto slot s).1.Bounded := by
  have hr := changerRequest_steady bounded_steady h ⟨slot.toNat, .line, false, false⟩
  unfold doGoto
  split
  · exact h
  · split
    · exact h
    · split
      · exact h
      next hu => rw [hu] at hr; exact hr

theorem doMove_bounded (k : Int) : (doMove k s).1.Bounded := by
  have hr := changerRequest_steady bounded_steady h ⟨s.changer.relative (clamp (-9) 9 k), .line, false, false⟩
  unfold doMove
  split
  · exact h
  · dsimp only
    split
    · exact h
    · split
      · exact h
      next hu => rw [hu] at hr; exact hr

theorem doPark_bounded : (doPark s).1.Bounded := by
  have hr := changerRequest_steady bounded_steady h ⟨0, .line, true, false⟩
  unfold doPark
  split
  · exact h
  · split
    · exact h
    next hu => rw [hu] at hr; exact hr

theorem doHome_bounded : (doHome s).1.Bounded := by
  unfold doHome
  split
  · exact h
  · split
    · exact h
    · rw [accept_fst]
      exact takeRequest_steady bounded_steady (bounded_steady.changer h _) _

theorem doTape_bounded (c : TapeCommand) : (doTape c s).1.Bounded := by
  have hr := tapeCommand_steady bounded_steady h c
  unfold doTape
  split
  · exact h
  next hu => rw [hu] at hr; exact hr

theorem doLocate_bounded (count : Int) (play : Bool) : (doLocate count play s).1.Bounded := by
  have hr := locateRequest_steady bounded_steady h count play .line
  unfold doLocate
  split
  · exact h
  next hu => rw [hu] at hr; exact hr

theorem doVol_bounded (level : Int) (fade : Option Int) : (doVol level fade s).1.Bounded := by
  unfold doVol
  split
  · exact h
  · exact volRequest_steady bounded_steady h _ _ _

theorem doTone_bounded (d : Int) (items : List ToneItem) : (doTone d items s).1.Bounded := by
  unfold doTone
  split
  · exact h
  · split
    · exact h
    · split
      · exact h
      · exact h

theorem doCuemapSet_bounded (d : Int) (len : LengthClass) (action : CueAction) : (doCuemapSet d len action s).1.Bounded := by
  unfold doCuemapSet
  split <;> exact h

theorem doCuewrite_bounded (d : Int) (len : LengthClass) : (doCuewrite d len s).1.Bounded := by
  unfold doCuewrite
  split
  · exact h
  · split
    · exact h
    · exact startWrite_bounded h _

theorem afterEdit_bounded : (afterEdit s).Bounded := by
  unfold afterEdit
  split
  iterate 3 exact setShow_steady bounded_steady h _
  · exact h

theorem doStepdef_bounded (n : Int) (keep : Bool) (fields : List StepField) : (doStepdef n keep fields s).1.Bounded := by
  unfold doStepdef
  split
  · exact h
  · exact afterEdit_bounded (bounded_steady.engine h _)

theorem doStepdel_bounded (n : Int) : (doStepdel n s).1.Bounded := by
  unfold doStepdel
  split
  · exact h
  · split
    · exact h
    · exact afterEdit_bounded (bounded_steady.engine h _)

theorem enterFromLine_bounded (verb : String) (kind : TriggerKind) (first : List Field) :
    (enterFromLine verb kind first s).1.Bounded := enterRecord_steady bounded_steady h _ _ _

theorem doTrigger_bounded (verb : String) (kind : TriggerKind) : (doTrigger verb kind s).1.Bounded := by
  unfold doTrigger
  split
  · exact h
  · split
    · exact h
    · exact enterFromLine_bounded h _ _ _

theorem doJump_bounded (n : Int) : (doJump n s).1.Bounded := by
  unfold doJump
  split
  · exact h
  · split
    · exact h
    · split
      · exact h
      · exact enterFromLine_bounded h _ _ _

theorem doClear_bounded (kind : Option FaultKind) : (doClear kind s).1.Bounded := by
  have tells (ks : List FaultKind) {u : State} (hu : u.Bounded) : (ks.foldl (fun s k => s.emit (.clearKind k)) u).Bounded := by
    induction ks generalizing u with
    | nil => exact hu
    | cons k ks ih => exact ih hu
  exact tells _ h

/-- Every request of the line keeps the bounds. -/
theorem handle_bounded (r : Request) : (handle r s).1.Bounded := by
  cases r with
  | set name value => exact doSet_bounded h _ _
  | goto slot => exact doGoto_bounded h _
  | move k => exact doMove_bounded h _
  | park => exact doPark_bounded h
  | home => exact doHome_bounded h
  | lamp level fade => exact (doLamp_bounded s level fade).2 h
  | curveLoad i duty => exact (doCurveLoad_bounded s i duty).2 h
  | curveRead i => exact (doCurveRead_bounded s i).2 h
  | lampmodShift => exact (doLampmodShift_bounded s).2 h
  | lampmodReplace pos => exact (doLampmodReplace_bounded s pos).2 h
  | lampmodRemove pos => exact (doLampmodRemove_bounded s pos).2 h
  | powerOn => exact doPowerOn_bounded h
  | powerOff => exact doPowerOff_bounded h
  | tapePlay | tapePause | tapeStop | tapeFwd | tapeRew | tapeCuerec => exact doTape_bounded h _
  | locate count play => exact doLocate_bounded h _ _
  | zero => show State.Bounded (doZero s).1; unfold doZero; split <;> exact h
  | vol level fade => exact doVol_bounded h _ _
  | muteOn | muteOff => exact setMute_bounded h _
  | tone d items => exact doTone_bounded h _ _
  | cuemapSet d len action => exact doCuemapSet_bounded h _ _ _
  | cuemapRead d len => show State.Bounded (doCuemapRead d len s).1; unfold doCuemapRead; split <;> exact h
  | cuewrite d len => exact doCuewrite_bounded h _ _
  | cuelog n before => show State.Bounded (doCuelog n before s).1; unfold doCuelog; split <;> exact h
  | keyaddr addr => show State.Bounded (doKeyaddr addr s).1; unfold doKeyaddr; split <;> (try split) <;> exact h
  | focusIn ms | focusOut ms => show State.Bounded (doFocus _ ms s).1; unfold doFocus; split <;> exact h
  | focusStop => exact (endFocus_bounded s _).2 h
  | stepdef n keep fields => exact doStepdef_bounded h _ _ _
  | stepdel n => exact doStepdel_bounded h _
  | stepask n => show State.Bounded (doStepask n s).1; unfold doStepask; split <;> (try split) <;> exact h
  | showRun => exact showReply_bounded (runShow_steady bounded_steady h) _
  | showStop => exact showReply_bounded (stopShow_steady bounded_steady h) _
  | showHold => exact showReply_bounded (holdShow_steady bounded_steady h) _
  | showResume => exact showReply_bounded (resumeRequest_steady bounded_steady h) _
  | next | back => exact doTrigger_bounded h _ _
  | jump n => exact doJump_bounded h _
  | permitSet source mode value => show State.Bounded (doPermitSet source mode value s).1; unfold doPermitSet; split <;> exact h
  | clear kind => exact doClear_bounded h _
  | faultmodeSet kind mode => exact (doFaultmodeSet_bounded s kind mode).2 h
  | askSetting | askLine | report | reset | askSlide | lampmodAuto | askLamp | askHeat | askTape | cuelogCounts | askKeys
  | showStatus | permitRead | permitStatus | faultmodeRead | askFaults => exact h
end

/-! ### The control line and the resets -/

section
variable {s : State} (h : s.Bounded)
include h

theorem takeLine_bounded (x : RxLine) : (takeLine x s).Bounded := by
  unfold takeLine
  dsimp only
  rw [State.onLine_bounded]
  split
  · exact drain_bounded (handle_bounded (by simpa using h) _)
  · exact drain_bounded (by simpa using h)

omit h in
theorem takeAll_bounded (fuel : Nat) {s : State} (h : s.Bounded) : (takeAll fuel s).Bounded := by
  induction fuel generalizing s with
  | zero => exact h
  | succ fuel ih =>
    unfold takeAll
    split
    · exact h
    · split
      · exact ih (takeLine_bounded (by simpa using h) _)
      · exact h

theorem offerLine_bounded (x : RxLine) : (offerLine x s).Bounded := by
  unfold offerLine
  split
  · exact takeAll_bounded _ (by simpa using h)
  · exact h

theorem receiveChar_bounded (c : RxChar) : (receiveChar c s).Bounded := by
  have hl : (lineCompletes s).Bounded := by
    unfold lineCompletes
    dsimp only
    split
    · exact h
    · split
      · exact offerLine_bounded (by simpa [setReceiver] using h) _
      · exact h
  unfold receiveChar
  dsimp only
  split
  · split <;> exact h
  · split
    · exact hl
    · split
      · exact h
      · split <;> exact h

/-- R99: a soft reset takes the default settings, with the fan drive of its step among them. -/
theorem softResetHeat_bounded : (softResetHeat s).Bounded := by
  have reported (c : Prop) [Decidable c] (u : State) : (if c then u else reportPower u).Bounded ↔ u.Bounded := by
    split <;> rfl
  obtain ⟨⟨he, he', hb, hg, ht, -⟩, hc⟩ := h
  unfold softResetHeat
  dsimp only
  rw [publishCaps_bounded, reported]
  refine setFan_bounded ?_ _
  rw [publishLimit_bounded]
  exact ⟨⟨he, he', hb, hg, ht, rfl⟩, hc⟩

theorem retellHeat_bounded : (retellHeat s).Bounded := by
  unfold retellHeat
  dsimp only
  split <;> split <;> split <;> simpa using h

theorem retellLamp_bounded : (retellLamp s).Bounded := by
  unfold retellLamp
  split
  · rw [tellPresent_bounded]; exact h
  · exact h

theorem retellSupply_bounded : (retellSupply s).Bounded := by
  unfold retellSupply
  split
  · exact raiseSupplyLow_bounded h
  · exact h

/-- R99, R137: a soft reset keeps the estimate and the counts, and empties the cue log. -/
theorem softReset_bounded : (softReset s).Bounded := by
  obtain ⟨hh, -⟩ := h
  unfold softReset
  refine drain_bounded (retellSupply_bounded (retellLamp_bounded (retellHeat_bounded (softResetHeat_bounded ?_))))
  exact ⟨hh, Nat.zero_le _, Nat.zero_le _⟩

theorem lineSent_bounded : (lineSent s).Bounded := by
  unfold lineSent
  split
  · exact h
  · split
    · exact softReset_bounded h
    · exact takeAll_bounded _ (by simpa using h)

omit h in
/-- R98, R137: the bounds of the heat unit and of the cue log after a hard reset. -/
theorem afterHardReset_bounded (p : Pins) : (State.afterHardReset p).Bounded := by
  have he : 0 ≤ estimateAtReset p.housing ∧ estimateAtReset p.housing ≤ 2500 := by
    unfold estimateAtReset
    split
    next hv => simpa [validReading] using hv
    next => decide
  exact ⟨⟨he.1, he.2, Nat.zero_le _, Nat.zero_le _, Nat.zero_le _, rfl⟩, Nat.zero_le _, Nat.zero_le _⟩

/-! ### Every command and every step -/

omit h in
/-- The state that a command answers keeps the bounds. -/
abbrev Answer.Bounded (o : Answer) : Prop := ∀ t, o = .next t → t.Bounded

omit h in
theorem happens_bounded {f : State → State} {s : State} (h : (f s).Bounded) : Answer.Bounded (happens f s) := by
  rintro t ⟨⟩; exact drain_bounded h

theorem arrives_bounded (r : Request) : Answer.Bounded (arrives r s) := by
  rintro t ⟨⟩; exact offerLine_bounded h _

/-- Every command keeps the bounds. -/
theorem exec_bounded (i : Instr) : Answer.Bounded (exec i s) := by
  cases i with
  | hardReset pins => rintro t ⟨⟩; exact afterHardReset_bounded pins
  | softReset => rintro t ⟨⟩; exact softReset_bounded h
  | characterReceived c => rintro t ⟨⟩; exact receiveChar_bounded h c
  | transmitLineEnd => rintro t ⟨⟩; exact lineSent_bounded h
  | lineRefusedForm fault => rintro t ⟨⟩; exact offerLine_bounded h _
  | indexPulse zero => exact happens_bounded (indexMoves_bounded h zero)
  | topSwitchChange closed => exact happens_bounded (topSwitchMoves_bounded h closed)
  | seatSwitchChange closed => exact happens_bounded (seatSwitchMoves_bounded h closed)
  | gateBarrierChange interrupted => exact happens_bounded (gateMoves_bounded h _)
  | motorDeadTimeEnd motor => exact happens_bounded (deadTimeEnds_bounded h motor)
  | motorBlankingEnd => exact happens_bounded (blankingEnds_bounded h)
  | motorCurrentChange high => exact happens_bounded (f := motorCurrentMoves high) h
  | overcurrentDeglitchEnd => exact happens_bounded (deglitchEnds_bounded h)
  | phaseTimeout => exact happens_bounded (phaseRunsOut_bounded h)
  | backoffDriveEnd => exact happens_bounded (backoffDriveEnds_bounded h)
  | settleEnd => exact happens_bounded (settleEnds_bounded h)
  | trayOut => exact happens_bounded (trayRemoved_bounded h)
  | trayIn zero => exact happens_bounded (trayInserted_bounded h zero)
  | irDataFrame frame => exact happens_bounded (f := fun s => List.foldl irDuration s _) (irDurations_bounded _ h)
  | irRepeatFrame frame => exact happens_bounded (f := fun s => List.foldl irDuration s _) (irDurations_bounded _ h)
  | irFrameInvalid segments => exact happens_bounded (f := fun s => List.foldl irDuration s _) (irDurations_bounded _ h)
  | wiredDebounceEnd key => exact happens_bounded (wiredSettles_bounded h key)
  | wiredInputChange key closed => exact happens_bounded (f := wiredMoves key closed) h
  | supplyComparatorChange good => exact happens_bounded (comparatorMoves_bounded h good)
  | supplyDeglitchEnd => exact happens_bounded (supplyDeglitchEnds_bounded h)
  | supplyRetryEnd => exact happens_bounded (supplyRetryEnds_bounded h)
  | thermalPeriod reading => exact happens_bounded (runPeriod_bounded h reading)
  | fanTachPulse => exact happens_bounded (countTach_bounded h)
  | riseStep => exact happens_bounded (stepRise_bounded h)
  | tapeOut => exact happens_bounded (tapeRemoved_bounded h)
  | tapeIn => exact happens_bounded (tapeInserted_bounded h)
  | tapePulse => exact happens_bounded (reelPulse_bounded h)
  | reverseGuardEnd => exact happens_bounded (restReached_bounded h)
  | endOfTape => exact happens_bounded (tapeEnds_bounded h)
  | volumeUpdate => exact happens_bounded (runVolumeUpdate_bounded h)
  | detectorWindowEnd d => exact happens_bounded (windowEnds_bounded h d)
  | cueWritten => exact happens_bounded (writeCompletes_bounded h)
  | risingCrossing d => exact happens_bounded (f := countCrossing d) h
  | dwellExpiry => exact happens_bounded (dwellEnds_bounded h)
  | lampUpdate | lampCurrentChange | openTimerExpiry | shiftSwitchChange | shiftTimeout | keyReleaseTimeout | digitsExpired
  | focusRestEnd | focusBlankingEnd | focusCurrentChange | focusRunEnd => exact happens_bounded (by simpa using h)
  | _ => exact arrives_bounded h _

theorem step_bounded : Answer.Bounded (step s) := by
  unfold step
  split
  · refine exec_bounded ?_ _; exact h
  · split
    · exact exec_bounded h _
    · rintro t ⟨⟩; exact h
end

/-- Settles O59: the heat and power unit and the cue log change by few operations, each of which keeps the bounds
(`setFan_bounded`, `judgeTach_bounded`, `updateEstimate_bounded`, `countTach_bounded`, `setFanDrive_bounded`,
`logEntry_bounded` and the resets); all else that a step does leaves them (`Steady`). -/
theorem heatAndCueLogStayBounded : Obligations.HeatAndCueLogStayBounded :=
  fun _ t h hst => step_bounded h t hst

end Sys2Proof.Machine

namespace Sys2Proof.Machine

/-! ## The readings of the heat unit, the show and the queue -/

/-- R184: the fields of a step, none of them marked, as a reading gives them. -/
theorem stepFields_unmarked (st : Step) : stepFields st (fun _ => false) =
    [kv "SL" [match st.slide with | none => .word "NONE" | some (.slot m) => .num m | some (.offset k) => .signed k],
      kw "ST" (match st.style with | .cut => "CUT" | .fade => "FADE"), kv "FD" [.num st.fadeOut, .num st.fadeIn],
      kv "LV" [match st.level with | none => .word "NONE" | some m => .num m],
      kv "SN" (match st.sound with | none => [.word "NONE"] | some (v, f) => [.num v, .num f]),
      kw "TP" (match st.tape with
        | none => "NONE" | some .play => "PLAY" | some .pause => "PAUSE" | some .stop => "STOP"
        | some .restart => "RESTART"),
      kv "AD" (match st.advance with
        | .cue => [.word "CUE"] | .key => [.word "KEY"] | .line => [.word "LINE"]
        | .dwell t => [.word "DWELL", .tenths t] | .cueOrDwell t => [.word "CUE_OR_DWELL", .tenths t]),
      kv "REACHED" [match st.reached with | none => .word "NONE" | some m => .num m]] := by
  obtain ⟨slide, style, fadeOut, fadeIn, level, sound, tape, advance, reached⟩ := st
  have hsl : slideAtom slide =
      (match slide with | none => .word "NONE" | some (.slot m) => .num m | some (.offset k) => .signed k) := by
    unfold slideAtom; rfl
  have htp : wordOrNone (tape.map StepTape.word) = .word (match tape with
      | none => "NONE" | some .play => "PLAY" | some .pause => "PAUSE" | some .stop => "STOP"
      | some .restart => "RESTART") := by
    cases tape with
    | none => rfl
    | some t => cases t <;> rfl
  have hnum (o : Option Nat) : numOrNone (o.map Int.ofNat) = (match o with | none => .word "NONE" | some m => .num m) := by
    cases o <;> rfl
  simp only [stepFields, hsl, htp, hnum, kw]
  rfl

/-- R184: STEPASK of a step of the list. -/
theorem stepask_reads {s : State} (h : LineFree s) {n : Int} {st : Step} (h1 : 1 ≤ n)
    (hst : s.engine.steps[n.toNat - 1]? = some st) :
    exec (.stepask n) s = .next (s.answered (.accepted "STEPASK" (fi n :: stepFields st fun _ => false))) := by
  have hlt : n.toNat - 1 < s.engine.steps.length := (List.getElem?_eq_some_iff.1 hst).1
  have hin : outside 1 s.engine.steps.length n = false := by simp [outside]; omega
  have hat : s.engine.stepAt n.toNat = some st := by
    have h0 : n.toNat ≠ 0 := by omega
    simp [Engine.stepAt, h0, hst]
  refine arrives_of_reading h ?_
  show doStepask n s.busyLine = _
  simp [doStepask, State.busyLine, hin, hat, accept]

/-- R184: STEPASK of no step of the list. -/
theorem stepask_refused {s : State} (h : LineFree s) {n : Int} (hn : n < 1 ∨ s.engine.steps.length < n) :
    exec (.stepask n) s = .next (s.answered (.refused .range "STEPASK")) := by
  have hout : outside 1 s.engine.steps.length n = true := by simpa [outside] using hn
  refine arrives_of_reading h ?_
  show doStepask n s.busyLine = _
  simp [doStepask, State.busyLine, hout, refuse]

/-- Words joined by slashes, by whether there is one. -/
theorem wordsOrNone_eq (ws : List String) : wordsOrNone ws = if ws = [] then [.word "NONE"] else ws.map .word := by
  cases ws <;> rfl

/-- R185: the hold causes as SHOW STATUS gives them. -/
theorem wordsOrNone_causes (cs : List Cause) :
    wordsOrNone (cs.map Cause.word) = if cs = [] then [.word "NONE"] else cs.map fun c => .word c.word := by
  cases cs with
  | nil => rfl
  | cons c cs => simp [wordsOrNone]

/-- Settles O17: the four requests are readings, and the fields of each give its block word for word. -/
theorem heatAndShowAreRead : Obligations.HeatAndShowAreRead := by
  refine ⟨fun s h => ?_, fun s n h => ⟨fun st h1 hst => ?_, stepask_refused h⟩, fun s h => ⟨?_, ?_⟩⟩
  · have rise : numOrNone (s.heat.rise.map fun r => (r.elapsed : Int)) =
        (match s.heat.rise with | none => .word "NONE" | some r => .num r.elapsed) := by
      cases s.heat.rise <;> rfl
    refine arrives_of_reading h ?_
    show doAskHeat s.busyLine = _
    simp only [doAskHeat, State.busyLine, State.onLine_heat, rise]
    rfl
  · exact (stepask_reads h h1 hst).trans
      (congrArg (fun fields => Host.Outcome.next (s.answered (.accepted "STEPASK" (fi n :: fields)))) (stepFields_unmarked st))
  · refine arrives_of_reading h ?_
    show doShowStatus s.busyLine = _
    simp only [doShowStatus, State.busyLine, State.onLine_engine, wordsOrNone_causes]
    rw [wordsOrNone_eq]
    cases s.engine.execution with
    | none => rfl
    | some x => obtain ⟨-, -, target, -, -, -, -, -, -, dwell, -⟩ := x; cases target <;> cases dwell <;> rfl
  · exact arrives_of_reading h rfl

end Sys2Proof.Machine

namespace Sys2Proof.Machine

/-! ## The power states -/

/-- R83: a fan step that differs from the present one gives the duty and is reported. -/
theorem setFan_eq (step : Fin 5) (s : State) : setFan step s =
    { s with
      heat := { s.heat with fan := step, fanDuty := if step = s.heat.fan then s.heat.fanDuty else fanDutyOf s.heat.set step }
      line := if step = s.heat.fan then s.line else s.line.offer .heat [fw "FAN", fi step.val] } := by
  unfold setFan
  split
  · next h => cases h; simp
  · next h => simp [State.report, State.onHeat, State.onLine]

/-- R84, R92, R93: the heat unit on entry to a power state. -/
def Heat.entering (new : PowerState) (h : Heat) : Heat :=
  { h with
    state := new
    rise := if new = .warming then some ⟨0, h.set.warmUp⟩ else none
    riseTimer := if new = .warming then 0 else h.riseTimer
    powerLimit := entryLimit new
    fan := max h.fan (stateFloor new)
    fanDuty := if max h.fan (stateFloor new) = h.fan then h.fanDuty else fanDutyOf h.set (max h.fan (stateFloor new)) }

/-- R84, R92, R93: the state on entry to a power state, before the lamp computes its duty. -/
def State.enteringPower (new : PowerState) (s : State) : State :=
  { s with
    heat := s.heat.entering new
    lamp := { s.lamp with pubPower := entryLimit new }
    line := if max s.heat.fan (stateFloor new) = s.heat.fan then s.line
      else s.line.offer .heat [fw "FAN", fi (max s.heat.fan (stateFloor new)).val] }

theorem enterPower_eq (new : PowerState) (s : State) : enterPower new s = dutyAtOnce (s.enteringPower new) := by
  unfold enterPower
  refine congrArg dutyAtOnce ((setFan_eq _ _).trans ?_)
  by_cases h : new = .warming
  · simp only [h, if_true, beginRise, publishLimit, State.onHeat, State.onLamp, State.enteringPower, Heat.entering]
    rfl
  · simp only [h, if_false, publishLimit, State.onHeat, State.onLamp, State.enteringPower, Heat.entering]

/-- R59: an unlit lamp stays so, and neither check of the current has anything to find. -/
theorem dutyAtOnce_unlit {s : State} (h : s.lamp.duty = 0) :
    dutyAtOnce s = s.onLamp fun l => { l with level := l.leastLevel, openTimer := none } := by
  unfold dutyAtOnce
  rw [checkLampCurrent_unshorted (.inl (by simp [h]))]
  simp [openSeen, Config.openCheckDuty, h, State.onLamp]

theorem enterPower_dark {new : PowerState} (s : State) (h : new ∈ [PowerState.standby, .cooldown, .tripped]) :
    enterPower new s =
      (s.enteringPower new).onLamp fun l => { l with level := l.leastLevel, duty := 0, openTimer := none } := by
  rw [enterPower_eq, dutyAtOnce_dark]
  exact .inr (.inr (.inr (.inr (.inr h))))

theorem Lamp.unusable_eq_false_iff (l : Lamp) : l.unusable = false ↔
    l.primary.state ∈ [LampState.good, .active] ∨ l.spare.state ∈ [LampState.good, .active] := by
  cases hp : l.primary.state <;> cases hs : l.spare.state <;> simp [Lamp.unusable, hp, hs]

/-- R92, R93: the heat unit on entry to a power state, but for its fan. -/
def Heat.turning (new : PowerState) (h : Heat) : Heat :=
  { h with
    state := new
    rise := if new = .warming then some ⟨0, h.set.warmUp⟩ else none
    riseTimer := if new = .warming then 0 else h.riseTimer
    powerLimit := entryLimit new }

/-- R84: a fan at the floor of the power state entered keeps its step. -/
theorem State.enteringPower_of_floor_met {new : PowerState} {s : State} (h : stateFloor new ≤ s.heat.fan) :
    s.enteringPower new = (s.onHeat (Heat.turning new)).onLamp fun l => { l with pubPower := entryLimit new } := by
  simp only [State.enteringPower, Heat.entering, Heat.turning, max_eq_left h, if_true, State.onHeat, State.onLamp]

/-- R84: a fan below the floor of the power state entered is raised to it, which is reported. -/
theorem State.enteringPower_of_floor_unmet {new : PowerState} {s : State} (h : s.heat.fan < stateFloor new) :
    s.enteringPower new =
      ((s.onHeat fun h => { h.turning new with fan := stateFloor new, fanDuty := fanDutyOf h.set (stateFloor new) }).onLamp
        fun l => { l with pubPower := entryLimit new }).report .heat [fw "FAN", fi (stateFloor new).val] := by
  simp only [State.enteringPower, Heat.entering, Heat.turning, max_eq_right h.le, if_neg h.ne', State.onHeat, State.onLamp,
    State.report, State.onLine]

/-- R95: POWER ON from a state without light warms the lamp. -/
theorem doPowerOn_warms {s : State} (hl : s.lamp.unusable = false)
    (hs : s.heat.state = .standby ∨ s.heat.state = .cooldown) :
    doPowerOn s =
      let warming := reportPower (enterPower .warming (s.onHeat fun h => { h with request := true, afterSeconds := 0 }))
      accept "POWER" [fw "ON", fw warming.heat.state.word] warming := by
  rcases hs with hs | hs <;> simp [doPowerOn, hs, hl, State.onHeat]

theorem doPowerOn_requests {s : State}
    (hs : s.heat.state = .warming ∨ s.heat.state = .on ∨ (s.heat.state = .tripped ∧ s.lamp.unusable = false)) :
    doPowerOn s = accept "POWER" [fw "ON", fw s.heat.state.word] (s.onHeat fun h => { h with request := true }) := by
  rcases hs with hs | hs | ⟨hs, hl⟩ <;> simp [doPowerOn, *]

theorem doPowerOn_refused {s : State} (hl : s.lamp.unusable = true)
    (hs : s.heat.state ∈ [PowerState.standby, .cooldown, .tripped]) : doPowerOn s = refuse .state "POWER" s := by
  cases h : s.heat.state <;> simp_all [doPowerOn]

/-- R96: POWER OFF from a state with light leads to COOLDOWN. -/
theorem doPowerOff_cools {s : State} (hs : s.heat.state = .warming ∨ s.heat.state = .on) :
    doPowerOff s =
      let cooling := enterCooldown (s.onHeat fun h => { h with request := false })
      accept "POWER" [fw "OFF", fw cooling.heat.state.word] cooling := by
  rcases hs with hs | hs <;> simp [doPowerOff, hs]

theorem doPowerOff_requests {s : State} (hs : s.heat.state ∉ [PowerState.warming, .on]) :
    doPowerOff s = accept "POWER" [fw "OFF", fw s.heat.state.word] (s.onHeat fun h => { h with request := false }) := by
  cases h : s.heat.state <;> simp_all [doPowerOff]

/-- R93: an unlit lamp on entry to WARMING. -/
theorem enterPower_warming {s : State} (h : s.lamp.duty = 0) :
    enterPower .warming s = (s.enteringPower .warming).onLamp fun l => { l with level := l.leastLevel, openTimer := none } := by
  rw [enterPower_eq, dutyAtOnce_unlit (by exact h)]

/-- R84, R93, R95: the state that POWER ON makes of an unlit lamp, with the fan at least at the floor of WARMING. -/
def State.warmed (s : State) : State :=
  let warming : State := (s.onHeat fun h =>
    { h with
      state := .warming, request := true, afterSeconds := 0, rise := some ⟨0, h.set.warmUp⟩, riseTimer := 0
      powerLimit := 0, fan := if h.fan = 0 then 1 else h.fan
      fanDuty := if h.fan = 0 then h.set.fanDrive[0] else h.fanDuty }).onLamp fun l =>
        { l with pubPower := 0, level := l.leastLevel, openTimer := none }
  (if s.heat.fan = 0 then warming.report .heat [fw "FAN", fi 1] else warming).report .heat [fw "POWER", fw "WARMING"]

theorem reportPower_enterPower_warming {s : State} (h : s.lamp.duty = 0) :
    reportPower (enterPower .warming (s.onHeat fun h => { h with request := true, afterSeconds := 0 })) = s.warmed := by
  rw [enterPower_warming (by exact h)]
  by_cases hf : s.heat.fan = 0
  · rw [State.enteringPower_of_floor_unmet (by simp only [State.onHeat_heat, hf]; decide)]
    simp only [State.warmed, State.onHeat, hf, if_true]
    rfl
  · rw [State.enteringPower_of_floor_met (by exact Fin.pos_of_ne_zero hf)]
    simp only [State.warmed, State.onHeat, hf, if_false]
    rfl

/-- R84, R96: the state that POWER OFF makes of a lamp with power, with the fan at least at the floor of COOLDOWN. -/
def State.cooled (s : State) : State :=
  let cooling : State := (s.onHeat fun h =>
    { h with
      state := .cooldown, request := false, afterSeconds := 0, rise := none, powerLimit := 0
      fan := if h.fan < 2 then 2 else h.fan, fanDuty := if h.fan < 2 then h.set.fanDrive[1] else h.fanDuty }).onLamp
        fun l => { l with pubPower := 0, level := l.leastLevel, duty := 0, openTimer := none }
  (if s.heat.fan < 2 then cooling.report .heat [fw "FAN", fi 2] else cooling).report .heat [fw "POWER", fw "COOLDOWN"]

theorem enterCooldown_unrequested (s : State) : enterCooldown (s.onHeat fun h => { h with request := false }) = s.cooled := by
  rw [enterCooldown, enterPower_dark _ (by decide)]
  by_cases hf : s.heat.fan < 2
  · rw [State.enteringPower_of_floor_unmet (by exact hf)]
    simp only [State.cooled, State.onHeat, hf, if_true]
    rfl
  · rw [State.enteringPower_of_floor_met (by exact not_lt.1 hf)]
    simp only [State.cooled, State.onHeat, hf, if_false]
    rfl

@[simp] theorem State.warmed_signals (s : State) : s.warmed.signals = s.signals := by
  unfold State.warmed
  dsimp only
  split <;> simp

@[simp] theorem State.warmed_buffer (s : State) : s.warmed.line.buffer = s.line.buffer := by
  unfold State.warmed
  dsimp only
  split <;> simp

@[simp] theorem State.warmed_state (s : State) : s.warmed.heat.state = .warming := by
  unfold State.warmed
  dsimp only
  split <;> simp

@[simp] theorem State.cooled_signals (s : State) : s.cooled.signals = s.signals := by
  unfold State.cooled
  dsimp only
  split <;> simp

@[simp] theorem State.cooled_buffer (s : State) : s.cooled.line.buffer = s.line.buffer := by
  unfold State.cooled
  dsimp only
  split <;> simp

@[simp] theorem State.cooled_state (s : State) : s.cooled.heat.state = .cooldown := by
  unfold State.cooled
  dsimp only
  split <;> simp

/-- Settles O33: the state and the two lamp records decide which rule of POWER holds; WARMING and COOLDOWN are entered
without light, so the duty computed at once is known. -/
theorem powerOnAndOff : Obligations.PowerOnAndOff := by
  intro s h usable
  have hus : usable ↔ s.busyLine.lamp.unusable = false := (Lamp.unusable_eq_false_iff _).symm
  have hnus : ¬ usable ↔ s.busyLine.lamp.unusable = true := by rw [hus, Bool.not_eq_false]
  refine ⟨fun hu hs hd => ?_, fun hs => ?_, fun hu hs => ?_, fun hs => ?_, fun hs => ?_⟩
  · refine arrives_of_effect (f := State.warmed) h ((doPowerOn_warms (hus.1 hu) hs).trans ?_) ?_ ?_
    · simp only [reportPower_enterPower_warming (s := s.busyLine) hd, State.warmed_state]
      rfl
    · simpa [State.busyLine] using h.2.2.2.2
    · simpa [State.busyLine] using h.2.2.1
  · exact arrives_of_silent (t := s.onHeat _) h (doPowerOn_requests (hs.imp_right (.imp_right (.imp_right hus.1)))) h.2.2.2
      h.2.2.1
  · exact arrives_of_reading h (doPowerOn_refused (hnus.1 hu) hs)
  · refine arrives_of_effect (f := State.cooled) h ((doPowerOff_cools (s := s.busyLine) hs).trans ?_) ?_ ?_
    · simp only [enterCooldown_unrequested, State.cooled_state]
      rfl
    · simpa [State.busyLine] using h.2.2.2.2
    · simpa [State.busyLine] using h.2.2.1
  · exact arrives_of_silent (t := s.onHeat _) h (doPowerOff_requests (s := s.busyLine) hs) h.2.2.2 h.2.2.1

/-! ## The rise -/

theorem stepRise_none {s : State} (h : s.heat.rise = none) : stepRise s = s := by simp [stepRise, h]

theorem stepRise_goes_on {s : State} {r : Rise} (h : s.heat.rise = some r) (hr : r.elapsed + 10 < r.warmUp) :
    stepRise s = publishLimit (1000 * (r.elapsed + 10) / r.warmUp)
      (s.onHeat fun h => { h with riseTimer := 0, rise := some { r with elapsed := r.elapsed + 10 } }) := by
  simp [stepRise, h, Config.riseStep, hr, riseLimit, State.onHeat]

theorem stepRise_ends {s : State} {r : Rise} (h : s.heat.rise = some r) (hr : r.warmUp ≤ r.elapsed + 10) :
    stepRise s =
      let full := publishLimit 1000 (s.onHeat fun h => { h with riseTimer := 0, rise := none })
      if s.heat.state = .warming then reportPower (enterPower .on full) else full := by
  simp [stepRise, h, Config.riseStep, hr, publishLimit, State.onHeat, State.onLamp]

/-- R93: the end of a rise in WARMING, where the fan turns and the lamp current is normal. -/
theorem stepRise_reaches_on {s : State} {r : Rise} (h : s.heat.rise = some r) (hr : r.warmUp ≤ r.elapsed + 10)
    (hw : s.heat.state = .warming) (hf : s.heat.fan ≠ 0) (hc : s.pins.lampCurrent = .normal) :
    ∃ duty ≤ s.lamp.duty, stepRise s = { s with
      heat := { s.heat with riseTimer := 0, rise := none, powerLimit := 1000, state := .on }
      lamp := { s.lamp with pubPower := 1000, level := s.lamp.leastLevel, duty := duty, openTimer := none }
      line := s.line.offer .heat [fw "POWER", fw "ON"] } := by
  rw [stepRise_ends h hr]
  simp only [hw, if_true]
  rw [enterPower_eq, State.enteringPower_of_floor_met (by exact Fin.pos_of_ne_zero hf), dutyAtOnce_normal (by exact hc)]
  simp only [publishLimit, reportPower, Heat.turning, State.onHeat, State.onLamp, State.report, State.onLine, reduceCtorEq,
    if_false]
  refine ⟨_, ?_, rfl⟩
  exact Nat.min_le_left _ _

/-- Settles O35: a rise goes on or ends; at its end in WARMING the fan already turns and the lamp current is normal, so the
entry to ON changes only the limit, the delivered level and the duty. -/
theorem tachPulsesAndRisesAreCounted : Obligations.TachPulsesAndRisesAreCounted := by
  intro s h
  refine ⟨happens_of_quiet h.2, fun hr => ?_, fun r hr => ⟨fun hgo => ?_, fun hend hon => ?_, fun hend hw hf hc => ?_⟩⟩
  · have hq := stepRise_none hr
    exact (happens_of_quiet (by rw [hq]; exact h.2)).trans (by rw [hq])
  · have hq := stepRise_goes_on hr hgo
    exact (happens_of_quiet (by rw [hq]; exact h.2)).trans (by rw [hq]; rfl)
  · have hq := stepRise_ends hr hend
    simp only [hon, reduceCtorEq, if_false] at hq
    exact (happens_of_quiet (by rw [hq]; exact h.2)).trans (by rw [hq]; rfl)
  · obtain ⟨duty, hle, hq⟩ := stepRise_reaches_on hr hend hw hf hc
    exact ⟨stepRise s, happens_of_quiet (by rw [hq]; exact h.2), by rw [hq], by rw [hq]; exact hle⟩

end Sys2Proof.Machine

namespace Sys2Proof.Machine

/-! ## What the heat and power unit leaves alone

Beside its own block, the heat and power unit changes the fault list, the line, what it publishes to the lamp controller, and
what the lamp controller computes at once; it tells the show engine of causes of hold. -/

/-- A telling that a cause of hold enters or leaves. -/
def Signal.OfCause (sig : Signal) : Prop := sig.Causal ∨ ∃ k, sig = .causeOut k

/-- `t` comes from `s` by work of the heat and power unit that tells the fault list of kinds among `ks`. -/
structure Works (ks : List FaultKind) (s t : State) : Prop where
  frame : ∃ sigs : List Signal, (∀ sig ∈ sigs, sig.OfCause) ∧
    t = { s with
      heat := t.heat, faults := t.faults, line := t.line, signals := s.signals ++ sigs
      lamp := { s.lamp with
        pubTherm := t.lamp.pubTherm, pubStall := t.lamp.pubStall, pubPower := t.lamp.pubPower, level := t.lamp.level
        duty := t.lamp.duty, openTimer := t.lamp.openTimer, shortHold := t.lamp.shortHold } }
  duty : t.lamp.duty ≤ s.lamp.duty
  mode : ∀ k, (t.faults.record k).mode = (s.faults.record k).mode
  record : ∀ k ∉ ks, t.faults.record k = s.faults.record k

section
variable {ks ks' : List FaultKind} {s t u : State}

theorem Works.trans (h : Works ks s t) (h' : Works ks' t u) : Works (ks ++ ks') s u := by
  obtain ⟨a, ha, hst⟩ := h.frame
  obtain ⟨b, hb, htu⟩ := h'.frame
  refine ⟨⟨a ++ b, fun sig hsig => (List.mem_append.1 hsig).elim (ha sig) (hb sig), ?_⟩, h'.duty.trans h.duty,
    fun k => (h'.mode k).trans (h.mode k), fun k hk => ?_⟩
  · rw [hst] at htu
    rw [htu]
    simp
  · rw [List.mem_append, not_or] at hk
    exact (h'.record k hk.2).trans (h.record k hk.1)

theorem Works.mono (h : Works ks s t) (hks : ks ⊆ ks') : Works ks' s t :=
  ⟨h.frame, h.duty, h.mode, fun k hk => h.record k fun hm => hk (hks hm)⟩

theorem Works.onPins (h : Works ks s t) (f : Pins → Pins) : Works ks (s.onPins f) (t.onPins f) := by
  obtain ⟨a, ha, hst⟩ := h.frame
  refine ⟨⟨a, ha, ?_⟩, h.duty, h.mode, h.record⟩
  rw [hst]
  rfl

theorem Works.refl (s : State) : Works [] s s :=
  ⟨⟨[], by simp, by simp⟩, le_rfl, fun _ => rfl, fun _ _ => rfl⟩

theorem Works.onHeat (f : Heat → Heat) (s : State) : Works [] s (s.onHeat f) :=
  ⟨⟨[], by simp, by simp [State.onHeat]⟩, le_rfl, fun _ => rfl, fun _ _ => rfl⟩

theorem Works.report (cls : ReportClass) (fields : List Field) (s : State) : Works [] s (s.report cls fields) :=
  ⟨⟨[], by simp, by simp [State.report, State.onLine]⟩, le_rfl, fun _ => rfl, fun _ _ => rfl⟩

/-- A telling to the fault list of the kind `k`. -/
theorem Works.of_tells {k : FaultKind} {sigs : List Signal} (h : Tells sigs s t) (hs : ∀ sig ∈ sigs, sig.OfCause)
    (hm : (t.faults.record k).mode = (s.faults.record k).mode) (hr : ∀ o, o ≠ k → t.faults.record o = s.faults.record o) :
    Works [k] s t := by
  refine ⟨⟨sigs, hs, ?_⟩, by rw [h.lamp], fun o => ?_, fun o ho => hr o (by simpa using ho)⟩
  · rw [h.lamp, h.heat]
    exact h
  · by_cases ho : o = k
    · rw [ho, hm]
    · rw [hr o ho]

/-! ### The fault list -/

theorem tellPresent_tells (k : FaultKind) (detail : Option FaultDetail) (s : State) :
    ∃ sigs, Tells sigs s (tellPresent k detail s) ∧ ∀ sig ∈ sigs, sig.Causal := by
  obtain ⟨⟨sigs, h, hc⟩, -, -⟩ := Shines.tellPresent k detail s
  refine ⟨sigs, ?_, hc⟩
  have hl : (tellPresent k detail s).lamp = s.lamp := by rw [tellPresent_frame]
  rwa [hl] at h

theorem tellPresent_mode (k : FaultKind) (detail : Option FaultDetail) (s : State) :
    ((tellPresent k detail s).faults.record k).mode = (s.faults.record k).mode := by
  by_cases hm : (s.faults.record k).mode = .off
  · unfold tellPresent
    dsimp only
    rw [onFaults_change_record, if_pos (by exact hm), evaluateFaultLine_record, onFaults_change_record]
  · rw [tellPresent_record_self detail hm, FaultRecord.occurred]

/-- R201: after an occurrence the condition is present, whatever the mode. -/
theorem tellPresent_present (k : FaultKind) (detail : Option FaultDetail) (s : State) :
    ((tellPresent k detail s).faults.record k).present = true := by
  by_cases hm : (s.faults.record k).mode = .off
  · unfold tellPresent
    dsimp only
    rw [onFaults_change_record, if_pos (by exact hm), evaluateFaultLine_record, onFaults_change_record]
  · rw [tellPresent_record_self detail hm, FaultRecord.occurred]

theorem Works.tellPresent (k : FaultKind) (detail : Option FaultDetail) (s : State) :
    Works [k] s (tellPresent k detail s) := by
  obtain ⟨sigs, h, hc⟩ := tellPresent_tells k detail s
  exact .of_tells h (fun sig hsig => .inl (hc sig hsig)) (tellPresent_mode k detail s)
    fun o ho => tellPresent_record ho detail s

/-- R202: a released latch tells the show engine of a kind that holds the show. -/
theorem releaseLatch_tells (k : FaultKind) (word : String) (s : State) :
    ∃ sigs, Tells sigs s (releaseLatch k word s) ∧ ∀ sig ∈ sigs, sig.OfCause := by
  unfold releaseLatch Tells
  cases hk : causeOf k with
  | none => exact ⟨[], by simp [State.onFaults, reportFault, State.report, State.onLine], by simp⟩
  | some c =>
    exact ⟨[.causeOut k], by simp [State.onFaults, reportFault, State.report, State.onLine, State.emit],
      fun sig hsig => .inr ⟨k, List.mem_singleton.1 hsig⟩⟩

theorem releaseLatch_record_self (k : FaultKind) (word : String) (s : State) :
    (releaseLatch k word s).faults.record k = { s.faults.record k with latched := false } := by
  unfold releaseLatch
  cases causeOf k <;> simp

theorem Works.releaseLatch (k : FaultKind) (word : String) (s : State) : Works [k] s (releaseLatch k word s) := by
  obtain ⟨sigs, h, hc⟩ := releaseLatch_tells k word s
  exact .of_tells h hc (by rw [releaseLatch_record_self]) fun o ho => releaseLatch_record ho word s

theorem Works.evaluateFaultLine (s : State) : Works [] s (evaluateFaultLine s) :=
  ⟨⟨[], by simp, by simp [Machine.evaluateFaultLine, State.onFaults]⟩, le_rfl, fun _ => rfl, fun _ _ => rfl⟩

/-- R202: what a condition that goes leaves of its record and tells. -/
theorem tellGone_outcome (k : FaultKind) (s : State) :
    Works [k] s (tellGone k s) ∧ ((tellGone k s).faults.record k).present = false := by
  have change : Works [k] s (s.onFaults (Faults.change k fun r => { r with present := false })) :=
    .of_tells (sigs := []) (by simp [Tells, State.onFaults]) (by simp) (by rw [onFaults_change_record])
      fun o ho => Faults.record_change_of_ne ho _ _
  have report (fields : List Field) (t : State) : Works [] t (reportFault k fields t) := Works.report _ _ t
  by_cases hp : (s.faults.record k).present = true
  · unfold tellGone
    dsimp only
    rw [if_neg (by simp [hp])]
    split
    · split
      · exact ⟨(change.trans (report _ _)).trans (.evaluateFaultLine _), by simp⟩
      · exact ⟨change.trans (.evaluateFaultLine _), by simp⟩
    · split
      · exact ⟨((change.trans (.releaseLatch k _ _)).trans (.evaluateFaultLine _)).mono (by simp),
          by simp [releaseLatch_record_self]⟩
      · exact ⟨(change.trans (report _ _)).trans (.evaluateFaultLine _), by simp⟩
  · rw [tellGone_of_absent (by simpa using hp)]
    exact ⟨(Works.refl s).mono (by simp), by simpa using hp⟩

theorem Works.tellGone (k : FaultKind) (s : State) : Works [k] s (tellGone k s) := (tellGone_outcome k s).1

theorem Works.tellTripRetried (s : State) : Works [.heatTrip] s (tellTripRetried s) := by
  unfold Machine.tellTripRetried
  split
  · exact (Works.releaseLatch _ _ s).trans (.evaluateFaultLine _)
  · exact (Works.refl s).mono (by simp)

/-- R90: after a retry the latch of the trip is clear. -/
theorem tellTripRetried_latched (s : State) : ((tellTripRetried s).faults.record .heatTrip).latched = false := by
  unfold tellTripRetried
  split
  · rw [evaluateFaultLine_record, releaseLatch_record_self]
  · next h => simpa using h

@[simp] theorem tellPresent_heat (k : FaultKind) (detail : Option FaultDetail) (s : State) :
    (tellPresent k detail s).heat = s.heat := by rw [tellPresent_frame]
@[simp] theorem tellGone_heat (k : FaultKind) (s : State) : (tellGone k s).heat = s.heat := by rw [tellGone_frame]
@[simp] theorem tellTripRetried_heat (s : State) : (tellTripRetried s).heat = s.heat := by
  unfold tellTripRetried
  split
  · rw [releaseLatch_frame]
    rfl
  · rfl
@[simp] theorem tellPresent_lamp (k : FaultKind) (detail : Option FaultDetail) (s : State) :
    (tellPresent k detail s).lamp = s.lamp := by rw [tellPresent_frame]
@[simp] theorem tellGone_lamp (k : FaultKind) (s : State) : (tellGone k s).lamp = s.lamp := by rw [tellGone_frame]
@[simp] theorem tellTripRetried_lamp (s : State) : (tellTripRetried s).lamp = s.lamp := by
  unfold tellTripRetried
  split
  · rw [releaseLatch_frame]
    rfl
  · rfl

/-! ### The lamp -/

theorem Works.onLamp {f : Lamp → Lamp} (hf : ∀ l, f l = { l with
      pubTherm := (f l).pubTherm, pubStall := (f l).pubStall, pubPower := (f l).pubPower, level := (f l).level
      duty := (f l).duty, openTimer := (f l).openTimer, shortHold := (f l).shortHold })
    (hd : ∀ l, (f l).duty ≤ l.duty) (s : State) : Works [] s (s.onLamp f) := by
  refine ⟨⟨[], by simp, ?_⟩, hd _, fun _ => rfl, fun _ _ => rfl⟩
  rw [State.onLamp, hf s.lamp]
  simp

theorem Works.checkShort (s : State) : Works [.lampShort] s (checkShort s) := by
  unfold Machine.checkShort
  split
  · refine ((Works.onLamp ?_ ?_ s).trans (.tellPresent _ _ _)).trans (.report _ _ _)
    · exact fun _ => rfl
    · exact fun _ => Nat.zero_le _
  · exact (Works.refl s).mono (by simp)

/-- R57, R59, R66: the duty computed at once, and the fault of a short current. -/
theorem Works.dutyAtOnce (s : State) : Works [.lampShort] s (dutyAtOnce s) := by
  unfold Machine.dutyAtOnce checkLampCurrent
  rw [checkOpen_frame]
  refine ((Works.onLamp ?_ ?_ s).trans (.checkShort _)).trans (.onLamp ?_ ?_ _)
  · exact fun _ => rfl
  · exact fun _ => Nat.min_le_left _ _
  · exact fun _ => rfl
  · exact fun _ => le_rfl

theorem Works.enteringPower (new : PowerState) (s : State) : Works [] s (s.enteringPower new) :=
  ⟨⟨[], by simp, by simp [State.enteringPower]⟩, le_rfl, fun _ => rfl, fun _ _ => rfl⟩

theorem Works.enterPower (new : PowerState) (s : State) : Works [.lampShort] s (enterPower new s) := by
  rw [enterPower_eq]
  exact (Works.enteringPower new s).trans (.dutyAtOnce _)

@[simp] theorem dutyAtOnce_heat (s : State) : (dutyAtOnce s).heat = s.heat := by rw [dutyAtOnce_frame]
@[simp] theorem enterPower_heat (new : PowerState) (s : State) : (enterPower new s).heat = s.heat.entering new := by
  rw [enterPower_eq, dutyAtOnce_heat]
  rfl
end

end Sys2Proof.Machine

namespace Sys2Proof.Machine

/-! ## The stages of a thermal period -/

/-- R83, R85: the count of the period is below the least of the fan step. -/
def Heat.slow (h : Heat) : Bool := decide (h.tachNow < 10 * h.fan.val)

/-- R85: the count of bad periods. -/
def Heat.badAfter (h : Heat) : Nat := if h.fan = 0 then 0 else if h.slow then min 3 (h.bad + 1) else 0

/-- R85: the count of good periods, before a revival clears it. -/
def Heat.goodAfter (h : Heat) : Nat := if h.fan = 0 then h.good else if h.slow then 0 else min 2 (h.good + 1)

/-- R85: the fan has been slow for three periods, and no stall is noted. -/
abbrev Heat.stalls (h : Heat) : Prop := h.fan ≠ 0 ∧ h.slow = true ∧ h.badAfter = 3 ∧ h.stall = false

/-- R85: the fan has turned for two periods under a stall. -/
abbrev Heat.revives (h : Heat) : Prop := h.fan ≠ 0 ∧ h.slow = false ∧ h.goodAfter = 2 ∧ h.stall = true

/-- R85: the heat unit after stage 1. -/
def Heat.tached (h : Heat) : Heat :=
  { h with
    tachLast := h.tachNow, tachNow := 0, bad := h.badAfter, good := if h.revives then 0 else h.goodAfter
    stall := if h.stalls then true else if h.revives then false else h.stall }

section
variable {h : Heat}

theorem Heat.counts_of_still (hf : h.fan = 0) : h.badAfter = 0 ∧ h.goodAfter = h.good := ⟨if_pos hf, if_pos hf⟩

theorem Heat.counts_of_slow (hf : h.fan ≠ 0) (hl : h.slow = true) : h.badAfter = min 3 (h.bad + 1) ∧ h.goodAfter = 0 := by
  simp [Heat.badAfter, Heat.goodAfter, hf, hl]

theorem Heat.counts_of_fast (hf : h.fan ≠ 0) (hl : h.slow = false) : h.badAfter = 0 ∧ h.goodAfter = min 2 (h.good + 1) := by
  simp [Heat.badAfter, Heat.goodAfter, hf, hl]
end

/-- R85: stage 1. -/
theorem judgeTach_eq (s : State) : judgeTach s =
    if s.heat.stalls then
      tellPresent .fanStall (some (.num s.heat.fan.val)) ((s.onHeat Heat.tached).report .heat [fw "STALL", fw "ON"])
    else if s.heat.revives then tellGone .fanStall ((s.onHeat Heat.tached).report .heat [fw "STALL", fw "OFF"])
    else s.onHeat Heat.tached := by
  unfold judgeTach satInc leastTach
  dsimp only [State.onHeat]
  by_cases hf : s.heat.fan = 0
  · have hstall : ¬ s.heat.stalls := fun h => h.1 hf
    have hrevive : ¬ s.heat.revives := fun h => h.1 hf
    obtain ⟨hbad, hgood⟩ := Heat.counts_of_still hf
    rw [if_pos hf, if_neg hstall, if_neg hrevive]
    simp only [Heat.tached, if_neg hstall, if_neg hrevive, hbad, hgood]
  · rw [if_neg hf]
    by_cases hl : s.heat.tachNow < 10 * s.heat.fan.val
    · have hslow : s.heat.slow = true := decide_eq_true hl
      have hrevive : ¬ s.heat.revives := fun h => by simp [h.2.1] at hslow
      obtain ⟨hbad, hgood⟩ := Heat.counts_of_slow hf hslow
      rw [if_pos hl, if_neg hrevive]
      by_cases hs : min 3 (s.heat.bad + 1) = 3 ∧ s.heat.stall = false
      · have hstall : s.heat.stalls := ⟨hf, hslow, hbad.trans hs.1, hs.2⟩
        rw [if_pos hs, if_pos hstall]
        simp only [Heat.tached, if_pos hstall, if_neg hrevive, hbad, hgood]
      · have hstall : ¬ s.heat.stalls := fun h => hs ⟨hbad.symm.trans h.2.2.1, h.2.2.2⟩
        rw [if_neg hs, if_neg hstall]
        simp only [Heat.tached, if_neg hstall, if_neg hrevive, hbad, hgood]
    · have hfast : s.heat.slow = false := decide_eq_false hl
      have hstall : ¬ s.heat.stalls := fun h => by simp [h.2.1] at hfast
      obtain ⟨hbad, hgood⟩ := Heat.counts_of_fast hf hfast
      rw [if_neg hl, if_neg hstall]
      by_cases hs : min 2 (s.heat.good + 1) = 2 ∧ s.heat.stall = true
      · have hrevive : s.heat.revives := ⟨hf, hfast, hgood.trans hs.1, hs.2⟩
        rw [if_pos hs, if_pos hrevive]
        simp only [Heat.tached, if_neg hstall, if_pos hrevive, hbad]
      · have hrevive : ¬ s.heat.revives := fun h => hs ⟨hgood.symm.trans h.2.2.1, h.2.2.2⟩
        rw [if_neg hs, if_neg hrevive]
        simp only [Heat.tached, if_neg hstall, if_neg hrevive, hbad, hgood]

section
variable (s : State)

theorem judgeTach_works : Works [.fanStall] s (judgeTach s) := by
  have turn (f : Heat → Heat) : Works [] s (s.onHeat f) := .onHeat f s
  rw [judgeTach_eq]
  split
  · exact ((turn _).trans (.report _ _ _)).trans (.tellPresent _ _ _)
  · split
    · exact ((turn _).trans (.report _ _ _)).trans (.tellGone _ _)
    · exact (turn _).mono (by simp)

@[simp] theorem judgeTach_heat : (judgeTach s).heat = s.heat.tached := by
  rw [judgeTach_eq]
  split
  · simp
  · split <;> simp

@[simp] theorem judgeTach_lamp : (judgeTach s).lamp = s.lamp := by
  rw [judgeTach_eq]
  split
  · simp
  · split <;> simp

theorem judgeTach_present : ((judgeTach s).faults.record .fanStall).present =
    if s.heat.stalls then true else if s.heat.revives then false else (s.faults.record .fanStall).present := by
  rw [judgeTach_eq]
  split
  · exact tellPresent_present _ _ _
  · split
    · exact (tellGone_outcome _ _).2
    · rfl

theorem sampleSensor_works (r : Int) : Works [.sensorBad] (s.onPins fun p => { p with housing := r }) (sampleSensor r s) := by
  unfold sampleSensor
  dsimp only
  split
  · exact ((Works.onHeat _ _).trans (.report _ _ _)).trans (.tellPresent _ _ _)
  · split
    · exact ((Works.onHeat _ _).trans (.report _ _ _)).trans (.tellGone _ _)
    · exact (Works.onHeat _ _).mono (by simp)

theorem sampleSensor_heat (r : Int) :
    (sampleSensor r s).heat = { s.heat with sensor := r, sensorValid := validReading r } := by
  unfold sampleSensor
  dsimp only
  split
  · simp
  · split <;> simp

theorem sampleSensor_lamp (r : Int) : (sampleSensor r s).lamp = s.lamp := by
  unfold sampleSensor
  dsimp only
  split
  · simp
  · split <;> simp

/-- R88: the warning after stage 5. -/
def Heat.warns (h : Heat) : Bool :=
  if h.warn then decide (h.set.warnAt - 50 ≤ h.effective) else decide (h.set.warnAt ≤ h.effective)

theorem judgeWarn_eq : judgeWarn s =
    let u := s.onHeat fun h => { h with warn := h.warns }
    if s.heat.warns = s.heat.warn then u
    else if s.heat.warns then
      tellPresent .heatWarn (some (.num s.heat.effective)) (u.report .heat [fw "WARN", fw "ON", fi s.heat.effective])
    else tellGone .heatWarn (u.report .heat [fw "WARN", fw "OFF", fi s.heat.effective]) := by
  have keep (h : s.heat.warns = s.heat.warn) : (s.onHeat fun h => { h with warn := h.warns }) = s := by
    simp [State.onHeat, h]
  unfold judgeWarn
  dsimp only
  cases hw : s.heat.warn
  · by_cases he : s.heat.set.warnAt ≤ s.heat.effective
    · simp [Heat.warns, hw, he, State.onHeat]
    · have hn : s.heat.warns = false := by simpa [Heat.warns, hw] using he
      rw [keep (hn.trans hw.symm)]
      simp [hn, he]
  · by_cases he : s.heat.effective < s.heat.set.warnAt - 50
    · simp [Heat.warns, hw, he, not_le.2 he, State.onHeat]
    · have hn : s.heat.warns = true := by simpa [Heat.warns, hw] using he
      rw [keep (hn.trans hw.symm)]
      simp [hn, he]

theorem judgeWarn_works : Works [.heatWarn] s (judgeWarn s) := by
  have turn (f : Heat → Heat) : Works [] s (s.onHeat f) := .onHeat f s
  rw [judgeWarn_eq]
  dsimp only
  split
  · exact (turn _).mono (by simp)
  · split
    · exact ((turn _).trans (.report _ _ _)).trans (.tellPresent _ _ _)
    · exact ((turn _).trans (.report _ _ _)).trans (.tellGone _ _)

@[simp] theorem judgeWarn_heat : (judgeWarn s).heat = { s.heat with warn := s.heat.warns } := by
  rw [judgeWarn_eq]
  dsimp only
  split
  · simp
  · split <;> simp

theorem judgeWarn_present : ((judgeWarn s).faults.record .heatWarn).present =
    if s.heat.warns = s.heat.warn then (s.faults.record .heatWarn).present else s.heat.warns := by
  rw [judgeWarn_eq]
  dsimp only
  split
  · rfl
  · split
    · next h => rw [h]; exact tellPresent_present _ _ _
    · next h => rw [Bool.not_eq_true] at h; rw [h]; exact (tellGone_outcome _ _).2
@[simp] theorem judgeWarn_lamp : (judgeWarn s).lamp = s.lamp := by
  rw [judgeWarn_eq]
  dsimp only
  split
  · rfl
  · split <;> simp
end

end Sys2Proof.Machine

namespace Sys2Proof.Machine

/-! ### Stage 5: the power state

At most one change of the power state occurs in a period: a trip, the end of the after-run, or a retry. -/

/-- R89: the trip. -/
abbrev Heat.trips (h : Heat) : Prop := h.set.tripAt ≤ h.effective ∧ h.state ≠ .tripped

/-- R90: the recovery seconds after a period in TRIPPED. -/
def Heat.recovery (h : Heat) : Nat := if h.effective < h.set.tripAt - 150 then min 65535 (h.recoverySeconds + 1) else 0

/-- R90: the trip is retried, in a mode of HEAT_TRIP. -/
abbrev Heat.retries (m : FaultMode) (h : Heat) : Prop :=
  h.state = .tripped ∧ ((m = .retrySlow ∧ 30 ≤ h.recovery) ∨ (m = .retryFast ∧ 5 ≤ h.recovery))

/-- R97: the after-run ends with this period. -/
abbrev Heat.runOut (h : Heat) : Prop := h.set.afterRun ≤ min 65535 (h.afterSeconds + 1) ∧ h.effective ≤ 450

/-- R89, R90, R97: the power state after stage 5. -/
def Heat.nextState (m : FaultMode) (h : Heat) : PowerState :=
  if h.trips then .tripped
  else if h.state = .cooldown then (if h.runOut then .standby else .cooldown)
  else if h.retries m then (if h.request then .warming else .cooldown)
  else h.state

/-- R89, R90: the trip condition after stage 5. -/
def Heat.tripAfter (h : Heat) : Bool :=
  if h.trips then true
  else if h.state = .tripped then
    (if h.effective < h.set.tripAt - 150 then false else if h.set.tripAt ≤ h.effective then true else h.trip)
  else h.trip

/-- The heat unit in the power state `new`, entered if it is another one. -/
def Heat.moved (new : PowerState) (h : Heat) : Heat :=
  { h with
    state := new
    rise := if new = h.state then h.rise else (h.entering new).rise
    riseTimer := if new = h.state then h.riseTimer else (h.entering new).riseTimer
    powerLimit := if new = h.state then h.powerLimit else (h.entering new).powerLimit
    fan := if new = h.state then h.fan else (h.entering new).fan
    fanDuty := if new = h.state then h.fanDuty else (h.entering new).fanDuty }

theorem Heat.moved_self (h : Heat) : h.moved h.state = h := by simp [Heat.moved]

theorem Heat.moved_of_ne {new : PowerState} {h : Heat} (hne : new ≠ h.state) : h.moved new = h.entering new := by
  simp only [Heat.moved, if_neg hne]
  rfl

/-- R89, R90, R97: the heat unit after stage 5, in a mode of HEAT_TRIP. -/
def Heat.judged (m : FaultMode) (h : Heat) : Heat :=
  { h with
    afterSeconds := if h.trips then h.afterSeconds else if h.state = .cooldown then min 65535 (h.afterSeconds + 1)
      else if h.retries m ∧ h.request = false then 0 else h.afterSeconds
    recoverySeconds := if h.trips then 0 else if h.state = .tripped then h.recovery else h.recoverySeconds
    trip := h.tripAfter : Heat }.moved (h.nextState m)

/-- What stage 5 makes of the state. -/
structure Judged (s t : State) : Prop where
  works : Works [.lampShort, .heatTrip] s t
  heat : t.heat = s.heat.judged (s.faults.record .heatTrip).mode
  pubPower : t.lamp.pubPower = if t.heat.state = s.heat.state then s.lamp.pubPower else 0
  tripped : s.heat.trips → t.lamp.duty = 0 ∧ (t.faults.record .heatTrip).present = true
  retried : s.heat.retries (s.faults.record .heatTrip).mode → (t.faults.record .heatTrip).latched = false
  recovered : s.heat.state = .tripped → s.heat.effective < s.heat.set.tripAt - 150 → s.heat.trip = true →
    (t.faults.record .heatTrip).present = false

section
variable (s : State)

theorem checkShort_pubPower : (checkShort s).lamp.pubPower = s.lamp.pubPower := by
  unfold checkShort
  split <;> simp

theorem dutyAtOnce_pubPower : (dutyAtOnce s).lamp.pubPower = s.lamp.pubPower := by
  unfold dutyAtOnce checkLampCurrent
  rw [checkOpen_frame]
  exact checkShort_pubPower _

theorem enterPower_pubPower (new : PowerState) : (enterPower new s).lamp.pubPower = entryLimit new := by
  rw [enterPower_eq, dutyAtOnce_pubPower]
  rfl

theorem Works.enterCooldown : Works [.lampShort] s (enterCooldown s) :=
  ((Works.onHeat _ s).trans (.enterPower _ _)).trans (.report _ _ _)

/-! #### The recovery -/

/-- R90: the recovery seconds and the trip condition after a period in TRIPPED. -/
def recoverTrip (s : State) : State :=
  let u := s.onHeat fun h => { h with recoverySeconds := h.recovery, trip := h.tripAfter }
  if s.heat.effective < s.heat.set.tripAt - 150 then (if s.heat.trip then tellGone .heatTrip u else u)
  else if s.heat.set.tripAt ≤ s.heat.effective ∧ s.heat.trip = false then
    (tellTrip u).report .heat [fw "TRIP", fi s.heat.effective]
  else u

theorem recoverTrip_works : Works [.heatTrip] s (recoverTrip s) := by
  have turn (f : Heat → Heat) : Works [] s (s.onHeat f) := .onHeat f s
  unfold recoverTrip
  dsimp only
  split
  · split
    · exact (turn _).trans (.tellGone _ _)
    · exact (turn _).mono (by simp)
  · split
    · exact ((turn _).trans (.tellPresent _ _ _)).trans (.report _ _ _)
    · exact (turn _).mono (by simp)

@[simp] theorem recoverTrip_heat :
    (recoverTrip s).heat = { s.heat with recoverySeconds := s.heat.recovery, trip := s.heat.tripAfter } := by
  unfold recoverTrip
  dsimp only
  split
  · split <;> simp
  · split <;> simp [tellTrip]

@[simp] theorem recoverTrip_lamp : (recoverTrip s).lamp = s.lamp := by
  unfold recoverTrip
  dsimp only
  split
  · split <;> simp
  · split <;> simp [tellTrip]

theorem recoverTrip_absent (he : s.heat.effective < s.heat.set.tripAt - 150) (ht : s.heat.trip = true) :
    ((recoverTrip s).faults.record .heatTrip).present = false := by
  unfold recoverTrip
  rw [if_pos he, if_pos ht]
  exact (tellGone_outcome _ _).2

/-- R90: the retry of a mode waits for its seconds. -/
theorem retrySeconds_reached {α : Type} (m : FaultMode) (k : Nat) (a b : α) :
    (match retrySeconds m with | some n => if n ≤ k then a else b | none => b) =
      if (m = .retrySlow ∧ 30 ≤ k) ∨ (m = .retryFast ∧ 5 ≤ k) then a else b := by
  cases m <;> simp [retrySeconds]

theorem Heat.tripAfter_of_tripped {h : Heat} (hs : h.state = .tripped) : h.tripAfter =
    if h.effective < h.set.tripAt - 150 then false else if h.set.tripAt ≤ h.effective then true else h.trip := by
  rw [Heat.tripAfter, if_neg (fun ht => ht.2 hs), if_pos hs]

/-- R90: stage 5 in TRIPPED. -/
theorem judgeRecovery_tripped (h : s.heat.state = .tripped) : judgeRecovery s =
    if s.heat.retries (s.faults.record .heatTrip).mode then retryTrip (recoverTrip s) else recoverTrip s := by
  have hrec : recoverTrip s =
      if s.heat.effective < s.heat.set.tripAt - 150 then
        let u := s.onHeat fun h => { h with recoverySeconds := satInc Config.max16 h.recoverySeconds }
        if s.heat.trip then tellGone .heatTrip (u.onHeat fun h => { h with trip := false }) else u
      else
        let u := s.onHeat fun h => { h with recoverySeconds := 0 }
        if s.heat.set.tripAt ≤ s.heat.effective ∧ s.heat.trip = false then
          (tellTrip (u.onHeat fun h => { h with trip := true })).report .heat [fw "TRIP", fi s.heat.effective]
        else u := by
    unfold recoverTrip
    by_cases he : s.heat.effective < s.heat.set.tripAt - 150
    · cases ht : s.heat.trip <;>
        simp [State.onHeat, Heat.recovery, Heat.tripAfter_of_tripped h, he, ht, satInc, Config.max16]
    · by_cases hr : s.heat.set.tripAt ≤ s.heat.effective
      · cases ht : s.heat.trip <;> simp [State.onHeat, Heat.recovery, Heat.tripAfter_of_tripped h, he, hr, ht]
      · simp [State.onHeat, Heat.recovery, Heat.tripAfter_of_tripped h, he, hr]
  have hcond : judgeRecovery s =
      (match retrySeconds ((recoverTrip s).faults.record .heatTrip).mode with
        | some n => if n ≤ (recoverTrip s).heat.recoverySeconds then retryTrip (recoverTrip s) else recoverTrip s
        | none => recoverTrip s) := by
    rw [hrec]
    unfold judgeRecovery
    exact if_neg (by simp [h])
  rw [hcond, retrySeconds_reached, recoverTrip_heat, (recoverTrip_works s).mode]
  exact if_congr (by simp [h]) rfl rfl

/-! #### The trip -/

theorem judgeTrip_heat (h : s.heat.trips) :
    (judgeTrip s).heat = { s.heat.entering .tripped with recoverySeconds := 0, trip := true } := by
  unfold judgeTrip
  rw [if_pos h]
  simp [tellTrip, reportPower]

/-- R89: a trip ends stage 5: neither the after-run nor the recovery finds anything to do. -/
theorem judgeRecovery_of_trips (h : s.heat.trips) : judgeRecovery (judgeAfterRun (judgeTrip s)) = judgeTrip s := by
  have hheat := judgeTrip_heat s h
  generalize judgeTrip s = t at hheat
  have hstate : t.heat.state = .tripped := by rw [hheat]; rfl
  have htrip : t.heat.trip = true := by rw [hheat]
  have hseconds : t.heat.recoverySeconds = 0 := by rw [hheat]
  have hhot : t.heat.set.tripAt ≤ t.heat.effective := by rw [hheat]; exact h.1
  have hnot : ¬ t.heat.effective < t.heat.set.tripAt - 150 := by omega
  have hrecovery : t.heat.recovery = 0 := if_neg hnot
  have hquiet : recoverTrip t = t := by
    have hsame : ({ t.heat with recoverySeconds := t.heat.recovery, trip := t.heat.tripAfter } : Heat) = t.heat := by
      rw [hrecovery, ← hseconds, Heat.tripAfter_of_tripped hstate, if_neg hnot, if_pos hhot, ← htrip]
    rw [recoverTrip, if_neg hnot, if_neg (by simp [htrip]), State.onHeat, hsame]
  have hafter : judgeAfterRun t = t := if_neg (by simp [hstate])
  rw [hafter, judgeRecovery_tripped t hstate, if_neg (fun hr => ?_), hquiet]
  rcases hr.2 with hr | hr <;> simp [hrecovery] at hr

theorem judgeTrip_of_not (h : ¬ s.heat.trips) : judgeTrip s = s := if_neg h

theorem judged_of_trips (h : s.heat.trips) : Judged s (judgeTrip s) := by
  have hn : s.heat.nextState (s.faults.record .heatTrip).mode = .tripped := if_pos h
  have hheat := judgeTrip_heat s h
  refine ⟨?_, ?_, ?_, fun _ => ⟨?_, ?_⟩, fun hr => absurd hr.1 h.2, fun hs => absurd hs h.2⟩
  · unfold judgeTrip
    rw [if_pos h]
    exact ((((Works.enterPower _ s).trans (.onHeat _ _)).trans (.report _ _ _)).trans (.report _ _ _)).trans
      (.tellPresent _ _ _)
  · rw [hheat, Heat.judged, hn, Heat.moved_of_ne (by exact h.2.symm), Heat.tripAfter]
    simp only [if_pos h]
    rfl
  · rw [hheat, if_neg (by exact h.2.symm)]
    unfold judgeTrip
    rw [if_pos h]
    simp [tellTrip, reportPower, enterPower_pubPower, entryLimit]
  · unfold judgeTrip
    rw [if_pos h]
    simp [tellTrip, reportPower, enterPower_dark]
  · unfold judgeTrip
    rw [if_pos h]
    exact tellPresent_present _ _ _

/-! #### The after-run -/

/-- R97: stage 5 in COOLDOWN. -/
theorem judged_of_cooldown (hn : ¬ s.heat.trips) (h : s.heat.state = .cooldown) : Judged s (judgeAfterRun s) := by
  have turn := Works.onHeat (fun h => { h with afterSeconds := min 65535 (h.afterSeconds + 1) }) s
  have hretry (m : FaultMode) : ¬ s.heat.retries m := fun hr => by simp [hr.1] at h
  have hafter : s.heat.tripAfter = s.heat.trip := by rw [Heat.tripAfter, if_neg hn, if_neg (by simp [h])]
  have hstate (m : FaultMode) : s.heat.nextState m = if s.heat.runOut then .standby else .cooldown := by
    rw [Heat.nextState, if_neg hn, if_pos h]
  have hjudged (m : FaultMode) : s.heat.judged m =
      ({ s.heat with afterSeconds := min 65535 (s.heat.afterSeconds + 1) } : Heat).moved (s.heat.nextState m) := by
    rw [Heat.judged, hafter, if_neg hn, if_pos h, if_neg hn, if_neg (by simp [h])]
  have heq : judgeAfterRun s =
      let u := s.onHeat fun h => { h with afterSeconds := min 65535 (h.afterSeconds + 1) }
      if s.heat.runOut then reportPower (enterPower .standby u) else u := by
    unfold judgeAfterRun
    rw [if_pos h]
    rfl
  rw [heq]
  dsimp only
  by_cases hr : s.heat.runOut
  · rw [if_pos hr]
    refine ⟨?_, ?_, ?_, fun ht => absurd ht hn, fun ht => absurd ht (hretry _), fun ht => by simp [h] at ht⟩
    · exact ((turn.trans (.enterPower _ _)).trans (.report _ _ _)).mono (by simp)
    · rw [hjudged, hstate, if_pos hr, Heat.moved_of_ne (by simp [h])]
      simp [reportPower]
    · simp [reportPower, enterPower_pubPower, entryLimit, Heat.entering, h]
  · rw [if_neg hr]
    refine ⟨turn.mono (by simp), ?_, ?_, fun ht => absurd ht hn, fun ht => absurd ht (hretry _), fun ht => by simp [h] at ht⟩
    · rw [hjudged, hstate, if_neg hr, ← h]
      exact (Heat.moved_self _).symm
    · simp

/-! #### The retry -/

theorem tellTripRetried_present :
    ((tellTripRetried s).faults.record .heatTrip).present = (s.faults.record .heatTrip).present := by
  unfold tellTripRetried
  split
  · rw [evaluateFaultLine_record, releaseLatch_record_self]
  · rfl

/-- R90: what a retry leads to. -/
theorem retryTrip_works : Works [.lampShort, .heatTrip] s (retryTrip s) := by
  unfold retryTrip
  dsimp only
  split
  · exact ((Works.enterPower _ s).trans (.report _ _ _)).trans (.tellTripRetried _)
  · exact (Works.enterCooldown s).trans (.tellTripRetried _)

theorem retryTrip_heat : (retryTrip s).heat =
    if s.heat.request then s.heat.entering .warming else ({ s.heat with afterSeconds := 0 } : Heat).entering .cooldown := by
  unfold retryTrip enterCooldown reportPower
  dsimp only
  split <;> simp

theorem retryTrip_pubPower : (retryTrip s).lamp.pubPower = 0 := by
  unfold retryTrip enterCooldown reportPower
  dsimp only
  split <;> simp [enterPower_pubPower, entryLimit]

theorem retryTrip_latched : ((retryTrip s).faults.record .heatTrip).latched = false := tellTripRetried_latched _

theorem retryTrip_present : ((retryTrip s).faults.record .heatTrip).present = (s.faults.record .heatTrip).present := by
  unfold retryTrip
  rw [tellTripRetried_present]
  split
  · rw [reportPower, State.report_faults, (Works.enterPower _ _).record _ (by simp)]
  · rw [(Works.enterCooldown _).record _ (by simp)]

section
variable {m : FaultMode} {h : Heat} (hs : h.state = .tripped)
include hs

theorem Heat.nextState_of_tripped : h.nextState m =
    if h.retries m then (if h.request then .warming else .cooldown) else h.state := by
  rw [Heat.nextState, if_neg (fun ht => ht.2 hs), if_neg (by simp [hs])]

theorem Heat.judged_of_tripped : h.judged m =
    ({ h with
      afterSeconds := if h.retries m ∧ h.request = false then 0 else h.afterSeconds
      recoverySeconds := h.recovery, trip := h.tripAfter } : Heat).moved (h.nextState m) := by
  have hn : ¬ h.trips := fun ht => ht.2 hs
  rw [Heat.judged, if_neg hn, if_neg (by simp [hs]), if_neg hn, if_pos hs]

/-- R90: the heat unit after a retry. -/
theorem Heat.judged_of_retries (hr : h.retries m) : h.judged m =
    let u : Heat := { h with recoverySeconds := h.recovery, trip := h.tripAfter }
    if h.request then u.entering .warming else ({ u with afterSeconds := 0 } : Heat).entering .cooldown := by
  rw [Heat.judged_of_tripped hs, Heat.nextState_of_tripped hs, if_pos hr]
  by_cases hq : h.request = true
  · have hlit : ¬ (h.retries m ∧ h.request = false) := fun h0 => by simp [hq] at h0
    simp only [if_pos hq, if_neg hlit]
    exact Heat.moved_of_ne (by simp [hs])
  · have hdark : h.retries m ∧ h.request = false := ⟨hr, by simpa using hq⟩
    simp only [if_neg hq, if_pos hdark]
    exact Heat.moved_of_ne (by simp [hs])

/-- R90: the heat unit that waits for a retry. -/
theorem Heat.judged_of_waits (hr : ¬ h.retries m) : h.judged m =
    { h with recoverySeconds := h.recovery, trip := h.tripAfter } := by
  rw [Heat.judged_of_tripped hs, Heat.nextState_of_tripped hs, if_neg hr, if_neg (fun hn => hr hn.1)]
  exact Heat.moved_self _
end

/-- R90: stage 5 in TRIPPED. -/
theorem judged_of_tripped (h : s.heat.state = .tripped) : Judged s (judgeRecovery s) := by
  have hn : ¬ s.heat.trips := fun ht => ht.2 h
  rw [judgeRecovery_tripped s h]
  by_cases hr : s.heat.retries (s.faults.record .heatTrip).mode
  · rw [if_pos hr]
    have hheat := retryTrip_heat (recoverTrip s)
    have hmoved : (retryTrip (recoverTrip s)).heat.state ≠ s.heat.state := by
      rw [hheat, h]
      split <;> simp [Heat.entering]
    refine ⟨?_, ?_, ?_, fun ht => absurd ht hn, fun _ => retryTrip_latched _, fun _ he ht => ?_⟩
    · exact ((recoverTrip_works s).trans (retryTrip_works _)).mono (by simp)
    · rw [hheat, recoverTrip_heat, Heat.judged_of_retries h hr]
    · rw [retryTrip_pubPower, if_neg hmoved]
    · rw [retryTrip_present]
      exact recoverTrip_absent s he ht
  · rw [if_neg hr]
    refine ⟨(recoverTrip_works s).mono (by simp), ?_, by simp, fun ht => absurd ht hn, fun ht => absurd ht hr,
      fun _ he ht => recoverTrip_absent s he ht⟩
    rw [recoverTrip_heat, Heat.judged_of_waits h hr]

/-- R92: in the other states stage 5 has nothing to do. -/
theorem Heat.judged_of_lit {m : FaultMode} {h : Heat} (hn : ¬ h.trips) (hc : h.state ≠ .cooldown) (hs : h.state ≠ .tripped) :
    h.judged m = h := by
  have hr : ¬ h.retries m := fun hr => hs hr.1
  rw [Heat.judged, Heat.nextState, Heat.tripAfter, if_neg hn, if_neg hn, if_neg hn, if_neg hn, if_neg hc, if_neg hc, if_neg hs,
    if_neg hs, if_neg hr, if_neg (fun h => hr h.1)]
  exact Heat.moved_self h

/-- R89, R90, R97: stage 5. -/
theorem judged_power : Judged s (judgeRecovery (judgeAfterRun (judgeTrip s))) := by
  by_cases ht : s.heat.trips
  · rw [judgeRecovery_of_trips s ht]
    exact judged_of_trips s ht
  · rw [judgeTrip_of_not s ht]
    by_cases hc : s.heat.state = .cooldown
    · have hj := judged_of_cooldown s ht hc
      have hstate : (judgeAfterRun s).heat.state ≠ .tripped := by
        rw [hj.heat]
        show s.heat.nextState _ ≠ .tripped
        rw [Heat.nextState, if_neg ht, if_pos hc]
        split <;> simp
      rwa [judgeRecovery, if_pos hstate]
    · rw [judgeAfterRun, if_neg hc]
      by_cases hs : s.heat.state = .tripped
      · exact judged_of_tripped s hs
      · rw [judgeRecovery, if_pos hs]
        exact ⟨(Works.refl s).mono (by simp), (Heat.judged_of_lit ht hc hs).symm, by simp, fun h => absurd h ht,
          fun hr => absurd hr.1 hs, fun h => absurd h hs⟩
end

end Sys2Proof.Machine

namespace Sys2Proof.Machine

/-! ### Stages 1 to 4, and the warning -/

/-- R80, R81, R82, R85: the heat unit after stage 4 of a period that reads `r` and samples the duty `d`. -/
def Heat.sampled (r : Int) (d : Nat) (h : Heat) : Heat :=
  { h.tached with
    periodTimer := 0, sensor := r, sensorValid := validReading r, estimate := nextEstimate h.tached d
    effective := effectiveOf (nextEstimate h.tached d) r (validReading r) }

/-- R88: the heat unit after the warning. -/
def Heat.observed (r : Int) (d : Nat) (h : Heat) : Heat := { h.sampled r d with warn := (h.sampled r d).warns }

/-- R79: stages 1 to 4, and the warning of stage 5. -/
def observe (r : Int) (s : State) : State :=
  judgeWarn (updateEstimate (sampleSensor r (judgeTach (s.onHeat fun h => { h with periodTimer := 0 }))))

section
variable (r : Int) (s : State)

theorem Works.updateEstimate : Works [] s (updateEstimate s) := .onHeat _ s

theorem updateEstimate_heat : (updateEstimate s).heat =
    { s.heat with
      estimate := nextEstimate s.heat s.lamp.duty
      effective := effectiveOf (nextEstimate s.heat s.lamp.duty) s.heat.sensor s.heat.sensorValid } := rfl

theorem observe_works : Works [.fanStall, .sensorBad, .heatWarn] (s.onPins fun p => { p with housing := r }) (observe r s) := by
  have tach := ((Works.onHeat (fun h => { h with periodTimer := 0 }) s).trans (judgeTach_works _)).onPins
    fun p => { p with housing := r }
  exact ((tach.trans (sampleSensor_works _ r)).trans (Works.updateEstimate _)).trans (judgeWarn_works _)

theorem observe_lamp : (observe r s).lamp = s.lamp := by
  rw [observe, judgeWarn_lamp]
  show (sampleSensor r _).lamp = _
  rw [sampleSensor_lamp, judgeTach_lamp]
  rfl

theorem observe_heat : (observe r s).heat = s.heat.observed r s.lamp.duty := by
  rw [observe, judgeWarn_heat, updateEstimate_heat, sampleSensor_lamp, judgeTach_lamp, sampleSensor_heat, judgeTach_heat]
  rfl

theorem observe_stall : ((observe r s).faults.record .fanStall).present =
    if s.heat.stalls then true else if s.heat.revives then false else (s.faults.record .fanStall).present := by
  rw [observe, (judgeWarn_works _).record _ (by simp)]
  show ((sampleSensor r _).faults.record .fanStall).present = _
  rw [(sampleSensor_works _ r).record _ (by simp)]
  exact judgeTach_present _

theorem observe_warn : ((observe r s).faults.record .heatWarn).present =
    if (s.heat.observed r s.lamp.duty).warn = s.heat.warn then (s.faults.record .heatWarn).present
    else (s.heat.observed r s.lamp.duty).warn := by
  have hheat : (updateEstimate (sampleSensor r (judgeTach (s.onHeat fun h => { h with periodTimer := 0 })))).heat =
      s.heat.sampled r s.lamp.duty := by
    rw [updateEstimate_heat, sampleSensor_lamp, judgeTach_lamp, sampleSensor_heat, judgeTach_heat]
    rfl
  have hrecord : (updateEstimate (sampleSensor r (judgeTach (s.onHeat fun h => { h with periodTimer := 0 })))).faults.record
      .heatWarn = s.faults.record .heatWarn := by
    show (sampleSensor r _).faults.record .heatWarn = _
    rw [(sampleSensor_works _ r).record _ (by simp)]
    exact (judgeTach_works _).record _ (by simp)
  rw [observe, judgeWarn_present, hheat, hrecord]
  rfl

/-! ### Stage 6, and the caps -/

/-- R83: the heat unit after stage 6. -/
def Heat.fanned (h : Heat) : Heat :=
  { h with
    fan := fanStepOf h, fanDuty := if fanStepOf h = h.fan then h.fanDuty else fanDutyOf h.set (fanStepOf h)
    firstPeriod := false }

/-- R86, R87: the caps, in a mode of FAN_STALL. -/
def Heat.capped (m : FaultMode) (h : Heat) : Heat :=
  { h with
    thermCap := thermCapOf h.set.warnAt h.set.tripAt h.effective
    stallCap := if h.stall ∧ m = .retry then 500 else 1000 }

/-- R79: the heat unit after a period that reads `r` and samples the duty `d`, in the modes of HEAT_TRIP and FAN_STALL. -/
def Heat.period (r : Int) (d : Nat) (trip stall : FaultMode) (h : Heat) : Heat :=
  (((h.observed r d).judged trip).fanned).capped stall

theorem Works.updateFan : Works [] s (updateFan s) := by
  refine ⟨⟨[], by simp, ?_⟩, ?_, fun k => ?_, fun k _ => ?_⟩ <;> simp [Machine.updateFan, setFan_eq, State.onHeat]

theorem updateFan_heat : (updateFan s).heat = s.heat.fanned := by
  rw [updateFan, setFan_eq]
  rfl

theorem updateFan_lamp : (updateFan s).lamp = s.lamp := by
  rw [updateFan, setFan_eq]
  rfl

theorem Works.publishCaps : Works [] s (publishCaps s) := by
  unfold Machine.publishCaps
  dsimp only
  refine (Works.onHeat _ s).trans (.onLamp ?_ ?_ _)
  · exact fun _ => rfl
  · exact fun _ => le_rfl

theorem publishCaps_heat : (publishCaps s).heat = s.heat.capped (s.faults.record .fanStall).mode := rfl

theorem runPeriod_eq :
    runPeriod r s = publishCaps (updateFan (judgeRecovery (judgeAfterRun (judgeTrip (observe r s))))) := rfl

/-- What a thermal period makes of the state, before its tellings are received. -/
structure RunsPeriod (r : Int) (s t : State) : Prop where
  works : Works [.fanStall, .sensorBad, .heatWarn, .lampShort, .heatTrip] (s.onPins fun p => { p with housing := r }) t
  heat : t.heat = s.heat.period r s.lamp.duty (s.faults.record .heatTrip).mode (s.faults.record .fanStall).mode
  pubTherm : t.lamp.pubTherm = t.heat.thermCap
  pubStall : t.lamp.pubStall = t.heat.stallCap
  pubPower : t.lamp.pubPower = if t.heat.state = s.heat.state then s.lamp.pubPower else 0
  stalled : (t.faults.record .fanStall).present =
    if s.heat.stalls then true else if s.heat.revives then false else (s.faults.record .fanStall).present
  warned : (t.faults.record .heatWarn).present =
    if t.heat.warn = s.heat.warn then (s.faults.record .heatWarn).present else t.heat.warn
  tripped : (s.heat.observed r s.lamp.duty).trips → t.lamp.duty = 0 ∧ (t.faults.record .heatTrip).present = true
  retried : (s.heat.observed r s.lamp.duty).retries (s.faults.record .heatTrip).mode →
    (t.faults.record .heatTrip).latched = false
  recovered : s.heat.state = .tripped → (s.heat.observed r s.lamp.duty).effective < s.heat.set.tripAt - 150 →
    s.heat.trip = true → (t.faults.record .heatTrip).present = false

theorem runsPeriod : RunsPeriod r s (runPeriod r s) := by
  have ho := observe_works r s
  have hh := observe_heat r s
  have hj := judged_power (observe r s)
  generalize hp : judgeRecovery (judgeAfterRun (judgeTrip (observe r s))) = p at hj
  have hlast : Works [] p (publishCaps (updateFan p)) := (Works.updateFan p).trans (.publishCaps _)
  have hheat : p.heat = (s.heat.observed r s.lamp.duty).judged (s.faults.record .heatTrip).mode := by
    rw [hj.heat, hh, ho.mode]
    rfl
  have hfinal : (publishCaps (updateFan p)).heat = p.heat.fanned.capped (s.faults.record .fanStall).mode := by
    rw [publishCaps_heat, updateFan_heat, (Works.updateFan p).mode, hj.works.mode, ho.mode]
    rfl
  have hrecord (k : FaultKind) (hk : k ∉ [FaultKind.lampShort, .heatTrip]) :
      (publishCaps (updateFan p)).faults.record k = (observe r s).faults.record k := by
    rw [hlast.record k (by simp), hj.works.record k hk]
  have htrip : (publishCaps (updateFan p)).faults.record .heatTrip = p.faults.record .heatTrip := hlast.record _ (by simp)
  rw [runPeriod_eq, hp]
  refine ⟨(ho.trans (hj.works.trans hlast)).mono (by simp), ?_, rfl, rfl, ?_, ?_, ?_, fun ht => ⟨?_, ?_⟩, fun ht => ?_,
    fun hs he ht => ?_⟩
  · rw [hfinal, hheat, Heat.period]
  · show (updateFan p).lamp.pubPower = _
    rw [updateFan_lamp, hj.pubPower, observe_lamp, hfinal, hh]
    rfl
  · rw [hrecord _ (by simp), observe_stall]
  · rw [hrecord _ (by simp), observe_warn, hfinal, hheat]
    rfl
  · show (updateFan p).lamp.duty = 0
    rw [updateFan_lamp]
    exact (hj.tripped (by rwa [hh])).1
  · rw [htrip]
    exact (hj.tripped (by rwa [hh])).2
  · rw [htrip]
    exact hj.retried (by rw [hh, ho.mode]; exact ht)
  · rw [htrip]
    exact hj.recovered (by rw [hh]; exact hs) (by rw [hh]; exact he) (by rw [hh]; exact ht)
end

end Sys2Proof.Machine

namespace Sys2Proof.Machine

/-! ## The period and what it tells -/

/-- Since `p` the heat and power unit, what it published and told of, the pins and the keys are as they were, the duty of the
lamp has not risen, and no telling of CLEAR waits. -/
structure Calm (p t : State) : Prop where
  heat : t.heat = p.heat
  pins : t.pins = p.pins
  keys : t.keys = p.keys
  lamp : p.lamp.Dims t.lamp
  record : ∀ k, isThermal k = true → t.faults.record k = p.faults.record k
  quiet : ∀ sig ∈ t.signals, isClear sig = false

theorem Lamp.Dims.trans {a b c : Lamp} (h : a.Dims b) (h' : b.Dims c) : a.Dims c :=
  ⟨h'.1.trans h.1, h'.2.1.trans h.2.1, h'.2.2.1.trans h.2.2.1, h'.2.2.2.trans h.2.2.2⟩

theorem Signal.OfCause.not_clear {sig : Signal} (h : sig.OfCause) : isClear sig = false := by
  rcases h with ⟨k, byItself, rfl⟩ | ⟨k, rfl⟩ <;> rfl

theorem Works.setLatch (k : FaultKind) (s : State) : Works [k] s (setLatch k s) := by
  cases hl : (s.faults.record k).latched
  · refine .of_tells (setLatch_tells hl) (fun sig hsig => ?_) (by rw [setLatch_record_self]) fun o ho => setLatch_record ho s
    unfold latchTelling at hsig
    split at hsig
    · exact .inl ⟨_, _, List.mem_singleton.1 hsig⟩
    · simp at hsig
  · rw [setLatch_of_latched hl]
    exact (Works.refl s).mono (by simp)

section
variable {p s t : State}

theorem Calm.works (h : Calm p s) {k : FaultKind} (hw : Works [k] s t) (hheat : t.heat = s.heat) (hlamp : t.lamp = s.lamp)
    (hk : isThermal k = false) : Calm p t := by
  obtain ⟨sigs, hs, ht⟩ := hw.frame
  have hrecord (o : FaultKind) (ho : isThermal o = true) : t.faults.record o = s.faults.record o :=
    hw.record o fun hm => by rw [List.mem_singleton.1 hm, hk] at ho; simp at ho
  refine ⟨hheat.trans h.heat, ?_, ?_, by rw [hlamp]; exact h.lamp, fun o ho => (hrecord o ho).trans (h.record o ho),
    fun sig hsig => ?_⟩
  · rw [ht]
    exact h.pins
  · rw [ht]
    exact h.keys
  · rw [ht, List.mem_append] at hsig
    exact hsig.elim (h.quiet sig) fun hm => (hs sig hm).not_clear

/-- What the tellings of a period lead to leaves the heat and power unit alone, in a show too. -/
theorem steady_calm (p : State) : Steady (Calm p) where
  line h f := ⟨h.heat, h.pins, h.keys, h.lamp, h.record, h.quiet⟩
  changer h f := ⟨h.heat, h.pins, h.keys, h.lamp, h.record, h.quiet⟩
  tape h f := ⟨h.heat, h.pins, h.keys, h.lamp, h.record, h.quiet⟩
  engine h f := ⟨h.heat, h.pins, h.keys, h.lamp, h.record, h.quiet⟩
  triggers h f := ⟨h.heat, h.pins, h.keys, h.lamp, h.record, h.quiet⟩
  lamp h f hf := ⟨h.heat, h.pins, h.keys, h.lamp.trans hf, h.record, h.quiet⟩
  cue h f hf := ⟨h.heat, h.pins, h.keys, h.lamp, h.record, h.quiet⟩
  logged h y d := ⟨h.heat, h.pins, h.keys, h.lamp, h.record, h.quiet⟩
  emit h sig hsig := ⟨h.heat, h.pins, h.keys, h.lamp, h.record, fun sig' hm =>
    (List.mem_append.1 hm).elim (h.quiet sig') fun he => by rwa [List.mem_singleton.1 he]⟩
  present h k detail hk := h.works (.tellPresent k detail _) (tellPresent_heat _ _ _) (tellPresent_lamp _ _ _) hk
  gone h k hk := h.works (.tellGone k _) (tellGone_heat _ _) (tellGone_lamp _ _) hk
  latch h k hk := h.works (.setLatch k _) (by rw [tellLatch, setLatch_frame]) (by rw [tellLatch, setLatch_frame]) hk

theorem drainAll_calm (n : Nat) (h : Calm p s) : Calm p (drainAll n s) := by
  induction n generalizing s with
  | zero => exact h
  | succ n ih =>
    rw [drainAll]
    split
    · exact h
    next sig rest hsig =>
      have hq := h.quiet
      rw [hsig] at hq
      have hr := receive_steady (steady_calm p) (s := { s with signals := [] })
        ⟨h.heat, h.pins, h.keys, h.lamp, h.record, by simp⟩ sig (hq sig (by simp))
      exact ih ⟨hr.heat, hr.pins, hr.keys, hr.lamp, hr.record, fun sig' hm =>
        (List.mem_append.1 hm).elim (hr.quiet sig') fun hm => hq sig' (List.mem_cons_of_mem _ hm)⟩

theorem drain_calm (h : ∀ sig ∈ s.signals, sig.OfCause) : Calm s (drain s) := by
  have hc := drainAll_calm 1000 (p := s) (s := s)
    ⟨rfl, rfl, rfl, ⟨rfl, rfl, rfl, le_rfl⟩, fun _ _ => rfl, fun sig hsig => (h sig hsig).not_clear⟩
  exact ⟨hc.heat, hc.pins, hc.keys, hc.lamp, hc.record, by simp [drain]⟩

/-- R178: outside a show, a telling of a cause changes the set of causes alone. -/
theorem receive_ofCause {sig : Signal} (h : sig.OfCause) (hr : s.engine.state ≠ .running) (hh : s.engine.state ≠ .held) :
    ∃ cs, receive sig s = s.onEngine fun e => { e with causes := cs } := by
  rcases h with ⟨k, byItself, rfl⟩ | ⟨k, rfl⟩
  · cases hk : causeOf k with
    | none => exact ⟨s.engine.causes, by simp [receive, causeEnters, hk, State.onEngine]⟩
    | some c => exact ⟨_, causeEnters_outside_show byItself hk hr hh⟩
  · cases hk : causeOf k with
    | none => exact ⟨s.engine.causes, by simp [receive, causeLeaves, hk, State.onEngine]⟩
    | some c =>
      refine ⟨inOrder (s.engine.causes.filter (· ≠ c)), ?_⟩
      show causeLeaves k s = _
      rw [causeLeaves, hk]
      exact setCauses_outside_show _ hr hh

theorem drainAll_ofCause (n : Nat) (hs : ∀ sig ∈ s.signals, sig.OfCause) (hr : s.engine.state ≠ .running)
    (hh : s.engine.state ≠ .held) :
    ∃ cs l, drainAll n s = { s with engine := { s.engine with causes := cs }, signals := l } := by
  induction n generalizing s with
  | zero => exact ⟨s.engine.causes, s.signals, rfl⟩
  | succ n ih =>
    rw [drainAll]
    split
    · exact ⟨s.engine.causes, s.signals, rfl⟩
    next sig rest hsig =>
      rw [hsig] at hs
      obtain ⟨cs, hcs⟩ := receive_ofCause (s := { s with signals := [] }) (hs sig (by simp)) hr hh
      dsimp only
      rw [hcs]
      obtain ⟨cs', l, hl⟩ := ih (s := { s with engine := { s.engine with causes := cs }, signals := [] ++ rest })
        (fun sig' hm => hs sig' (List.mem_cons_of_mem _ hm)) hr hh
      exact ⟨cs', l, hl⟩

/-- R178: outside a show, the tellings of causes change the set of causes alone. -/
theorem drain_ofCause (hs : ∀ sig ∈ s.signals, sig.OfCause) (hr : s.engine.state ≠ .running) (hh : s.engine.state ≠ .held) :
    drain s = { s with engine := { s.engine with causes := (drain s).engine.causes }, signals := [] } := by
  obtain ⟨cs, l, h⟩ := drainAll_ofCause 1000 hs hr hh
  rw [drain, h]
end

end Sys2Proof.Machine

namespace Sys2Proof.Machine

/-! ### The heat unit after a period -/

theorem Fin.val_max_five (a b : Fin 5) : (max a b).val = max a.val b.val := by
  revert a b
  decide

theorem stepBelow_val (k : Fin 5) : (stepBelow k).val = k.val - 1 := by
  revert k
  decide

theorem fanReached_val (set : HeatSettings) (e : Int) : (fanReached set e).val =
    if set.fanUp[3] ≤ e then 4 else if set.fanUp[2] ≤ e then 3 else if set.fanUp[1] ≤ e then 2
    else if set.fanUp[0] ≤ e then 1 else 0 := by
  simp only [fanReached, apply_ite Fin.val]
  rfl

/-- R84: the floor of a power state as a number. -/
theorem stateFloor_val (st : PowerState) : (stateFloor st).val =
    match st with
    | .standby => 0 | .warming | .on => 1 | .cooldown => 2 | .tripped => 4 := by
  cases st <;> rfl

/-- R83: the threshold of a step, the step as a number. -/
theorem fanThreshold_eq (set : HeatSettings) (k : Fin 5) : fanThreshold set k =
    match k.val with
    | 0 | 1 => set.fanUp[0] | 2 => set.fanUp[1] | 3 => set.fanUp[2] | _ => set.fanUp[3] := by
  match k with
  | 0 | 1 | 2 | 3 | 4 => rfl

/-- R83, R84: the step of stage 6 as a number. -/
theorem fanStepOf_val (h : Heat) : (fanStepOf h).val =
    max (max (if h.firstPeriod then (fanReached h.set h.effective).val
        else if h.fan.val < (fanReached h.set h.effective).val then (fanReached h.set h.effective).val
        else if h.fan.val ≠ 0 ∧ h.effective < fanThreshold h.set h.fan - 50 then h.fan.val - 1 else h.fan.val)
      (stateFloor h.state).val) (if (450 : Int) ≤ h.effective then 1 else 0) := by
  have hfloor : (fanFloor h.state h.effective).val = max (stateFloor h.state).val (if (450 : Int) ≤ h.effective then 1 else 0) := by
    rw [fanFloor, Fin.val_max_five, apply_ite Fin.val]
    rfl
  have hzero : h.fan ≠ 0 ↔ h.fan.val ≠ 0 := by rw [Ne, Fin.ext_iff]; rfl
  simp only [fanStepOf, Fin.val_max_five, hfloor, max_assoc, apply_ite Fin.val, stepBelow_val, hzero, Fin.lt_def]

/-- R84: a power state that is entered raises the fan to its floor. -/
theorem Heat.moved_fan_val (new : PowerState) (h : Heat) : (h.moved new).fan.val =
    if new = h.state then h.fan.val else max h.fan.val (stateFloor new).val := by
  simp only [Heat.moved, Heat.entering, apply_ite Fin.val, Fin.val_max_five]

/-- R84: the step with which stage 6 begins. -/
theorem Heat.judged_fan_val (m : FaultMode) (h : Heat) : (h.judged m).fan.val =
    if (h.judged m).state = h.state then h.fan.val else max h.fan.val (stateFloor (h.judged m).state).val :=
  Heat.moved_fan_val _ _

/-- R83: the fan is driven with the duty of its step. -/
abbrev Heat.driven (h : Heat) : Prop := h.fanDuty = fanDutyOf h.set h.fan

theorem Heat.entering_driven {h : Heat} (hd : h.driven) (new : PowerState) : (h.entering new).driven := by
  show (if _ then _ else _) = _
  split
  · next he => rw [hd]; exact congrArg _ he.symm
  · rfl

theorem Heat.moved_driven {h : Heat} (hd : h.driven) (new : PowerState) : (h.moved new).driven := by
  by_cases hn : new = h.state
  · rwa [hn, Heat.moved_self]
  · rw [Heat.moved_of_ne hn]
    exact Heat.entering_driven hd new

theorem Heat.fanned_driven {h : Heat} (hd : h.driven) : h.fanned.driven := by
  show (if _ then _ else _) = _
  split
  · next he => rw [hd]; exact congrArg _ he.symm
  · rfl

theorem Heat.period_driven {h : Heat} (hd : h.driven) (r : Int) (d : Nat) (m m' : FaultMode) : (h.period r d m m').driven :=
  Heat.fanned_driven (Heat.moved_driven (by exact hd) _)

/-- R92: no period leads into ON, so the limit of a state it enters is 0. -/
theorem Heat.entryLimit_nextState {m : FaultMode} {h : Heat} (hn : h.nextState m ≠ h.state) :
    entryLimit (h.nextState m) = 0 := by
  revert hn
  unfold Heat.nextState
  split
  · exact fun _ => rfl
  · split
    · split <;> exact fun _ => rfl
    · split
      · split <;> exact fun _ => rfl
      · exact fun hn => absurd rfl hn

theorem Heat.period_powerLimit (r : Int) (d : Nat) (m m' : FaultMode) (h : Heat) : (h.period r d m m').powerLimit =
    if (h.period r d m m').state = h.state then h.powerLimit else 0 := by
  show (if (h.observed r d).nextState m = h.state then h.powerLimit else entryLimit ((h.observed r d).nextState m)) =
    if (h.observed r d).nextState m = h.state then h.powerLimit else 0
  split
  · rfl
  · next hn => exact Heat.entryLimit_nextState hn

/-- R86, R89: a trip, and the state it leads to. -/
theorem Heat.period_trips {h : Heat} (r : Int) (d : Nat) (m m' : FaultMode)
    (he : h.set.tripAt ≤ (h.period r d m m').effective) :
    (h.period r d m m').state = .tripped ∧ (h.period r d m m').fan = 4 := by
  have hhot : (h.observed r d).set.tripAt ≤ (h.observed r d).effective := he
  have hstate : (h.observed r d).nextState m = .tripped := by
    by_cases hs : (h.observed r d).state = .tripped
    · have hzero : (h.observed r d).recovery = 0 := if_neg (by omega)
      rw [Heat.nextState_of_tripped hs, if_neg (fun hr => by rcases hr.2 with hr | hr <;> omega), hs]
    · exact if_pos ⟨hhot, hs⟩
  refine ⟨hstate, Fin.ext ?_⟩
  have hfan := fanStepOf_val ((h.observed r d).judged m)
  have hfloor : ((h.observed r d).judged m).state = .tripped := hstate
  rw [hfloor] at hfan
  have hle := (fanStepOf ((h.observed r d).judged m)).isLt
  have hfour : (stateFloor .tripped).val = 4 := rfl
  show (fanStepOf ((h.observed r d).judged m)).val = 4
  omega

/-- What a period and the receiving of its tellings leave outside a show. -/
abbrev LeavesTheRest (s t : State) : Prop :=
  t = { s with
    pins := t.pins, heat := t.heat, faults := t.faults, line := t.line
    engine := { s.engine with causes := t.engine.causes }
    lamp := { s.lamp with
      pubTherm := t.heat.thermCap, pubStall := t.heat.stallCap, pubPower := t.lamp.pubPower
      level := t.lamp.level, duty := t.lamp.duty, openTimer := t.lamp.openTimer, shortHold := t.lamp.shortHold } }

/-- The outcome of a period, with its tellings received. -/
theorem thermalPeriod_outcome {s : State} (r : Int) (h : Between s) :
    RunsPeriod r s (runPeriod r s) ∧ Calm (runPeriod r s) (drain (runPeriod r s)) ∧
      (s.engine.state ≠ .running → s.engine.state ≠ .held → LeavesTheRest s (drain (runPeriod r s))) := by
  have hp := runsPeriod r s
  obtain ⟨sigs, hs, hframe⟩ := hp.works.frame
  have hsig : ∀ sig ∈ (runPeriod r s).signals, sig.OfCause := by
    rw [hframe]
    simpa [h.2] using hs
  have hengine : (runPeriod r s).engine = s.engine := by rw [hframe]; rfl
  refine ⟨hp, drain_calm hsig, fun hr hh => ?_⟩
  have hd := drain_ofCause hsig (by rwa [hengine]) (by rwa [hengine])
  have hTherm := hp.pubTherm
  have hStall := hp.pubStall
  generalize drain (runPeriod r s) = t at hd
  generalize runPeriod r s = p at hd hframe hTherm hStall
  rw [hTherm, hStall] at hframe
  unfold LeavesTheRest
  rw [hd, hframe]
  simp [State.onPins, h.2]

end Sys2Proof.Machine

namespace Sys2Proof.Machine

/-- Settles O34: the heat unit after a period is a function of the heat unit before it, the reading, the duty and two modes
(`Heat.period`), and what the tellings of the period lead to leaves it alone, in a show too (`drain_calm`). -/
theorem aThermalPeriodUpdatesTheEstimate : Obligations.AThermalPeriodUpdatesTheEstimate := by
  refine ⟨fun s r h => ?_, fun s r h => ?_⟩
  · obtain ⟨hp, hc, -⟩ := thermalPeriod_outcome r h
    have hexec : exec (.thermalPeriod r) s = .next (drain (runPeriod r s)) := rfl
    obtain ⟨sigs, -, hframe⟩ := hp.works.frame
    have hpins : (runPeriod r s).pins = { s.pins with housing := r } := by rw [hframe]; rfl
    have hkeys : (runPeriod r s).keys = s.keys := by rw [hframe]; rfl
    have hheat := hc.heat.trans hp.heat
    generalize drain (runPeriod r s) = t at hexec hc hheat
    obtain ⟨hTherm, hStall, -, hduty⟩ := hc.lamp
    refine ⟨t, hexec, hc.pins.trans hpins, hc.keys.trans hkeys, ?_⟩
    rw [hTherm, hStall, hp.pubTherm, hp.pubStall, ← hc.heat, hheat]
    refine ⟨rfl, rfl, ?_, rfl, rfl, rfl, rfl, ?_, rfl, rfl, rfl, rfl, fun he => ?_⟩
    · exact (Bool.decide_and _ _).symm
    · rfl
    · obtain ⟨hstate, hfan⟩ := Heat.period_trips r s.lamp.duty _ _ he
      refine ⟨hstate, hfan, fun hn => ⟨?_, ?_⟩⟩
      · exact Nat.eq_zero_of_le_zero (hduty.trans_eq (hp.tripped ⟨he, hn⟩).1)
      · rw [Heat.period_powerLimit, if_neg (by rw [hstate]; exact hn.symm)]
  · obtain ⟨hp, hc, hout⟩ := thermalPeriod_outcome r h
    have hexec : exec (.thermalPeriod r) s = .next (drain (runPeriod r s)) := rfl
    have hheat := hc.heat.trans hp.heat
    generalize drain (runPeriod r s) = t at hexec hc hheat hout
    obtain ⟨-, -, hPower, hduty⟩ := hc.lamp
    refine ⟨t, hexec, ?_, ?_, ?_, ?_, ?_, ?_, fun hr hh => ⟨hout hr hh, hduty.trans hp.works.duty⟩⟩
    · rw [hheat]
      rfl
    · rw [hheat]
      rfl
    · rw [hheat]
      rfl
    · rw [hc.record .fanStall rfl]
      exact hp.stalled
    · rw [hc.record .heatWarn rfl, hc.record .heatTrip rfl, hPower, hp.pubPower, ← hc.heat, hheat]
      refine ⟨rfl, ?_, rfl, rfl, rfl, rfl, rfl, rfl, ?_, rfl, ?_, ?_, ?_, ?_, fun hd => ?_⟩
      · have hwarned := hp.warned
        rwa [hp.heat] at hwarned
      · exact Heat.period_powerLimit _ _ _ _ _
      · exact hp.retried
      · exact fun ht => (hp.tripped ht).2
      · exact hp.recovered
      · refine (fanStepOf_val _).trans ?_
        rw [fanThreshold_eq, fanReached_val, Heat.judged_fan_val, stateFloor_val]
        rfl
      · exact Heat.period_driven hd _ _ _ _
    · rw [hheat]
      rfl

end Sys2Proof.Machine
